-- ==== Sys2Proof/Word.lean ====
section
/-! DEFINITION. Word.lean: the words the JS-4 exchanges with the outside and the numbers by which it names its
own parts (00_scope section 4.1 and 4.3). -/

namespace Sys2Proof

/-- One byte of the cell link (R174). -/
abbrev Byte := BitVec 8

/-- A 16-bit value as a drive hands it over: a depth, a stroke, or a signed thrust or force sample. -/
abbrev Half := BitVec 16

/-- A station time: a 32-bit count of milliseconds that wraps (00_scope section 4.2). -/
abbrev Stamp := BitVec 32

/-- Heads H0 to H3. -/
abbrev HeadNo := Fin 4

/-- Heater pockets 0 to 5. -/
abbrev PocketNo := Fin 6

/-- Press permits 0 and 1. -/
abbrev PermitNo := Fin 2

/-- Signature channels by their CHANNEL_READ numbers: 0 D0, 1 D1, 2 S0, 3 S1. -/
abbrev ChannelNo := Fin 4

/-- Rivet codes 0 to 31. -/
abbrev RivetCode := Fin 32

/-- Working passes 0 to 7. -/
abbrev Pass := Fin 8

/-- Zones 0 to 15 of a rail position. -/
abbrev Zone := Fin 16

end Sys2Proof
end

