-- ==== Sys2Proof/Config.lean ====
section
/-! DEFINITION. Config.lean: the capacities the manual fixes, and the free values: constants with no body, so that
nothing can be proved of the number they stand for. -/

namespace Sys2Proof.Config

/-- Records the joint table holds at most (R1). -/
def maxJoints : Nat := 1024

/-- Records one JOINT_LOAD batch holds at most (R9). -/
def maxBatch : Nat := 19

/-- Requests the request queue holds at most (R178). -/
def maxRequests : Nat := 4

/-- Replies the immediate reply FIFO holds at most (R179). -/
def maxReplies : Nat := 4

/-- Records the report queue holds at most (R166). -/
def maxReports : Nat := 8

/-- Entries the rivet table holds at most (R99). -/
def maxRivetEntries : Nat := 32

/-- The greatest magazine count (R102). -/
def maxMagazine : Nat := 9999

/-- Reworks one joint is given at most (R15). -/
def maxReworks : Nat := 3

/-- The greatest value of a link error count (R176). -/
def maxLinkCount : Nat := 65535

/-- Milliseconds of silence a frame in progress survives (R175). -/
def frameGap : Nat := 20

/-- FREE VALUE (log entry 9). The n-th station setting where none has been accepted. R147 refuses ARM then, so no
run from reset reads it; it is what a state outside every run would read. -/
opaque unsetStation : Nat → Nat

/-- FREE VALUE (log entry 9). The n-th setting of a rivet class that is undefined. R100 and R147 keep every code the
rivet table can return defined while the station works, so no run from reset reads it. -/
opaque undefinedClass : RivetCode → Nat → Int

end Sys2Proof.Config
end

