-- ==== Sys2Proof/Syntax.lean ====
section
/-! DEFINITION. Syntax.lean: the commands of the JS-4, one constructor for each row of spec/opcode_table.json. -/

namespace Sys2Proof

/-- A command the part can be given. A request or directive row stands for a good frame of that KIND reaching the
link's sorter (R177), with its TAG and, for a request, its payload bytes (log entry 1). Head and pocket numbers of
the drive and heater ports are the ports' own. -/
inductive Instr where
  /-- COLD_START (R173): power is applied or the reset pin is released, with the two line-speed pins at these levels
  (`true` is high). -/
  | coldStart (pin1 pin2 : Bool)
  /-- FRAME_RECEIVE (R177): the bytes of one incoming frame, from its start byte on, each with its stop bit and
  without a gap. -/
  | frameReceive (bytes : List Byte)
  /-- FRAME_GAP_TIMEOUT (R175): more than 20 ms passed after a byte of the frame in progress. -/
  | frameGapTimeout
  /-- LINK_FLUSH (R183). -/
  | linkFlush (tag : Byte) (payload : List Byte)
  /-- TRANSMIT_DONE (R181): the last byte of the frame being sent has gone. -/
  | transmitDone
  /-- JOINT_LOAD (R9). -/
  | jointLoad (tag : Byte) (payload : List Byte)
  /-- JOINT_CLEAR (R11). -/
  | jointClear (tag : Byte) (payload : List Byte)
  /-- JOINT_READ (R12). -/
  | jointRead (tag : Byte) (payload : List Byte)
  /-- JOINT_FIND (R13). -/
  | jointFind (tag : Byte) (payload : List Byte)
  /-- JOINT_SKIP (R14). -/
  | jointSkip (tag : Byte) (payload : List Byte)
  /-- JOINT_REWORK (R15). -/
  | jointRework (tag : Byte) (payload : List Byte)
  /-- DATUM_SET (R17). -/
  | datumSet (tag : Byte) (payload : List Byte)
  /-- DATUM_READ (R17). -/
  | datumRead (tag : Byte) (payload : List Byte)
  /-- STATION_SET (R184). -/
  | stationSet (tag : Byte) (payload : List Byte)
  /-- STATION_READ (R185). -/
  | stationRead (tag : Byte) (payload : List Byte)
  /-- PERMISSIVE_SET (R38). -/
  | permissiveSet (tag : Byte) (payload : List Byte)
  /-- STATUS_READ (R186). -/
  | statusRead (tag : Byte) (payload : List Byte)
  /-- RESTART (R159). -/
  | restart (tag : Byte) (payload : List Byte)
  /-- HEAD_READ (R68). -/
  | headRead (tag : Byte) (payload : List Byte)
  /-- HEAD_ENABLE (R65). -/
  | headEnable (tag : Byte) (payload : List Byte)
  /-- HEAD_DISABLE (R64). -/
  | headDisable (tag : Byte) (payload : List Byte)
  /-- HEAD_RESET (R65). -/
  | headReset (tag : Byte) (payload : List Byte)
  /-- PECK_SET (R49). -/
  | peckSet (tag : Byte) (payload : List Byte)
  /-- FILTER_SET (R96). -/
  | filterSet (tag : Byte) (payload : List Byte)
  /-- FILTER_READ (R96). -/
  | filterRead (tag : Byte) (payload : List Byte)
  /-- CHANNEL_READ (R97). -/
  | channelRead (tag : Byte) (payload : List Byte)
  /-- RIVET_TABLE_SET (R100). -/
  | rivetTableSet (tag : Byte) (payload : List Byte)
  /-- RIVET_CLASS_SET (R101). -/
  | rivetClassSet (tag : Byte) (payload : List Byte)
  /-- MAGAZINE_SET (R102). -/
  | magazineSet (tag : Byte) (payload : List Byte)
  /-- HEATER_READ (R122). -/
  | heaterRead (tag : Byte) (payload : List Byte)
  /-- EVENT_CONFIG (R170). -/
  | eventConfig (tag : Byte) (payload : List Byte)
  /-- EVENT_ACK (R169). -/
  | eventAck (tag : Byte) (payload : List Byte)
  /-- EVENT_READ (R171). -/
  | eventRead (tag : Byte) (payload : List Byte)
  /-- ARM (R147). -/
  | arm (tag : Byte)
  /-- START (R150). -/
  | start (tag : Byte)
  /-- HOLD (R151). -/
  | hold (tag : Byte)
  /-- RESUME (R153). -/
  | resume (tag : Byte)
  /-- DRAIN (R154). -/
  | drain (tag : Byte)
  /-- DISARM (R156). -/
  | disarm (tag : Byte)
  /-- ABORT (R157). -/
  | abort (tag : Byte)
  /-- RECOVER (R158). -/
  | recover (tag : Byte)
  /-- HOME_DONE (R63) on a head's drive port. -/
  | homeDone (head : HeadNo)
  /-- TRAVEL_DONE (R43) on a head's drive port. -/
  | travelDone (head : HeadNo)
  /-- CLAMP_DONE (R44) on a head's drive port. -/
  | clampDone (head : HeadNo)
  /-- DRILL_SAMPLE (R46): a depth and a signed thrust sample. -/
  | drillSample (head : HeadNo) (depth thrust : Half)
  /-- PECK_BACK (R48) on a head's drive port. -/
  | peckBack (head : HeadNo)
  /-- RETRACT_DONE (R52) on a head's drive port. -/
  | retractDone (head : HeadNo)
  /-- LOAD_DONE (R105) on the heater port, naming a pocket. -/
  | loadDone (pocket : Byte)
  /-- HEAT_TIME_EXPIRY (R106): the heat timer of a pocket has reached 0. -/
  | heatTimeExpiry (pocket : PocketNo)
  /-- HOLD_WINDOW_EXPIRY (R107): the hold timer of a pocket has reached 0. -/
  | holdWindowExpiry (pocket : PocketNo)
  /-- EJECT_DONE (R108) on the heater port, naming a pocket. -/
  | ejectDone (pocket : Byte)
  /-- PORT_TIMER_EXPIRY (R108): the port timer of a pocket has reached 0. -/
  | portTimerExpiry (pocket : PocketNo)
  /-- FEED_DONE (R130) on a head's drive port. -/
  | feedDone (head : HeadNo)
  /-- SET_SAMPLE (R93): a ram stroke and a signed force sample. -/
  | setSample (head : HeadNo) (stroke force : Half)
  /-- SET_DONE (R131) on a head's drive port. -/
  | setDone (head : HeadNo)
  /-- RELEASE_DONE (R57) on a head's drive port. -/
  | releaseDone (head : HeadNo)
  /-- DRIVE_FAULT (R42) with its code. -/
  | driveFault (head : HeadNo) (code : Byte)
  /-- PHASE_TIMEOUT (R58): the phase timer of a head has reached 0. -/
  | phaseTimeout (head : HeadNo)
  /-- RIVET_WAIT_EXPIRY (R54): the rivet wait timer of a head has reached 0. -/
  | rivetWaitExpiry (head : HeadNo)
  /-- BYTE_ARRIVAL (R175): a byte, and whether its stop bit came with it. -/
  | byteArrival (byte : Byte) (stopBit : Bool)
  deriving DecidableEq, Repr

end Sys2Proof
end

