-- ==== Sys2Proof/WellFormed.lean ====
section
/-! DEFINITION. WellFormed.lean: which commands the outside world can send at all. `exec` gives every command a
meaning, well formed or not; the check says where the manual's own ranges end. -/

namespace Sys2Proof

/-- A payload the envelope can carry (R190). -/
def payloadFits (payload : List Byte) : Bool := payload.length ≤ 240

/-- A depth at which a drive sends a thrust sample: even and at most 20,000 (00_scope section 4.1, section 3.3.2). -/
def sampleDepth (depth : Half) : Bool := depth.toNat % 2 == 0 && depth.toNat ≤ 20000

/-- The byte sequences that can be one frame on the line: a start byte and at most LEN, LEN = 242 bytes and the
check after it (R190). -/
def frameFits (bytes : List Byte) : Bool := bytes.head? == some 0x5A && bytes.length ≤ 246

/-- A command within the ranges the manual gives its operands. -/
def Instr.wellFormed : Instr → Bool
  | .coldStart _ _ => true
  | .frameReceive bytes => frameFits bytes
  | .frameGapTimeout => true
  | .linkFlush _ p => payloadFits p
  | .transmitDone => true
  | .jointLoad _ p => payloadFits p
  | .jointClear _ p => payloadFits p
  | .jointRead _ p => payloadFits p
  | .jointFind _ p => payloadFits p
  | .jointSkip _ p => payloadFits p
  | .jointRework _ p => payloadFits p
  | .datumSet _ p => payloadFits p
  | .datumRead _ p => payloadFits p
  | .stationSet _ p => payloadFits p
  | .stationRead _ p => payloadFits p
  | .permissiveSet _ p => payloadFits p
  | .statusRead _ p => payloadFits p
  | .restart _ p => payloadFits p
  | .headRead _ p => payloadFits p
  | .headEnable _ p => payloadFits p
  | .headDisable _ p => payloadFits p
  | .headReset _ p => payloadFits p
  | .peckSet _ p => payloadFits p
  | .filterSet _ p => payloadFits p
  | .filterRead _ p => payloadFits p
  | .channelRead _ p => payloadFits p
  | .rivetTableSet _ p => payloadFits p
  | .rivetClassSet _ p => payloadFits p
  | .magazineSet _ p => payloadFits p
  | .heaterRead _ p => payloadFits p
  | .eventConfig _ p => payloadFits p
  | .eventAck _ p => payloadFits p
  | .eventRead _ p => payloadFits p
  | .arm _ => true
  | .start _ => true
  | .hold _ => true
  | .resume _ => true
  | .drain _ => true
  | .disarm _ => true
  | .abort _ => true
  | .recover _ => true
  | .homeDone _ => true
  | .travelDone _ => true
  | .clampDone _ => true
  | .drillSample _ depth _ => sampleDepth depth
  | .peckBack _ => true
  | .retractDone _ => true
  | .loadDone _ => true
  | .heatTimeExpiry _ => true
  | .holdWindowExpiry _ => true
  | .ejectDone _ => true
  | .portTimerExpiry _ => true
  | .feedDone _ => true
  | .setSample _ stroke _ => stroke.toNat ≤ 20000
  | .setDone _ => true
  | .releaseDone _ => true
  | .driveFault _ _ => true
  | .phaseTimeout _ => true
  | .rivetWaitExpiry _ => true
  | .byteArrival _ _ => true

end Sys2Proof
end

