-- ==== Sys2Proof/Decode.lean ====
section
/-! DEFINITION. Decode.lean: the commands that the table's bits spell. spec/opcode_table.json gives no row any bits
(its "fields" are empty throughout), so no word spells a command; the KIND codes by which requests and directives are
carried on the cell link are decoded by the link itself (Machine/Link.lean). -/

namespace Sys2Proof

/-- The command a word spells by the table's bits: none, since no row of the table has bits. -/
def decodeTableWord (_nbits _w : Nat) : Option Instr := none

end Sys2Proof
end

