-- ==== Sys2Proof/Machine/State.lean ====
section
/-! DEFINITION. Machine/State.lean: the state of the JS-4, block by block as the manual's section 3 lays the part
out, and its value after cold start. Plain data throughout. -/

namespace Sys2Proof.Machine

/-! ## Names the blocks share -/

/-- The station modes (R140), in the order of their codes (R191). -/
inductive Mode where
  | setup | arming | armed | running | holding | held | draining | aborted
  deriving DecidableEq, Repr

/-- The directives that reach the mode controller, in priority order, the highest first (R143). -/
inductive Directive where
  | abort | recover | drain | hold | resume | start | disarm | arm
  deriving DecidableEq, Repr

/-- The joint states (R2), in the order of their codes (R191). -/
inductive JointState where
  | pending | assigned | drilling | drilled | setting | complete | rejected | skipped | locked
  deriving DecidableEq, Repr

/-- The head states (R40), in the order of their codes (R191). -/
inductive HeadState where
  | parked | homing | idle | travel | clamp | drillWait | drill | retract | awaitRivet | feed | set | release
  | stopped | fault | offline
  deriving DecidableEq, Repr

/-- The sub-phases of DRILL (R40). -/
inductive SubPhase where
  | cut | peckRetract | peckReturn
  deriving DecidableEq, Repr

/-- The rejection reasons (R8), in the order of their codes (R191). -/
inductive Reason where
  | outOfTravel | noMaterial | depthLimit | layerMismatch | gripOutOfTolerance | noRivetForGrip | rivetTimeout
  | setForceShort | setWorkLow | setWorkHigh | headFault | aborted
  deriving DecidableEq, Repr

/-- An outcome a head records for its joint (R40). -/
inductive HeadOutcome where
  | good
  | rejected (reason : Reason)
  deriving DecidableEq, Repr

/-- The drilling feed rates (R47). -/
inductive FeedRate where
  | reEntry | cutting | breakthrough
  deriving DecidableEq, Repr

/-- The states of the measurement machine (section 4.5). -/
inductive MachineState where
  | waiting | cutting | dip | finished
  deriving DecidableEq, Repr

/-- How a measurement ended (R71). -/
inductive Ending where
  | finished | depthLimit | noMaterial | cutShort
  deriving DecidableEq, Repr

/-- Rail sides (R1). -/
inductive Side where
  | a | b
  deriving DecidableEq, Repr

/-- Joint kinds (R1). -/
inductive JointKind where
  | rivet | hole
  deriving DecidableEq, Repr

/-- Heat order classes (R111). -/
inductive OrderClass where
  | demand | preHeat
  deriving DecidableEq, Repr

/-- The event kinds, in the order of their numbers (R162). -/
inductive EventKind where
  | stationStarted | modeChanged | modeCommandRefused | armFailed | passAdvanced | passBlocked | programComplete
  | headFault | rivetScrapped | magazineEmpty | heaterFault | signalSaturated | layerOverflow | jointRejected
  deriving DecidableEq, Repr

/-- The line rates, in the order of their codes (R174, R191). -/
inductive LineRate where
  | bps9600 | bps38400 | bps115200 | bps460800
  deriving DecidableEq, Repr

/-- The reply status codes, in the order of their numbers (R182). -/
inductive Status where
  | ok | accepted | alreadyPending | busy | wrongMode | badLength | badField | unknownKind | full | notFound
  | notReworkable | reworkLimit | wrongState
  deriving DecidableEq, Repr

/-! ## The joint table (chapter 1) -/

/-- The identity of a joint, written once at load (R1). The nominal position is `zone * 65536 + offset`. -/
structure JointIdentity where
  id : Nat
  side : Side
  zone : Zone
  offset : Nat
  pass : Pass
  kind : JointKind
  diameter : Fin 4
  key : Bool
  expectedGrip : Option Nat
  tolerance : Option Nat
  expectedLayers : Option Nat
  gate : Option (Fin 4)
  deriving DecidableEq, Repr

/-- The result parts of a joint (R3). -/
structure JointResult where
  entry : Option Nat
  exit : Option Nat
  grip : Option Nat
  layers : Option Nat
  boundaries : Option (List Nat)
  peckCount : Option Nat
  code : Option RivetCode
  setWork : Option Int
  peakForce : Option Int
  saturated : Bool
  overflow : Bool
  deriving DecidableEq, Repr

/-- A result with no part written. -/
def JointResult.none : JointResult :=
  { entry := .none, exit := .none, grip := .none, layers := .none, boundaries := .none, peckCount := .none,
    code := .none, setWork := .none, peakForce := .none, saturated := false, overflow := false }

/-- A rejection reason with its reworkability mark (R2, R8). -/
structure Rejection where
  reason : Reason
  reworkable : Bool
  deriving DecidableEq, Repr

/-- A joint record: its identity and its working fields (R1, R2). Its index is its place in the table. -/
structure Joint where
  identity : JointIdentity
  state : JointState
  corrected : Option Nat
  head : Option HeadNo
  phaseAtEnd : Option HeadState
  rejection : Option Rejection
  reworks : Nat
  pocket : Option PocketNo
  result : JointResult
  deriving DecidableEq, Repr

/-- The joint table with the datum table and the current pass (section 3 of 00_scope). -/
structure JointTable where
  joints : List Joint
  currentPass : Option Pass
  datum : Vector Int 16
  deriving DecidableEq, Repr

/-! ## The dispatcher (chapter 2) -/

/-- A rail claim: the closed interval `lo` to `hi` (R26). -/
structure Claim where
  lo : Nat
  hi : Nat
  deriving DecidableEq, Repr

/-- Rail claims and permissive flags (R26, R38). -/
structure Dispatcher where
  claims : Vector (Option Claim) 4
  flags : Vector Bool 4
  deriving DecidableEq, Repr

/-! ## Head units (chapter 3) -/

/-- A peck profile: re-entry distance A and peck length B (R40). -/
structure PeckProfile where
  a : Nat
  b : Nat
  deriving DecidableEq, Repr

/-- The rivet wait timer, in milliseconds left (R40, R53). -/
inductive WaitTimer where
  | stopped
  | counting (left : Nat)
  | paused (left : Nat)
  deriving DecidableEq, Repr

/-- Why a head faulted (R61). -/
inductive FaultCause where
  | drive (code : Byte)
  | timeout (phase : HeadState)
  deriving DecidableEq, Repr

/-- The fault record of a head (R40, R61). -/
structure FaultRecord where
  cause : FaultCause
  phase : HeadState
  joint : Option Nat
  time : Stamp
  deriving DecidableEq, Repr

/-- The orders a head unit sends to its drive (R41). -/
inductive DriveOrder where
  | home
  | move (target : Nat)
  | clamp
  | feed (rate : FeedRate)
  | peckRetract (depth : Nat)
  | retract
  | takeRivet (pocket : PocketNo)
  | set (force : Int)
  | release
  | stop
  deriving DecidableEq, Repr

/-- A head record (R40), with the order standing at its drive (R41; the column of chapter 3's opening table). -/
structure Head where
  state : HeadState
  subPhase : Option SubPhase
  held : Option Nat
  position : Option Nat
  target : Option Nat
  outcome : Option HeadOutcome
  active : PeckProfile
  buffered : Option PeckProfile
  deepest : Nat
  peckStart : Nat
  peckCounter : Nat
  rate : Option FeedRate
  phaseTimer : Option Nat
  rivetWait : WaitTimer
  fault : Option FaultRecord
  order : Option DriveOrder
  deriving DecidableEq, Repr

/-- A head at cold start (R69). -/
def Head.cold : Head :=
  { state := .parked, subPhase := none, held := none, position := none, target := none, outcome := none,
    active := ⟨0, 0⟩, buffered := none, deepest := 0, peckStart := 0, peckCounter := 0, rate := none,
    phaseTimer := none, rivetWait := .stopped, fault := none, order := none }

/-! ## The signature unit (chapter 4) -/

/-- A channel record (R71). A channel is GRANTED exactly while it has a holder. -/
structure Channel where
  holder : Option HeadNo
  lastHolder : Option HeadNo
  joint : Option Nat
  ring : Vector Int 16
  writeIndex : Fin 16
  sampleCount : Nat
  accumulator : Int
  mv : Bool
  ev : Bool
  machine : MachineState
  lastOutput : Option Int
  lastDepth : Option Int
  peak : Option Int
  valley : Option Int
  valleyDepth : Option Nat
  runCount : Nat
  runStart : Option Nat
  entry : Option Nat
  layers : Option Nat
  boundaries : List Nat
  exit : Option Nat
  ending : Option Ending
  peakForce : Option Int
  lastStroke : Option Nat
  setWork : Option Int
  deriving DecidableEq, Repr

/-- A channel at cold start (R98). -/
def Channel.cold : Channel :=
  { holder := none, lastHolder := none, joint := none, ring := Vector.replicate 16 0, writeIndex := 0,
    sampleCount := 0, accumulator := 0, mv := false, ev := false, machine := .waiting, lastOutput := none,
    lastDepth := none, peak := none, valley := none, valleyDepth := none, runCount := 0, runStart := none,
    entry := none, layers := none, boundaries := [], exit := none, ending := none, peakForce := none,
    lastStroke := none, setWork := none }

/-- The filter settings (R95). N is the number of `taps`. -/
structure FilterSettings where
  taps : List Int
  engage : Nat
  dropRatio : Nat
  rebound : Nat
  exitLevel : Nat
  confirm : Nat
  depthLimit : Nat
  setWeight : Nat
  deriving DecidableEq, Repr

/-- The filter settings at cold start (R95). -/
def FilterSettings.cold : FilterSettings :=
  { taps := [32767], engage := 4000, dropRatio := 16384, rebound := 2000, exitLevel := 1000, confirm := 8,
    depthLimit := 20000, setWeight := 1024 }

/-- The four channels, the drill channel wait queue and the filter settings (R71, R73, R95). -/
structure Signature where
  channels : Vector Channel 4
  drillQueue : List HeadNo
  filter : FilterSettings
  deriving DecidableEq, Repr

/-! ## Rivet selection and the heater (chapter 5) -/

/-- A rivet table entry (R99). -/
structure RivetEntry where
  diameter : Fin 4
  gripMin : Nat
  gripMax : Nat
  code : RivetCode
  deriving DecidableEq, Repr

/-- A defined rivet class (R101); times in units of 100 ms. -/
structure RivetClass where
  heatTime : Nat
  holdWindow : Nat
  forceTarget : Int
  workMin : Int
  workMax : Int
  deriving DecidableEq, Repr

/-- A pocket record (R103): each state with the fields it has. Timers are milliseconds left. The port order that
stands at the heater is LOAD in `loading` and EJECT in `ejecting` (R104). -/
inductive Pocket where
  | empty
  | loading (code : RivetCode) (owner : Option Nat) (port : Nat)
  | heating (code : RivetCode) (owner : Option Nat) (heat : Nat)
  | ready (code : RivetCode) (owner : Option Nat) (hold : Nat) (stamp : Stamp)
  | ejecting (code : RivetCode) (port : Nat)
  | disabled
  deriving DecidableEq, Repr

/-- A heat order (R111). -/
structure HeatOrder where
  cls : OrderClass
  code : RivetCode
  joint : Nat
  deriving DecidableEq, Repr

/-- The orders of the heater port (R104). -/
inductive HeaterOrder where
  | load (pocket : PocketNo) (code : RivetCode)
  | eject (pocket : PocketNo)
  deriving DecidableEq, Repr

/-- Rivet selection and heater control (section 3 of 00_scope). -/
structure Heater where
  table : List RivetEntry
  classes : Vector (Option RivetClass) 32
  magazines : Vector Nat 32
  pockets : Vector Pocket 6
  orders : List HeatOrder
  deriving DecidableEq, Repr

/-! ## The press arbiter (chapter 6) -/

/-- What a GRANTED permit holds (R124). -/
structure PermitGrant where
  holder : HeadNo
  joint : Nat
  code : RivetCode
  forceTarget : Option Int
  deriving DecidableEq, Repr

/-- The two permits, `none` while FREE, and the permit wait queue (R124, R126). -/
structure Arbiter where
  permits : Vector (Option PermitGrant) 2
  queue : List HeadNo
  deriving DecidableEq, Repr

/-! ## The mode controller (chapter 7) -/

/-- The mode record (R140). The pending set is kept in priority order without repeats. -/
structure ModeControl where
  mode : Mode
  inProgress : Option Directive
  pendingSet : List Directive
  stationMark : Bool
  restartMark : Bool
  deriving DecidableEq, Repr

/-! ## The report unit (chapter 8) -/

/-- The latch states other than CLEAR (R163). -/
inductive Place where
  | heldBack | queued | sent
  deriving DecidableEq, Repr

/-- A latch record with the state its latch is in (R163). -/
structure Held where
  place : Place
  subject : Nat
  first : Stamp
  mode : Mode
  count : Nat
  deriving DecidableEq, Repr

/-- A latch (R163): CLEAR exactly while it holds no record. -/
structure Latch where
  enabled : Bool
  priority : Fin 8
  held : Option Held
  deriving DecidableEq, Repr

/-- A latch at cold start (R173). -/
def Latch.cold (priority : Fin 8) : Latch := { enabled := true, priority, held := none }

/-- The latches by kind number, and the report queue as the kinds whose records stand in it (R166). -/
structure Reports where
  latches : Vector Latch 14
  queue : List EventKind
  deriving DecidableEq, Repr

/-! ## The cell link (chapter 9) -/

/-- The station settings (R184). -/
structure StationSettings where
  railLength : Nat
  clearance : Nat
  homeTime : Nat
  travelTime : Nat
  clampTime : Nat
  drillTime : Nat
  retractTime : Nat
  feedTime : Nat
  setTime : Nat
  releaseTime : Nat
  loadTime : Nat
  ejectTime : Nat
  rivetWaitLimit : Nat
  deriving DecidableEq, Repr

/-- The content of a frame between LEN and CRC (R190). -/
structure Frame where
  kind : Byte
  tag : Byte
  payload : List Byte
  deriving DecidableEq, Repr

/-- A reply waiting in a holding place (R181): tag, KIND answered, status and content. -/
structure Reply where
  kind : Byte
  tag : Byte
  status : Status
  content : List Byte
  deriving DecidableEq, Repr

/-- The receive assembler (R175), with the bytes taken since KIND and, in a frame in progress, the milliseconds
passed since its last byte. -/
inductive Assembler where
  | hunting
  | length (gap : Nat)
  | body (len : Byte) (got : List Byte) (gap : Nat)
  | check (len : Byte) (got : List Byte) (high : Option Byte) (gap : Nat)
  deriving DecidableEq, Repr

/-- The cell link: the station settings it holds, the assembler, the holding places, the frame being sent and the
error counts (section 3 of 00_scope, R184). -/
structure Link where
  settings : Option StationSettings
  lineRate : LineRate
  assembler : Assembler
  requests : List Frame
  fifo : List Reply
  slot : Option Reply
  sending : Option Frame
  frameErrors : Nat
  overruns : Nat
  deriving DecidableEq, Repr

/-! ## The whole part -/

/-- An order the part put on one of its machinery ports (R41, R104). -/
inductive PortOrder where
  | drive (head : HeadNo) (order : DriveOrder)
  | heater (order : HeaterOrder)
  deriving DecidableEq, Repr

/-- The state of the part. `outgoing` and `pending` are the model's own: the orders the last command put on the drive
ports and the heater port, oldest first (log entry 12), and the commands waiting to be taken, first in, first out. -/
structure State where
  table : JointTable
  dispatcher : Dispatcher
  heads : Vector Head 4
  signature : Signature
  heater : Heater
  arbiter : Arbiter
  control : ModeControl
  reports : Reports
  link : Link
  time : Stamp
  outgoing : List PortOrder
  pending : List Instr
  deriving DecidableEq, Repr

/-- Reasons a step faults: there is none. The manual gives every command an effect in every state, so no command of
this model raises a fault (NOTES.md, Stops). Safe. -/
inductive Fault where
  deriving DecidableEq, Repr

/-- Reasons a command is refused. -/
inductive Refusal where
  /-- Raised by an arm of `exec` whose command has no meaning yet; no arm raises it now. Safe. -/
  | notModelled (mnemonic : String)
  deriving DecidableEq, Repr

/-- The joint table at cold start (R23). -/
def JointTable.cold : JointTable := { joints := [], currentPass := none, datum := Vector.replicate 16 0 }

/-- The dispatcher at cold start (R29, R38). -/
def Dispatcher.cold : Dispatcher := { claims := Vector.replicate 4 none, flags := Vector.replicate 4 false }

/-- The signature unit at cold start (R98). -/
def Signature.cold : Signature :=
  { channels := Vector.replicate 4 Channel.cold, drillQueue := [], filter := FilterSettings.cold }

/-- Heater control at cold start (R123). -/
def Heater.cold : Heater :=
  { table := [], classes := Vector.replicate 32 none, magazines := Vector.replicate 32 0,
    pockets := Vector.replicate 6 .empty, orders := [] }

/-- The press arbiter at cold start (R139). -/
def Arbiter.cold : Arbiter := { permits := Vector.replicate 2 none, queue := [] }

/-- The mode controller at cold start (R161). -/
def ModeControl.cold : ModeControl :=
  { mode := .setup, inProgress := none, pendingSet := [], stationMark := false, restartMark := false }

/-- The report unit at cold start, before STATION_STARTED is posted: every kind enabled with its default priority,
every latch CLEAR (R162, R173). -/
def Reports.cold : Reports :=
  { latches := #v[Latch.cold 7, Latch.cold 4, Latch.cold 5, Latch.cold 5, Latch.cold 2, Latch.cold 5, Latch.cold 3,
      Latch.cold 6, Latch.cold 3, Latch.cold 4, Latch.cold 5, Latch.cold 2, Latch.cold 2, Latch.cold 3],
    queue := [] }

/-- The cell link at cold start with a given line rate (R187). -/
def Link.cold (rate : LineRate) : Link :=
  { settings := none, lineRate := rate, assembler := .hunting, requests := [], fifo := [], slot := none,
    sending := none, frameErrors := 0, overruns := 0 }

/-- Every block at its cold-start value, before STATION_STARTED is posted. -/
def State.cold (rate : LineRate) : State :=
  { table := .cold, dispatcher := .cold, heads := Vector.replicate 4 Head.cold, signature := .cold, heater := .cold,
    arbiter := .cold, control := .cold, reports := .cold, link := .cold rate, time := 0, outgoing := [], pending := [] }

/-- The part right after cold start: STATION_STARTED has been posted with subject COLD and stands QUEUED, and the
transmitter is idle (R173, R187). Its frame starts at the first event or millisecond that follows, behind a reply that
is called for first (log entry 8). The line rate is that of both pins low (log entry 7). -/
def State.reset : State :=
  { State.cold .bps9600 with
    reports := {
      latches := Reports.cold.latches.set 0
        { Latch.cold 7 with held := some { place := .queued, subject := 0, first := 0, mode := .setup, count := 1 } }
      queue := [.stationStarted] } }

end Sys2Proof.Machine
end

