-- ==== Sys2Proof/Machine/Ops.lean ====
section
/-! DEFINITION. Machine/Ops.lean: the named reads and writes of the state's pieces, and the small facts about modes,
heads and rails that several blocks share. -/

namespace Sys2Proof.Machine

/-! ## Heads, claims and orders -/

/-- The four heads in ascending number. -/
def headNos : List HeadNo := [0, 1, 2, 3]

/-- A head's record. -/
def State.head (s : State) (h : HeadNo) : Head := s.heads[h]

/-- The state with a head's record replaced. -/
def State.setHead (s : State) (h : HeadNo) (x : Head) : State := { s with heads := s.heads.set h x }

/-- The state with a head's record changed. -/
def State.modHead (s : State) (h : HeadNo) (f : Head → Head) : State := s.setHead h (f (s.head h))

/-- A head's rail claim (R26). -/
def State.claim (s : State) (h : HeadNo) : Option Claim := s.dispatcher.claims[h]

/-- The state with a head's rail claim replaced. -/
def State.setClaim (s : State) (h : HeadNo) (c : Option Claim) : State :=
  { s with dispatcher := { s.dispatcher with claims := s.dispatcher.claims.set h c } }

/-- A drive order is sent: it replaces the order standing at that drive (R41). -/
def State.sendDrive (s : State) (h : HeadNo) (o : DriveOrder) : State :=
  { s.modHead h (fun x => { x with order := some o }) with outgoing := s.outgoing ++ [.drive h o] }

/-- A heater order is sent (R104). -/
def State.sendHeater (s : State) (o : HeaterOrder) : State :=
  { s with outgoing := s.outgoing ++ [.heater o] }

/-- A head starts a timed phase: it enters the phase, its phase timer starts and its order is sent (R58). -/
def State.enterPhase (s : State) (h : HeadNo) (phase : HeadState) (timeout : Nat) (o : DriveOrder) : State :=
  (s.modHead h (fun x => { x with state := phase, phaseTimer := some timeout })).sendDrive h o

/-- The lower head of a rail is the one nearer position 0 (00_scope section 1.1). -/
def isLower (h : HeadNo) : Bool := h.val % 2 == 0

/-- The other head of the same rail. -/
def neighbour : HeadNo → HeadNo
  | 0 => 1
  | 1 => 0
  | 2 => 3
  | 3 => 2

/-- The rail a head stands on. -/
def railOf (h : HeadNo) : Side := if h.val < 2 then .a else .b

/-! ## Joints -/

/-- The joint record at an index. -/
def State.joint? (s : State) (i : Nat) : Option Joint := s.table.joints[i]?

/-- The state with the joint at an index changed; nothing where the index is not in use. -/
def State.modJoint (s : State) (i : Nat) (f : Joint → Joint) : State :=
  { s with table := { s.table with joints := s.table.joints.modify i f } }

/-- The head that holds a joint (R4). -/
def State.holderOf (s : State) (i : Nat) : Option HeadNo := headNos.find? (fun h => (s.head h).held == some i)

/-- The record of the joint a head holds. -/
def State.heldJoint (s : State) (h : HeadNo) : Option Joint := (s.head h).held.bind s.joint?

/-! ## Channels, pockets, permits and latches -/

/-- A signature channel's record. -/
def State.channel (s : State) (c : ChannelNo) : Channel := s.signature.channels[c]

/-- The state with a channel's record replaced. -/
def State.setChannel (s : State) (c : ChannelNo) (x : Channel) : State :=
  { s with signature := { s.signature with channels := s.signature.channels.set c x } }

/-- The state with a channel's record changed. -/
def State.modChannel (s : State) (c : ChannelNo) (f : Channel → Channel) : State := s.setChannel c (f (s.channel c))

/-- The drill channel a head holds (R74). -/
def State.drillChannelOf (s : State) (h : HeadNo) : Option ChannelNo :=
  ([0, 1] : List ChannelNo).find? (fun c => (s.channel c).holder == some h)

/-- The six pockets in ascending number. -/
def pocketNos : List PocketNo := [0, 1, 2, 3, 4, 5]

/-- A pocket's record. -/
def State.pocket (s : State) (p : PocketNo) : Pocket := s.heater.pockets[p]

/-- The state with a pocket's record replaced. -/
def State.setPocket (s : State) (p : PocketNo) (x : Pocket) : State :=
  { s with heater := { s.heater with pockets := s.heater.pockets.set p x } }

/-- The state with the heat order queue replaced. -/
def State.setOrders (s : State) (q : List HeatOrder) : State := { s with heater := { s.heater with orders := q } }

/-- The rivet code a pocket holds (R103). -/
def Pocket.code? : Pocket → Option RivetCode
  | .loading c _ _ => some c
  | .heating c _ _ => some c
  | .ready c _ _ _ => some c
  | .ejecting c _ => some c
  | .empty => none
  | .disabled => none

/-- The joint that owns a pocket (R103). -/
def Pocket.owner? : Pocket → Option Nat
  | .loading _ o _ => o
  | .heating _ o _ => o
  | .ready _ o _ _ => o
  | .ejecting _ _ => none
  | .empty => none
  | .disabled => none

/-- The pocket with its owner replaced, where its state has one; state, code and timer are kept (R115). -/
def Pocket.withOwner (o : Option Nat) : Pocket → Pocket
  | .loading c _ t => .loading c o t
  | .heating c _ t => .heating c o t
  | .ready c _ t st => .ready c o t st
  | .ejecting c t => .ejecting c t
  | .empty => .empty
  | .disabled => .disabled

/-- A press permit: what its holder was granted, or `none` while it is FREE (R124). -/
def State.permit (s : State) (k : PermitNo) : Option PermitGrant := s.arbiter.permits[k]

/-- The state with a permit replaced. -/
def State.setPermit (s : State) (k : PermitNo) (g : Option PermitGrant) : State :=
  { s with arbiter := { s.arbiter with permits := s.arbiter.permits.set k g } }

/-- The state with the permit wait queue replaced. -/
def State.setPermitQueue (s : State) (q : List HeadNo) : State := { s with arbiter := { s.arbiter with queue := q } }

/-- The permit a head holds. -/
def State.permitOf (s : State) (h : HeadNo) : Option PermitNo :=
  ([0, 1] : List PermitNo).find? (fun k => (s.permit k).any (fun g => g.holder == h))

/-- The set channel bound to a permit (R76). -/
def setChannelOf (k : PermitNo) : ChannelNo := if k = 0 then 2 else 3

/-- The number by which an event kind is carried (R162). -/
def EventKind.index : EventKind → Fin 14
  | .stationStarted => 0
  | .modeChanged => 1
  | .modeCommandRefused => 2
  | .armFailed => 3
  | .passAdvanced => 4
  | .passBlocked => 5
  | .programComplete => 6
  | .headFault => 7
  | .rivetScrapped => 8
  | .magazineEmpty => 9
  | .heaterFault => 10
  | .signalSaturated => 11
  | .layerOverflow => 12
  | .jointRejected => 13

/-- The fourteen kinds in kind-number order. -/
def EventKind.all : List EventKind :=
  [.stationStarted, .modeChanged, .modeCommandRefused, .armFailed, .passAdvanced, .passBlocked, .programComplete,
    .headFault, .rivetScrapped, .magazineEmpty, .heaterFault, .signalSaturated, .layerOverflow, .jointRejected]

/-- A kind's latch. -/
def State.latch (s : State) (k : EventKind) : Latch := s.reports.latches[k.index]

/-- The state with a kind's latch replaced. -/
def State.setLatch (s : State) (k : EventKind) (l : Latch) : State :=
  { s with reports := { s.reports with latches := s.reports.latches.set k.index l } }

/-! ## Settings -/

/-- The settings read where none has been accepted: free values (log entry 9). -/
def StationSettings.unset : StationSettings :=
  { railLength := Config.unsetStation 0, clearance := Config.unsetStation 1, homeTime := Config.unsetStation 2,
    travelTime := Config.unsetStation 3, clampTime := Config.unsetStation 4, drillTime := Config.unsetStation 5,
    retractTime := Config.unsetStation 6, feedTime := Config.unsetStation 7, setTime := Config.unsetStation 8,
    releaseTime := Config.unsetStation 9, loadTime := Config.unsetStation 10, ejectTime := Config.unsetStation 11,
    rivetWaitLimit := Config.unsetStation 12 }

/-- The station settings in force (R184). -/
def State.station (s : State) : StationSettings := s.link.settings.getD .unset

/-- The settings of a rivet class as it stands; free values where it is undefined (R101, log entry 9). -/
def State.rivetClass (s : State) (c : RivetCode) : RivetClass :=
  s.heater.classes[c].getD
    { heatTime := (Config.undefinedClass c 0).toNat, holdWindow := (Config.undefinedClass c 1).toNat,
      forceTarget := Config.undefinedClass c 2, workMin := Config.undefinedClass c 3,
      workMax := Config.undefinedClass c 4 }

/-- The home point of a head: 0 for a lower head, L for an upper head (R26). -/
def State.homePoint (s : State) (h : HeadNo) : Nat := if isLower h then 0 else s.station.railLength

/-! ## Modes and directives -/

/-- The station mode. -/
def State.mode (s : State) : Mode := s.control.mode

/-- The code of a mode (R191). -/
def Mode.code : Mode → Nat
  | .setup => 0
  | .arming => 1
  | .armed => 2
  | .running => 3
  | .holding => 4
  | .held => 5
  | .draining => 6
  | .aborted => 7

/-- The directive in progress in each mode (R140). -/
def Mode.progress : Mode → Option Directive
  | .arming => some .arm
  | .holding => some .hold
  | .draining => some .drain
  | .setup => none
  | .armed => none
  | .running => none
  | .held => none
  | .aborted => none

/-- The busy modes (R140). -/
def Mode.busy (m : Mode) : Bool := m.progress.isSome

/-- The modes in which rivets are fed: RUNNING and DRAINING (R125). -/
def Mode.feeds (m : Mode) : Bool := m == .running || m == .draining

/-- The modes in which serving steps are taken (R117). -/
def Mode.serves (m : Mode) : Bool :=
  m == .armed || m == .running || m == .holding || m == .held || m == .draining

/-- The KIND code of a directive, which is also the subject of its refusal (R191, Table 10-1). -/
def Directive.kindCode : Directive → Nat
  | .abort => 0x61
  | .recover => 0x62
  | .drain => 0x63
  | .hold => 0x64
  | .resume => 0x65
  | .start => 0x66
  | .disarm => 0x67
  | .arm => 0x68

/-- The directives in priority order (R143). -/
def Directive.all : List Directive := [.abort, .recover, .drain, .hold, .resume, .start, .disarm, .arm]

/-! ## Choosing from a list -/

/-- The first of a list in a ranking: the element that `before` puts ahead of the rest; of equals, the one that
stands first. -/
def pickFirst {α : Type} (before : α → α → Bool) : List α → Option α
  | [] => none
  | a :: l =>
    match pickFirst before l with
    | none => some a
    | some b => if before b a then some b else some a

/-- Insert into a list ordered by `before`: behind every element that is not after it. -/
def insertBy {α : Type} (before : α → α → Bool) (a : α) : List α → List α
  | [] => [a]
  | b :: l => if before a b then a :: b :: l else b :: insertBy before a l

/-- A list put in the order of `before`. -/
def sortBy {α : Type} (before : α → α → Bool) : List α → List α
  | [] => []
  | a :: l => insertBy before a (sortBy before l)

/-- The time elapsed since a stamp, through the wrap of station time (00_scope section 4.2, R103). -/
def elapsed (now stamp : Stamp) : Nat := (now - stamp).toNat

end Sys2Proof.Machine
end

