-- ==== Sys2Proof/Machine/Flags.lean ====
section
/-! DEFINITION. Machine/Flags.lean: the arithmetic of the signature channels and the flags it sets: the 36-bit
accumulator and MV (R80), the conversion to sixteen bits and EV (R81), the ring (R78) and the drop level (R86). -/

namespace Sys2Proof.Machine

/-- The accumulator's greatest value, 2^35 - 1 (R80). -/
def accMax : Int := 34359738367

/-- The accumulator's least value, -2^35 (R80). -/
def accMin : Int := -34359738368

/-- An exact sum held at the accumulator's limits, with whether it was held (R80). -/
def holdAcc (x : Int) : Int × Bool :=
  if accMax < x then (accMax, true) else if x < accMin then (accMin, true) else (x, false)

/-- One step of the accumulator: itself plus twice a product, with MV (R80). -/
def addProduct (acc : Int × Bool) (c x : Int) : Int × Bool :=
  ((holdAcc (acc.1 + 2 * c * x)).1, acc.2 || (holdAcc (acc.1 + 2 * c * x)).2)

/-- The sixteen-bit output of an accumulator value, with EV (R81). -/
def convert (a : Int) : Int × Bool :=
  if 2147483647 < a then (32767, true)
  else if a < -2147483648 then (-32768, true)
  else if (a + 32768) / 65536 = 32768 then (32767, false)
  else ((a + 32768) / 65536, false)

/-- The sample `k` places back from the newest: the slot at the write index less 1 less `k`, round the 16 (R78). -/
def ringRead (ring : Vector Int 16) (w : Fin 16) (k : Nat) : Int :=
  ring[(w.val + 31 - k) % 16]'(Nat.mod_lt _ (by decide))

/-- The taps from number `k` on, added in turn to the accumulator (R80). -/
def sumTaps (ring : Vector Int 16) (w : Fin 16) : List Int → Nat → Int × Bool → Int × Bool
  | [], _, acc => acc
  | c :: taps, k, acc => sumTaps ring w taps (k + 1) (addProduct acc c (ringRead ring w k))

/-- The accumulator of one filter pass, with MV: formed afresh from 0 (R80). -/
def filterPass (ring : Vector Int 16) (w : Fin 16) (taps : List Int) : Int × Bool := sumTaps ring w taps 0 (0, false)

/-- The drop level of a peak: the peak times r over 32,768, rounded down (R86). -/
def dropLevel (peak : Int) (r : Nat) : Int := peak * r / 32768

/-- Milliseconds in units of 100 ms, rounded up (R195). -/
def hundredsUp (ms : Nat) : Nat := (ms + 99) / 100

end Sys2Proof.Machine
end

