-- ==== Sys2Proof/Machine/Operands.lean ====
section
/-! DEFINITION. Machine/Operands.lean: how values are carried in bytes (chapter 10): multi-byte fields high byte
first, signed fields in two's complement, absent fields as all ones. -/

namespace Sys2Proof.Machine

/-! ## Reading a payload -/

/-- The byte at a place of a payload, as a number; 0 beyond its end. -/
def byteAt (p : List Byte) (i : Nat) : Nat := (p.getD i 0).toNat

/-- The two-byte field at a place. -/
def u16At (p : List Byte) (i : Nat) : Nat := byteAt p i * 256 + byteAt p (i + 1)

/-- The four-byte field at a place. -/
def u32At (p : List Byte) (i : Nat) : Nat := u16At p i * 65536 + u16At p (i + 2)

/-- The signed value of a two-byte number. -/
def signed16 (n : Nat) : Int := if n < 32768 then n else (n : Int) - 65536

/-- The signed two-byte field at a place. -/
def s16At (p : List Byte) (i : Nat) : Int := signed16 (u16At p i)

/-- A payload's `n` records of `size` bytes. -/
def recordsOf (size n : Nat) (p : List Byte) : List (List Byte) :=
  (List.range n).map (fun k => (p.drop (size * k)).take size)

/-- A number as an index below `n`, where it is one. -/
def finOf (n : Nat) (x : Nat) : Option (Fin n) := if h : x < n then some ⟨x, h⟩ else none

/-- A signed sample as the drive hands it over. -/
def sampleOf (x : Half) : Int := x.toInt

/-! ## Writing a field -/

/-- One byte. -/
def b8 (n : Nat) : List Byte := [BitVec.ofNat 8 n]

/-- Two bytes, high byte first. -/
def b16 (n : Nat) : List Byte := [BitVec.ofNat 8 (n / 256), BitVec.ofNat 8 n]

/-- Four bytes, high byte first. -/
def b32 (n : Nat) : List Byte := b16 (n / 65536) ++ b16 (n % 65536)

/-- A signed value in two bytes. -/
def bs16 (x : Int) : List Byte := b16 (x % 65536).toNat

/-- A signed value in five bytes (the accumulator, Table 10-9). -/
def bs40 (x : Int) : List Byte := b8 ((x % 1099511627776).toNat / 4294967296) ++ b32 ((x % 1099511627776).toNat % 4294967296)

/-- One byte, or all ones where absent (R191). -/
def o8 (x : Option Nat) : List Byte := b8 (x.getD 0xFF)

/-- Two bytes, or all ones where absent. -/
def o16 (x : Option Nat) : List Byte := b16 (x.getD 0xFFFF)

/-- Four bytes, or all ones where absent. -/
def o32 (x : Option Nat) : List Byte := b32 (x.getD 0xFFFFFFFF)

/-- A field whose presence is carried elsewhere: a signed value, or 0 where absent (R191). -/
def z16 (x : Option Int) : List Byte := bs16 (x.getD 0)

/-- A mark as one byte. -/
def mark (b : Bool) : List Byte := b8 (if b then 1 else 0)

/-- A bit of a mask. -/
def bit (n : Nat) (b : Bool) : Nat := if b then 2 ^ n else 0

/-! ## Codes (R191) -/

/-- Joint state codes. -/
def JointState.code : JointState → Nat
  | .pending => 0
  | .assigned => 1
  | .drilling => 2
  | .drilled => 3
  | .setting => 4
  | .complete => 5
  | .rejected => 6
  | .skipped => 7
  | .locked => 8

/-- Head state codes, which also carry phases. -/
def HeadState.code : HeadState → Nat
  | .parked => 0
  | .homing => 1
  | .idle => 2
  | .travel => 3
  | .clamp => 4
  | .drillWait => 5
  | .drill => 6
  | .retract => 7
  | .awaitRivet => 8
  | .feed => 9
  | .set => 10
  | .release => 11
  | .stopped => 12
  | .fault => 13
  | .offline => 14

/-- Sub-phase codes. -/
def SubPhase.code : SubPhase → Nat
  | .cut => 0
  | .peckRetract => 1
  | .peckReturn => 2

/-- Rejection reason codes. -/
def Reason.code : Reason → Nat
  | .outOfTravel => 0
  | .noMaterial => 1
  | .depthLimit => 2
  | .layerMismatch => 3
  | .gripOutOfTolerance => 4
  | .noRivetForGrip => 5
  | .rivetTimeout => 6
  | .setForceShort => 7
  | .setWorkLow => 8
  | .setWorkHigh => 9
  | .headFault => 10
  | .aborted => 11

/-- Head outcome codes. -/
def HeadOutcome.code : HeadOutcome → Nat
  | .good => 12
  | .rejected r => r.code

/-- Feed rate codes. -/
def FeedRate.code : FeedRate → Nat
  | .reEntry => 0
  | .cutting => 1
  | .breakthrough => 2

/-- Measurement machine codes. -/
def MachineState.code : MachineState → Nat
  | .waiting => 0
  | .cutting => 1
  | .dip => 2
  | .finished => 3

/-- Channel ending codes. -/
def Ending.code : Ending → Nat
  | .finished => 0
  | .depthLimit => 1
  | .noMaterial => 2
  | .cutShort => 3

/-- Pocket state codes. -/
def Pocket.stateCode : Pocket → Nat
  | .empty => 0
  | .loading _ _ _ => 1
  | .heating _ _ _ => 2
  | .ready _ _ _ _ => 3
  | .ejecting _ _ => 4
  | .disabled => 5

/-- Heat order class codes. -/
def OrderClass.code : OrderClass → Nat
  | .demand => 0
  | .preHeat => 1

/-- Latch state codes. -/
def Latch.stateCode (l : Latch) : Nat :=
  match l.held with
  | none => 0
  | some r =>
    match r.place with
    | .heldBack => 1
    | .queued => 2
    | .sent => 3

/-- Line rate codes. -/
def LineRate.code : LineRate → Nat
  | .bps9600 => 0
  | .bps38400 => 1
  | .bps115200 => 2
  | .bps460800 => 3

/-- Reply status codes (R182). -/
def Status.code : Status → Nat
  | .ok => 0
  | .accepted => 1
  | .alreadyPending => 2
  | .busy => 3
  | .wrongMode => 4
  | .badLength => 5
  | .badField => 6
  | .unknownKind => 7
  | .full => 8
  | .notFound => 9
  | .notReworkable => 10
  | .reworkLimit => 11
  | .wrongState => 12

end Sys2Proof.Machine
end

