-- ==== Sys2Proof/Machine/Reports.lean ====
section
/-! DEFINITION. Machine/Reports.lean: the report unit (chapter 8): posting an occurrence, rank order, filling freed
room, the transmitter's choice, acknowledgement, configuration and the flush. -/

namespace Sys2Proof.Machine

/-- One more occurrence, held at 255 (R165). -/
def Held.again (r : Held) : Held := { r with count := min 255 (r.count + 1) }

/-- The latch record of a first occurrence (R164). -/
def State.firstRecord (s : State) (place : Place) (subject : Nat) : Held :=
  { place, subject, first := s.time, mode := s.mode, count := 1 }

/-- Whether the report queue has room (R166). -/
def State.reportRoom (s : State) : Bool := s.reports.queue.length < Config.maxReports

/-- A kind's latch takes a record that enters the report queue (R164). -/
def State.enqueueReport (s : State) (k : EventKind) (r : Held) : State :=
  { s with reports :=
    { latches := s.reports.latches.set k.index { s.latch k with held := some { r with place := .queued } }
      queue := s.reports.queue ++ [k] } }

/-- A kind's latch takes a record in place. -/
def State.holdReport (s : State) (k : EventKind) (r : Held) : State :=
  s.setLatch k { s.latch k with held := some r }

/-- An occurrence of a kind is posted with a subject (R162, R164, R165). -/
def State.post (s : State) (k : EventKind) (subject : Nat) : State :=
  match (s.latch k).held with
  | some r => s.holdReport k r.again
  | none =>
    if (s.latch k).enabled && s.reportRoom then s.enqueueReport k (s.firstRecord .queued subject)
    else s.holdReport k (s.firstRecord .heldBack subject)

/-- The station time of a kind's first occurrence, as the time elapsed since; 0 where it is CLEAR. -/
def State.sinceFirst (s : State) (k : EventKind) : Nat :=
  match (s.latch k).held with
  | none => 0
  | some r => elapsed s.time r.first

/-- Rank order: higher priority, then earlier first time, then lower kind number (R166). -/
def State.rankBefore (s : State) (a b : EventKind) : Bool :=
  if (s.latch a).priority ≠ (s.latch b).priority then (s.latch b).priority < (s.latch a).priority
  else if s.sinceFirst a ≠ s.sinceFirst b then s.sinceFirst b < s.sinceFirst a
  else a.index < b.index

/-- Whether a kind is held back and enabled (R168). -/
def State.waitsForRoom (s : State) (k : EventKind) : Bool :=
  (s.latch k).enabled && (s.latch k).held.any (fun r => r.place == .heldBack)

/-- One turn of filling: the held-back enabled kind first in rank order enters the queue, if there is room (R168). -/
def State.fillOne (s : State) : State :=
  if s.reportRoom then
    match pickFirst s.rankBefore (EventKind.all.filter s.waitsForRoom) with
    | none => s
    | some k =>
      match (s.latch k).held with
      | none => s
      | some r => s.enqueueReport k r
  else s

/-- Several turns of filling. -/
def State.fillTurns : Nat → State → State
  | 0, s => s
  | n + 1, s => State.fillTurns n s.fillOne

/-- Freed room is filled: as many turns as the queue has places (R168). -/
def State.fill (s : State) : State := s.fillTurns Config.maxReports

/-- A kind's record leaves the report queue and its latch enters SENT (R167, R172). -/
def State.sendRecord (s : State) (k : EventKind) : State :=
  match (s.latch k).held with
  | none => { s with reports := { s.reports with queue := s.reports.queue.filter (· ≠ k) } }
  | some r =>
    { s with reports :=
      { latches := s.reports.latches.set k.index { s.latch k with held := some { r with place := .sent } }
        queue := s.reports.queue.filter (· ≠ k) } }

/-- The payload of a report frame: the report record of a kind (R194). -/
def State.reportRecord (s : State) (k : EventKind) : List Byte :=
  match (s.latch k).held with
  | none => []
  | some r => b8 k.index ++ b16 r.subject ++ b32 r.first.toNat ++ b8 r.mode.code ++ b8 r.count

/-- A latch is acknowledged: it enters CLEAR and its record is discarded (R169). -/
def State.clearLatch (s : State) (k : EventKind) : State :=
  { s with reports :=
    { latches := s.reports.latches.set k.index { s.latch k with held := none }
      queue := s.reports.queue.filter (· ≠ k) } }

/-- Kinds are acknowledged in turn, and the freed room is filled when all have been taken (R169). -/
def State.acknowledge (s : State) (ks : List EventKind) : State := (ks.foldl State.clearLatch s).fill

/-- A kind's settings are replaced; a held-back latch that is now enabled enters the queue if there is room
(R170). -/
def State.configureKind (s : State) (k : EventKind) (enabled : Bool) (priority : Fin 8) : State :=
  let s1 := s.setLatch k { s.latch k with enabled, priority }
  match (s1.latch k).held with
  | none => s1
  | some r => if r.place = .heldBack ∧ enabled = true ∧ s1.reportRoom = true then s1.enqueueReport k r else s1

/-- Every record in the queue leaves it unsent, its latch entering SENT, and the room is filled (R172). -/
def State.flushReports (s : State) : State := (s.reports.queue.foldl State.sendRecord s).fill

/-- The report unit at warm restart: every latch CLEAR, the settings kept (R173). -/
def Reports.warm (r : Reports) : Reports :=
  { latches := r.latches.map (fun l => { l with held := none }), queue := [] }

end Sys2Proof.Machine
end

