-- ==== Sys2Proof/Machine/Joints.lean ====
section
/-! DEFINITION. Machine/Joints.lean: the joint table (chapter 1): the current pass, the blocked condition, the
changes of a joint's state, corrected positions and the search of the rivet table. -/

namespace Sys2Proof.Machine

/-- The in-work states (R4). -/
def JointState.inWork : JointState → Bool
  | .assigned => true
  | .drilling => true
  | .drilled => true
  | .setting => true
  | .pending => false
  | .complete => false
  | .rejected => false
  | .skipped => false
  | .locked => false

/-- The states in which no rivet has been fed for a joint in work (R6, R7). -/
def JointState.unfed : JointState → Bool
  | .assigned => true
  | .drilling => true
  | .drilled => true
  | .pending => false
  | .setting => false
  | .complete => false
  | .rejected => false
  | .skipped => false
  | .locked => false

/-- The states in which a joint is finished: COMPLETE, REJECTED or SKIPPED (R22). -/
def JointState.finished : JointState → Bool
  | .complete => true
  | .rejected => true
  | .skipped => true
  | .pending => false
  | .assigned => false
  | .drilling => false
  | .drilled => false
  | .setting => false
  | .locked => false

/-- A REJECTED key joint: it holds its pass back (R20, R22). -/
def Joint.blocks (j : Joint) : Bool := j.state == .rejected && j.identity.key

/-- Whether a joint counts toward the current pass (R20). -/
def Joint.counts (j : Joint) : Bool := j.state == .pending || j.state.inWork || j.state == .locked || j.blocks

/-- The eight passes in ascending order. -/
def passNos : List Pass := [0, 1, 2, 3, 4, 5, 6, 7]

/-- The lowest pass with a joint that counts (R20). -/
def currentPassOf (js : List Joint) : Option Pass :=
  passNos.find? (fun p => js.any (fun j => j.counts && j.identity.pass == p))

/-- Whether any joint is in work (R24). -/
def State.anyInWork (s : State) : Bool := s.table.joints.any (fun j => j.state.inWork)

/-- The number of joints in a state (R24). -/
def State.countOf (s : State) (st : JointState) : Nat := s.table.joints.countP (fun j => j.state == st)

/-- The subject of PASS_BLOCKED where the blocked condition holds: the lowest index of a REJECTED key joint of the
current pass (R22). -/
def State.blockedBy (s : State) : Option Nat :=
  match s.table.currentPass with
  | none => none
  | some p =>
    if s.mode = .running ∧ s.anyInWork = false ∧
        s.table.joints.all (fun j => j.identity.pass != p || j.state.finished) = true then
      s.table.joints.findIdx? (fun j => j.identity.pass == p && j.blocks)
    else none

/-- PASS_BLOCKED is posted where the condition holds and did not hold before (R22). The condition is tested as a whole:
where a skip changes one of several blocking joints, or moves the pass straight to another blocked one, it holds before
and after, and nothing is posted (log entry 19). -/
def State.postBlocked (s : State) (was : Bool) : State :=
  match s.blockedBy with
  | none => s
  | some i => if was then s else s.post .passBlocked i

/-- PASS_ADVANCED is posted for a rise of the current pass in RUNNING (R21). -/
def State.postAdvance (s : State) (old : Option Pass) : State :=
  match old, s.table.currentPass with
  | some a, some b => if s.mode = .running ∧ a < b then s.post .passAdvanced b.val else s
  | some _, none => s
  | none, _ => s

/-- The current pass is recomputed after joints changed state, with the reports that follow from it; `was` says
whether the blocked condition held before the change (R20, R21, R22). -/
def State.recompute (s : State) (was : Bool) : State :=
  (({ s with table := { s.table with currentPass := currentPassOf s.table.joints } } : State).postAdvance
    s.table.currentPass).postBlocked was

/-- A joint changes state within the table, and the current pass is recomputed (R4, R20). -/
def State.changeJoint (s : State) (i : Nat) (f : Joint → Joint) : State :=
  (s.modJoint i f).recompute s.blockedBy.isSome

/-- The head entering a phase moves its joint to the state that goes with it (R4). -/
def State.setJointState (s : State) (h : HeadNo) (st : JointState) : State :=
  match (s.head h).held with
  | none => s
  | some i => s.changeJoint i (fun j => { j with state := st })

/-- A part of the held joint's result is written (R3). -/
def State.writeResult (s : State) (h : HeadNo) (f : JointResult → JointResult) : State :=
  match (s.head h).held with
  | none => s
  | some i => s.modJoint i (fun j => { j with result := f j.result })

/-- A joint record that has become REJECTED (R5, R6, R18). -/
def Joint.reject (j : Joint) (reason : Reason) (reworkable : Bool) (phase : Option HeadState) : Joint :=
  { j with state := .rejected, rejection := some ⟨reason, reworkable⟩, phaseAtEnd := phase }

/-- Whether a reason decided at drilling end, at the wait limit, at verification or at ARM allows a rework (R8).
HEAD_FAULT and ABORTED are marked by the joint's state instead. -/
def Reason.reworkable : Reason → Bool
  | .setForceShort => false
  | .setWorkLow => false
  | .setWorkHigh => false
  | .outOfTravel => true
  | .noMaterial => true
  | .depthLimit => true
  | .layerMismatch => true
  | .gripOutOfTolerance => true
  | .noRivetForGrip => true
  | .rivetTimeout => true
  | .headFault => true
  | .aborted => true

/-- The phase in which an outcome was decided (R5). -/
def Reason.decidedIn : Reason → HeadState
  | .rivetTimeout => .awaitRivet
  | .setForceShort => .set
  | .setWorkLow => .set
  | .setWorkHigh => .set
  | .outOfTravel => .drill
  | .noMaterial => .drill
  | .depthLimit => .drill
  | .layerMismatch => .drill
  | .gripOutOfTolerance => .drill
  | .noRivetForGrip => .drill
  | .headFault => .drill
  | .aborted => .drill

/-- A joint's result flag SIGNAL_SATURATED is set and posted, once per joint (R83). -/
def State.markSaturated (s : State) (h : HeadNo) : State :=
  match (s.head h).held, s.heldJoint h with
  | some i, some j =>
    if j.result.saturated then s
    else (s.writeResult h (fun r => { r with saturated := true })).post .signalSaturated i
  | some _, none => s
  | none, _ => s

/-- A joint's result flag LAYER_OVERFLOW is set and posted, once per joint (R88). -/
def State.markOverflow (s : State) (h : HeadNo) : State :=
  match (s.head h).held, s.heldJoint h with
  | some i, some j =>
    if j.result.overflow then s
    else (s.writeResult h (fun r => { r with overflow := true })).post .layerOverflow i
  | some _, none => s
  | none, _ => s

/-! ## Corrected positions (R16, R18, R19) -/

/-- The nominal position of a joint (R1, section 1.6). -/
def JointIdentity.nominal (d : JointIdentity) : Nat := d.zone.val * 65536 + d.offset

/-- The corrected position of a joint, where it lies within 0 to L (R18). -/
def correctedOf (datum : Vector Int 16) (railLength : Nat) (d : JointIdentity) : Option Nat :=
  if 0 ≤ (d.nominal : Int) + datum[d.zone] ∧ (d.nominal : Int) + datum[d.zone] ≤ railLength then
    some ((d.nominal : Int) + datum[d.zone]).toNat
  else none

/-- A joint as ARM leaves it (R18). -/
def Joint.armed (datum : Vector Int 16) (railLength : Nat) (j : Joint) : Joint :=
  match correctedOf datum railLength j.identity with
  | some p => { j with corrected := some p }
  | none =>
    if j.state = .pending then { j with corrected := none }.reject .outOfTravel Reason.outOfTravel.reworkable j.phaseAtEnd
    else { j with corrected := none }

/-- The indices of the joints ARM rejects, in ascending order (R18). -/
def State.outOfTravel (s : State) : List Nat :=
  (List.range s.table.joints.length).filter (fun i =>
    (s.joint? i).any (fun j =>
      j.state == .pending && (correctedOf s.table.datum s.station.railLength j.identity).isNone))

/-- JOINT_REJECTED is posted for each of some joints (R7, R18). -/
def State.postRejected (s : State) (is : List Nat) : State := is.foldl (fun t i => t.post .jointRejected i) s

/-- The state with every joint record passed through a function. -/
def State.mapJoints (s : State) (f : Joint → Joint) : State :=
  { s with table := { s.table with joints := s.table.joints.map f } }

/-- ARM computes every corrected position and rejects the PENDING joints outside the rail (R18). -/
def State.computeCorrected (s : State) : State :=
  ((s.mapJoints (Joint.armed s.table.datum s.station.railLength)).postRejected s.outOfTravel).recompute
    s.blockedBy.isSome

/-- Every corrected position becomes absent (R19). -/
def State.dropCorrected (s : State) : State := s.mapJoints (fun j => { j with corrected := none })

/-- A LOCKED joint becomes REJECTED, keeping its head, phase at end, reason and mark (R7). -/
def Joint.unlock (j : Joint) : Joint := if j.state = .locked then { j with state := .rejected } else j

/-- The indices of the LOCKED joints in ascending order. -/
def State.lockedJoints (s : State) : List Nat :=
  (List.range s.table.joints.length).filter (fun i => (s.joint? i).any (fun j => j.state == .locked))

/-! ## The rivet table (R99) -/

/-- The rivet code of the first entry whose class and range hold a grip (R99). -/
def lookupRivet (table : List RivetEntry) (diameter : Fin 4) (grip : Nat) : Option RivetCode :=
  (table.find? (fun e => e.diameter == diameter && e.gripMin ≤ grip && grip ≤ e.gripMax)).map (·.code)

end Sys2Proof.Machine
end

