-- ==== Sys2Proof/Machine/Heater.lean ====
section
/-! DEFINITION. Machine/Heater.lean: rivet selection and heater control (chapter 5) with the press arbiter's queue and
grants (chapter 6), which act on each other: serving steps, permit requests and grants, seeking, releasing and the
drilling-end step. -/

namespace Sys2Proof.Machine

/-! ## Serving steps (R117, R118) -/

/-- The lowest-numbered EMPTY pocket. -/
def State.emptyPocket (s : State) : Option PocketNo := pocketNos.find? (fun p => s.pocket p == .empty)

/-- The first queued order whose code's magazine is not empty (R117). -/
def State.servable (s : State) : Option HeatOrder := s.heater.orders.find? (fun o => 0 < s.heater.magazines[o.code])

/-- A joint's pocket field is written or cleared by heater control (R2, R110). -/
def State.setJointPocket (s : State) (i : Nat) (p : Option PocketNo) : State :=
  s.modJoint i (fun j => { j with pocket := p })

/-- A joint comes to own a pocket (R110). -/
def State.ownPocket (s : State) (p : PocketNo) (i : Nat) : State :=
  (s.setPocket p ((s.pocket p).withOwner (some i))).setJointPocket i (some p)

/-- An order is served into an EMPTY pocket: it leaves the queue, the pocket enters LOADING, the LOAD order is sent
and the magazine count falls by 1 (R105, R117). -/
def State.serveInto (s : State) (p : PocketNo) (o : HeatOrder) : State :=
  (((({ s with heater := { s.heater with
        orders := s.heater.orders.erase o
        magazines := s.heater.magazines.set o.code (s.heater.magazines[o.code] - 1) } } : State).setPocket p
      (.loading o.code (some o.joint) s.station.loadTime)).setJointPocket o.joint (some p)).sendHeater
    (.load p o.code))

/-- The turns of a serving step: as long as a pocket is EMPTY and an order can be served (R117). -/
def State.serveTurns : Nat → State → State
  | 0, s => s
  | n + 1, s =>
    match s.emptyPocket, s.servable with
    | some p, some o => State.serveTurns n (s.serveInto p o)
    | some _, none => s
    | none, _ => s

/-- The codes of the orders left waiting on an empty magazine, each once, in queue order (R118). -/
def State.starvedCodes (s : State) : List RivetCode :=
  ((s.heater.orders.map (·.code)).filter (fun c => s.heater.magazines[c] == 0)).eraseDups

/-- MAGAZINE_EMPTY is posted once for each of some codes (R118). -/
def State.postStarved (s : State) (cs : List RivetCode) : State :=
  cs.foldl (fun t c => t.post .magazineEmpty c.val) s

/-- A serving step, in the modes that take one. A step that begins with no pocket EMPTY does nothing (R117, R118). -/
def State.serve (s : State) : State :=
  if s.mode.serves = true ∧ s.emptyPocket.isSome = true then
    (s.serveTurns pocketNos.length).postStarved (s.serveTurns pocketNos.length).starvedCodes
  else s

/-! ## Permits (chapter 6) -/

/-- The pocket the held joint of a head owns. -/
def State.pocketOf (s : State) (h : HeadNo) : Option PocketNo := (s.heldJoint h).bind (·.pocket)

/-- The ready stamp of the pocket a head's joint owns, where that pocket is READY (R126). -/
def State.stampOf (s : State) (h : HeadNo) : Option Stamp :=
  match s.pocketOf h with
  | none => none
  | some p =>
    match s.pocket p with
    | .ready _ _ _ stamp => some stamp
    | .empty => none
    | .loading _ _ _ => none
    | .heating _ _ _ => none
    | .ejecting _ _ => none
    | .disabled => none

/-- The three conditions under which a head asks for a permit (R125). -/
def State.mayAsk (s : State) (h : HeadNo) : Bool :=
  (s.head h).state == .awaitRivet && (s.stampOf h).isSome && s.mode.feeds

/-- The time a head's rivet has been READY. -/
def State.readyFor (s : State) (h : HeadNo) : Nat := ((s.stampOf h).map (elapsed s.time)).getD 0

/-- The order of the permit wait queue: the earlier ready stamp, then the lower head number (R126). -/
def State.hotterThan (s : State) (a b : HeadNo) : Bool :=
  if s.readyFor a ≠ s.readyFor b then s.readyFor b < s.readyFor a else a < b

/-- A head joins the permit wait queue at the place its ready stamp gives it, unless it waits or holds a permit
already (R125, R126). -/
def State.joinPermitQueue (s : State) (h : HeadNo) : State :=
  if s.mayAsk h = true ∧ h ∉ s.arbiter.queue ∧ s.permitOf h = none then
    s.setPermitQueue (insertBy s.hotterThan h s.arbiter.queue)
  else s

/-- The FREE permit with the lowest number (R127). -/
def State.freePermit (s : State) : Option PermitNo := ([0, 1] : List PermitNo).find? (fun k => (s.permit k).isNone)

/-- A head enters FEED with the pocket it takes its rivet from (R55). -/
def State.enterFeed (s : State) (h : HeadNo) (p : PocketNo) : State :=
  ((s.modHead h (fun x => { x with rivetWait := .stopped })).enterPhase h .feed s.station.feedTime
    (.takeRivet p)).setJointState h .setting

/-- A permit is granted to a head whose joint owns a pocket: the permit's record, the head's entry into FEED, the
pocket's emptying and the serving step that follows, in this order (R129, R116). -/
def State.grantPermit (s : State) (k : PermitNo) (h : HeadNo) (i : Nat) (p : PocketNo) (c : RivetCode) : State :=
  ((((s.setPermit k (some ⟨h, i, c, none⟩)).enterFeed h p).setPocket p .empty).setJointPocket i none).serve

/-- The head that has left the front of the queue takes a permit (R129). A waiting head's joint owns a pocket; where
it does not, nothing is granted (log entry 11). -/
def State.grantFront (s : State) (k : PermitNo) (h : HeadNo) : State :=
  match (s.head h).held, s.pocketOf h with
  | some i, some p =>
    match (s.pocket p).code? with
    | some c => s.grantPermit k h i p c
    | none => s
  | some _, none => s
  | none, _ => s

/-- Grants are made while a permit is FREE and a head waits (R127). -/
def State.grantTurns : Nat → State → State
  | 0, s => s
  | n + 1, s =>
    match s.freePermit, s.arbiter.queue with
    | some k, h :: rest => State.grantTurns n ((s.setPermitQueue rest).grantFront k h)
    | some _, [] => s
    | none, _ => s

/-- All grants that can be made (R127). -/
def State.grantAll (s : State) : State := s.grantTurns s.arbiter.queue.length

/-- A head asks for a permit, if its conditions hold, and is granted one if one is FREE (R125, R127). -/
def State.requestPermit (s : State) (h : HeadNo) : State := (s.joinPermitQueue h).grantAll

/-- Every head that meets the conditions is taken into the queue in one event, and permits are granted (R128). -/
def State.reRaise (s : State) : State := (headNos.foldl State.joinPermitQueue s).grantAll

/-- A head is withdrawn from the permit wait queue (R128). -/
def State.withdraw (s : State) (h : HeadNo) : State := s.setPermitQueue (s.arbiter.queue.filter (· ≠ h))

/-- The head holding a joint is told that the joint's pocket is READY (R106, R110). -/
def State.tellReady (s : State) (i : Nat) : State :=
  match s.holderOf i with
  | none => s
  | some h => s.requestPermit h

/-! ## Seeking (R112) -/

/-- Whether a pocket can be taken by a joint that seeks a code: unowned, holding the code, in LOADING, HEATING or
READY (R112). -/
def Pocket.takeable (c : RivetCode) : Pocket → Bool
  | .loading d o _ => d == c && o.isNone
  | .heating d o _ => d == c && o.isNone
  | .ready d o _ _ => d == c && o.isNone
  | .empty => false
  | .ejecting _ _ => false
  | .disabled => false

/-- The preference among takeable pockets: READY before HEATING before LOADING, the earliest ready stamp, the least
heat time left, the lowest number (R112). -/
def State.preferPocket (s : State) (a b : PocketNo) : Bool :=
  match s.pocket a, s.pocket b with
  | .ready _ _ _ x, .ready _ _ _ y =>
    if elapsed s.time x ≠ elapsed s.time y then elapsed s.time y < elapsed s.time x else a < b
  | .heating _ _ x, .heating _ _ y => if x ≠ y then x < y else a < b
  | x, y => if x.stateCode ≠ y.stateCode then y.stateCode < x.stateCode else a < b

/-- The pocket a joint seeking a code takes (R112). -/
def State.bestPocket (s : State) (c : RivetCode) : Option PocketNo :=
  pickFirst s.preferPocket (pocketNos.filter (fun p => (s.pocket p).takeable c))

/-- An order is placed at the tail of its class, or at its front (R111, R108). -/
def placeOrder (front : Bool) (o : HeatOrder) (q : List HeatOrder) : List HeatOrder :=
  let demands := q.filter (fun x => x.cls == .demand)
  let preHeats := q.filter (fun x => x.cls == .preHeat)
  match o.cls, front with
  | .demand, false => demands ++ o :: preHeats
  | .demand, true => o :: demands ++ preHeats
  | .preHeat, false => demands ++ preHeats ++ [o]
  | .preHeat, true => demands ++ o :: preHeats

/-- The class of a joint's order by its stage, or none where its outcome is a rejection and it does not seek (R111,
R112). -/
def State.stageOf (s : State) (i : Nat) : Option OrderClass :=
  match (s.holderOf i).bind (fun h => (s.head h).outcome) with
  | none => some .preHeat
  | some .good => some .demand
  | some (.rejected _) => none

/-- A joint takes a pocket, and its head is told where the pocket is READY already (R110). -/
def State.takePocket (s : State) (p : PocketNo) (i : Nat) : State := (s.ownPocket p i).tellReady i

/-- A joint seeks a rivet of a code with an order of a given class (R112): the best takeable pocket, or an order and
the serving step that follows its placing. -/
def State.seekAs (s : State) (i : Nat) (c : RivetCode) (cls : OrderClass) (front : Bool) : State :=
  match s.bestPocket c with
  | some p => s.takePocket p i
  | none => (s.setOrders (placeOrder front ⟨cls, c, i⟩ s.heater.orders)).serve

/-- A joint seeks a rivet of a code in the class of its stage; a rejected joint does not seek (R112). -/
def State.seek (s : State) (i : Nat) (c : RivetCode) (front : Bool) : State :=
  match s.stageOf i with
  | none => s
  | some cls => s.seekAs i c cls front

/-- A pre-heat request from the dispatcher (R113, R36). -/
def State.preHeat (s : State) (i : Nat) : State :=
  match s.joint? i with
  | none => s
  | some j =>
    match j.identity.kind, j.identity.expectedGrip with
    | .rivet, some g =>
      match lookupRivet s.heater.table j.identity.diameter g with
      | some c => s.seekAs i c .preHeat false
      | none => s
    | .rivet, none => s
    | .hole, _ => s

/-! ## Releasing (R115, R116) -/

/-- A released pocket loses its owner and passes to the first queued order of its code (R115). -/
def State.handOver (s : State) (p : PocketNo) : State :=
  match (s.pocket p).code? with
  | none => s
  | some c =>
    match s.heater.orders.find? (fun o => o.code == c) with
    | none => s
    | some o => (s.setOrders (s.heater.orders.erase o)).takePocket p o.joint

/-- A joint's pocket is released (R115). -/
def State.releasePocket (s : State) (p : PocketNo) (i : Nat) : State :=
  ((s.setPocket p ((s.pocket p).withOwner none)).setJointPocket i none).handOver p

/-- A joint's use of the heater ends: its pocket is released and its queued order removed (R116). -/
def State.endHeaterUse (s : State) (i : Nat) : State :=
  let s1 :=
    match (s.joint? i).bind (·.pocket) with
    | none => s
    | some p => s.releasePocket p i
  s1.setOrders (s1.heater.orders.filter (fun o => o.joint ≠ i))

/-- The drilling-end step's last two cases: a joint that takes a pocket of the measured code, or places a DEMAND
order in place of any order it holds (R114, steps 3 to 5). -/
def State.demandRivet (s : State) (i : Nat) (c : RivetCode) : State :=
  match s.bestPocket c with
  | some p => ((s.setOrders (s.heater.orders.filter (fun o => o.joint ≠ i))).takePocket p i)
  | none =>
    (s.setOrders (placeOrder false ⟨.demand, c, i⟩ (s.heater.orders.filter (fun o => o.joint ≠ i)))).serve

/-- The drilling-end step for a RIVET joint with outcome GOOD and its measured code (R114). -/
def State.drillingEndStep (s : State) (i : Nat) (c : RivetCode) : State :=
  match (s.joint? i).bind (·.pocket) with
  | some p => if (s.pocket p).code? = some c then s else (s.releasePocket p i).demandRivet i c
  | none => s.demandRivet i c

/-! ## Pocket events (R105 to R109) -/

/-- A pocket enters EJECTING: EJECT is sent and the port timer started with the eject timeout (R107, R120). -/
def State.ejectPocket (s : State) (p : PocketNo) (c : RivetCode) : State :=
  (s.setPocket p (.ejecting c s.station.ejectTime)).sendHeater (.eject p)

/-- LOAD_DONE for a pocket (R105). -/
def State.loadDone (s : State) (p : PocketNo) : State :=
  match s.pocket p with
  | .loading c o _ => s.setPocket p (.heating c o ((s.rivetClass c).heatTime * 100))
  | .empty => s
  | .heating _ _ _ => s
  | .ready _ _ _ _ => s
  | .ejecting _ _ => s
  | .disabled => s

/-- A pocket's heat timer reaches 0 (R106). -/
def State.heatExpired (s : State) (p : PocketNo) : State :=
  match s.pocket p with
  | .heating c o _ =>
    let s1 := s.setPocket p (.ready c o ((s.rivetClass c).holdWindow * 100) s.time)
    match o with
    | none => s1
    | some i => s1.tellReady i
  | .empty => s
  | .loading _ _ _ => s
  | .ready _ _ _ _ => s
  | .ejecting _ _ => s
  | .disabled => s

/-- An owner loses its scrapped pocket: its pocket field becomes absent and its head leaves the permit wait queue
(R107). -/
def State.losePocket (s : State) (i : Nat) : State :=
  match s.holderOf i with
  | none => s.setJointPocket i none
  | some h => (s.setJointPocket i none).withdraw h

/-- A pocket's hold timer reaches 0 (R107). -/
def State.holdExpired (s : State) (p : PocketNo) : State :=
  match s.pocket p with
  | .ready c o _ _ =>
    let s1 := (s.ejectPocket p c).post .rivetScrapped p.val
    match o with
    | none => s1
    | some i => (s1.losePocket i).seek i c false
  | .empty => s
  | .loading _ _ _ => s
  | .heating _ _ _ => s
  | .ejecting _ _ => s
  | .disabled => s

/-- EJECT_DONE for a pocket (R108). -/
def State.ejectDone (s : State) (p : PocketNo) : State :=
  match s.pocket p with
  | .ejecting _ _ => (s.setPocket p .empty).serve
  | .empty => s
  | .loading _ _ _ => s
  | .heating _ _ _ => s
  | .ready _ _ _ _ => s
  | .disabled => s

/-- A pocket's port timer reaches 0 (R108). -/
def State.portExpired (s : State) (p : PocketNo) : State :=
  match s.pocket p with
  | .loading c o _ =>
    let s1 := (s.setPocket p .disabled).post .heaterFault p.val
    match o with
    | none => s1
    | some i => (s1.setJointPocket i none).seek i c true
  | .ejecting _ _ => (s.setPocket p .disabled).post .heaterFault p.val
  | .empty => s
  | .heating _ _ _ => s
  | .ready _ _ _ _ => s
  | .disabled => s

/-! ## Abort, disarm and recovery (R120, R121) -/

/-- A pocket is ejected if it is LOADING, HEATING or READY (R120). -/
def State.ejectIfLoaded (s : State) (p : PocketNo) : State :=
  match s.pocket p with
  | .loading c _ _ => s.ejectPocket p c
  | .heating c _ _ => s.ejectPocket p c
  | .ready c _ _ _ => s.ejectPocket p c
  | .empty => s
  | .ejecting _ _ => s
  | .disabled => s

/-- Every loaded pocket is ejected, the heat order queue emptied and every joint's pocket field cleared (R120). -/
def State.ejectAll (s : State) : State :=
  (((pocketNos.foldl State.ejectIfLoaded s).setOrders []).mapJoints (fun j => { j with pocket := none }))

/-- A DISABLED pocket returns to EMPTY (R109). -/
def Pocket.restore : Pocket → Pocket
  | .disabled => .empty
  | .empty => .empty
  | .loading c o t => .loading c o t
  | .heating c o t => .heating c o t
  | .ready c o t st => .ready c o t st
  | .ejecting c t => .ejecting c t

/-- Every DISABLED pocket returns to EMPTY (R109). -/
def State.restorePockets (s : State) : State :=
  { s with heater := { s.heater with pockets := s.heater.pockets.map Pocket.restore } }

end Sys2Proof.Machine
end

