-- ==== Sys2Proof/Machine/Channels.lean ====
section
/-! DEFINITION. Machine/Channels.lean: the signature unit (chapter 4): the ring, the filter pass, the measurement
machine, the depth limit, the drilling-end checks and set integration, each on one channel record. -/

namespace Sys2Proof.Machine

/-- A channel granted to a head for its held joint, initialised (R72, R76, R77). -/
def Channel.grantTo (h : HeadNo) (joint : Option Nat) : Channel :=
  { Channel.cold with holder := some h, lastHolder := some h, joint }

/-- A sample is written to the ring, and the sample count rises, held at 65,535 (R78, R79, R93). -/
def Channel.push (c : Channel) (x : Int) : Channel :=
  { c with ring := c.ring.set c.writeIndex x, writeIndex := c.writeIndex + 1,
           sampleCount := min 65535 (c.sampleCount + 1) }

/-- The accumulator and MV of the filter pass over a ring that holds the newest sample (R80). -/
def Channel.pass (c : Channel) (f : FilterSettings) : Int × Bool := filterPass c.ring c.writeIndex f.taps

/-- The recorded depth of a sample: its depth less N - 1 (R84). -/
def recordedDepth (f : FilterSettings) (depth : Nat) : Int := depth - (f.taps.length - 1 : Nat)

/-- Steps 1 to 3 of a drill sample: ring, accumulator, output and recorded depth (R79). -/
def Channel.filter (c : Channel) (f : FilterSettings) (depth : Nat) (thrust : Int) : Channel :=
  let c1 := c.push thrust
  let a := c1.pass f
  let y := convert a.1
  { c1 with accumulator := a.1, mv := c1.mv || a.2, ev := c1.ev || y.2, lastOutput := some y.1,
            lastDepth := some (recordedDepth f depth) }

/-- Whether a drill sample sets MV or EV (R83). -/
def Channel.saturates (c : Channel) (f : FilterSettings) (thrust : Int) : Bool :=
  ((c.push thrust).pass f).2 || (convert ((c.push thrust).pass f).1).2

/-! ## The measurement machine (R85 to R89) -/

/-- WAITING takes an output (R85). -/
def Channel.takeWaiting (c : Channel) (f : FilterSettings) (y : Int) (d : Nat) : Channel :=
  if (f.engage : Int) ≤ y then
    { c with entry := some d, layers := some 1, boundaries := [], peak := some y, machine := .cutting }
  else c

/-- The peak after CUTTING takes an output (R86). -/
def Channel.raisedPeak (c : Channel) (y : Int) : Int :=
  match c.peak with
  | none => y
  | some p => max p y

/-- CUTTING takes an output (R86). -/
def Channel.takeCutting (c : Channel) (f : FilterSettings) (y : Int) (d : Nat) : Channel :=
  if y < dropLevel (c.raisedPeak y) f.dropRatio then
    { c with peak := some (c.raisedPeak y), valley := some y, valleyDepth := some d, runCount := 0, runStart := none,
             machine := .dip }
  else { c with peak := some (c.raisedPeak y) }

/-- Whether an output in DIP is a rebound (R87 step 1). -/
def Channel.rebounds (c : Channel) (f : FilterSettings) (y : Int) : Bool :=
  c.valley.any (fun v => v + (f.rebound : Int) ≤ y)

/-- Whether a rebound finds no room for its interface (R88). -/
def Channel.layersFull (c : Channel) : Bool := c.layers.any (fun n => 8 ≤ n)

/-- A rebound records an interface if it has room, and CUTTING is entered again (R88). -/
def Channel.rebound (c : Channel) (y : Int) : Channel :=
  let c1 :=
    if c.layersFull then c
    else { c with boundaries := c.boundaries ++ c.valleyDepth.toList, layers := c.layers.map (· + 1) }
  { c1 with peak := some y, runCount := 0, runStart := none, machine := .cutting }

/-- The valley after DIP takes an output that is no rebound (R87 step 2). -/
def Channel.deepen (c : Channel) (y : Int) (d : Nat) : Channel :=
  if c.valley.all (fun v => y < v) then { c with valley := some y, valleyDepth := some d } else c

/-- The exit run after DIP takes an output that is no rebound (R87 steps 3 and 4). -/
def Channel.run (c : Channel) (f : FilterSettings) (y : Int) (d : Nat) : Channel :=
  if y < (f.exitLevel : Int) then
    { c with runCount := c.runCount + 1, runStart := if c.runCount = 0 then some d else c.runStart }
  else { c with runCount := 0, runStart := none }

/-- The drill has broken through when the run count has reached K (R89). -/
def Channel.breakThrough (c : Channel) (f : FilterSettings) : Channel :=
  if f.confirm ≤ c.runCount then { c with exit := c.runStart, machine := .finished, ending := some .finished } else c

/-- DIP takes an output (R87). -/
def Channel.takeDip (c : Channel) (f : FilterSettings) (y : Int) (d : Nat) : Channel :=
  if c.rebounds f y then c.rebound y else ((c.deepen y d).run f y d).breakThrough f

/-- The measurement machine takes an output in the state it stands in (R85 to R89). -/
def Channel.take (c : Channel) (f : FilterSettings) (y : Int) (d : Nat) : Channel :=
  match c.machine with
  | .waiting => c.takeWaiting f y d
  | .cutting => c.takeCutting f y d
  | .dip => c.takeDip f y d
  | .finished => c

/-- The recorded depth at which the machine takes a sample; none where it lies below 0 (R84). -/
def machineDepth (f : FilterSettings) (depth : Nat) : Option Nat :=
  if 0 ≤ recordedDepth f depth then some (recordedDepth f depth).toNat else none

/-- Step 5 of a drill sample: the machine takes the last output, unless its recorded depth is below 0 (R79, R84). -/
def Channel.measure (c : Channel) (f : FilterSettings) (depth : Nat) : Channel :=
  match machineDepth f depth with
  | none => c
  | some d => c.take f (c.lastOutput.getD 0) d

/-- Whether step 5 meets an interface it has no room for (R88). -/
def Channel.overflows (c : Channel) (f : FilterSettings) (depth : Nat) : Bool :=
  (machineDepth f depth).isSome && c.machine == .dip && c.rebounds f (c.lastOutput.getD 0) && c.layersFull

/-- Step 6 of a drill sample: the depth limit (R90). -/
def Channel.limit (c : Channel) (f : FilterSettings) (depth : Nat) : Channel :=
  if c.machine ≠ .finished ∧ f.depthLimit ≤ depth then
    { c with ending := some (if c.machine = .waiting then .noMaterial else .depthLimit) }
  else c

/-! ## Drilling end (R91, R92) -/

/-- The grip of a measurement that ended normally (R89). -/
def Channel.grip (c : Channel) : Option Nat :=
  match c.exit, c.entry with
  | some x, some e => some (x - e)
  | some _, none => none
  | none, _ => none

/-- Whether the measured layer count differs from the expected layers (R91 check 1). -/
def layerMismatch (d : JointIdentity) (layers : Option Nat) : Bool :=
  d.expectedLayers.any (fun n => layers != some n)

/-- Whether the measured grip deviates from the expected grip by more than the tolerance (R91 check 2). -/
def gripOut (d : JointIdentity) (grip : Nat) : Bool :=
  d.expectedGrip.any (fun e => decide ((d.tolerance.getD 0 : Int) < ((grip : Int) - e).natAbs))

/-- The rivet code of a measurement that passes checks 1 and 2, for a RIVET joint (R91). -/
def measuredCode (table : List RivetEntry) (d : JointIdentity) (grip : Nat) : Option RivetCode :=
  if d.kind = .rivet then lookupRivet table d.diameter grip else none

/-- The outcome of the drilling-end checks, the first that fails (R91). -/
def drillingChecks (table : List RivetEntry) (d : JointIdentity) (layers : Option Nat) (grip : Nat) : HeadOutcome :=
  if layerMismatch d layers then .rejected .layerMismatch
  else if gripOut d grip then .rejected .gripOutOfTolerance
  else if d.kind = .rivet ∧ measuredCode table d grip = none then .rejected .noRivetForGrip
  else .good

/-- The outcome of a measurement by its ending (R51, R90, R91). -/
def Channel.outcome (c : Channel) (table : List RivetEntry) (d : JointIdentity) : HeadOutcome :=
  match c.ending with
  | some .noMaterial => .rejected .noMaterial
  | some .finished => drillingChecks table d c.layers (c.grip.getD 0)
  | some .depthLimit => .rejected .depthLimit
  | some .cutShort => .rejected .depthLimit
  | none => .rejected .depthLimit

/-- The rivet code handed over with the result: found by the lookup of a joint that passes the checks (R91). -/
def Channel.codeFound (c : Channel) (table : List RivetEntry) (d : JointIdentity) : Option RivetCode :=
  if c.outcome table d = .good then measuredCode table d (c.grip.getD 0) else none

/-- The result parts a measurement hands to the joint: none with no material, the entry's parts at the depth limit,
all at a normal end (R3, R90, R92). -/
def Channel.handResult (c : Channel) (code : Option RivetCode) (r : JointResult) : JointResult :=
  match c.ending with
  | some .finished =>
    { r with entry := c.entry, exit := c.exit, grip := c.grip, layers := c.layers, boundaries := some c.boundaries,
             code := code.or r.code }
  | some .depthLimit => { r with entry := c.entry, layers := c.layers, boundaries := some c.boundaries }
  | some .noMaterial => r
  | some .cutShort => r
  | none => r

/-! ## Set integration (R93, R94) -/

/-- A set sample: ring, last stroke, accumulator and peak force (R93). -/
def Channel.integrate (c : Channel) (f : FilterSettings) (stroke : Nat) (force : Int) : Channel :=
  let a := addProduct (c.accumulator, c.mv) force f.setWeight
  { c.push force with
    lastStroke := some stroke, accumulator := a.1, mv := a.2,
    peakForce := some (match c.peakForce with | none => force | some p => max p force) }

/-- Whether a set sample sets MV (R93). -/
def Channel.integrateSaturates (c : Channel) (f : FilterSettings) (force : Int) : Bool :=
  (addProduct (c.accumulator, false) force f.setWeight).2

/-- The set work W formed at SET_DONE (R94). -/
def Channel.work (c : Channel) : Int := (convert c.accumulator).1

/-- The set channel after SET_DONE has formed its set work, released (R94, R76). -/
def Channel.formWork (c : Channel) : Channel :=
  { c with setWork := some c.work, ev := c.ev || (convert c.accumulator).2, machine := .finished, holder := none }

/-- The peak force handed to the arbiter: 0 for a set that took no sample (R94). -/
def Channel.peakHanded (c : Channel) : Int := c.peakForce.getD 0

/-- A channel released with its contents as they stand (R74, R76). -/
def Channel.free (c : Channel) : Channel := { c with holder := none }

/-- A drill channel released by a fault or ABORT: its ending is CUT_SHORT (R75). -/
def Channel.cutShort (c : Channel) : Channel := { c with holder := none, ending := some .cutShort }

end Sys2Proof.Machine
end

