-- ==== Sys2Proof/Machine/Heads.lean ====
section
/-! DEFINITION. Machine/Heads.lean: the head units (chapter 3): drilling and pecking, drilling end, waiting for the
rivet, feeding and setting, release, faults, homing and parking, with the drill channel pool (section 4.2) and the
permit's release (chapter 6). -/

namespace Sys2Proof.Machine

/-! ## Pecking and the feed rate (R45, R47, R48, R50) -/

/-- A peck counter reset: the counter starts again from a depth, and a full buffered profile becomes active (R50). -/
def Head.resetPeck (x : Head) (start : Nat) : Head :=
  { x with peckStart := start, peckCounter := 0, active := x.buffered.getD x.active, buffered := none }

/-- The feed rate selected from the machine, the active profile and the peck counter (R47). -/
def selectRate (m : MachineState) (profile : PeckProfile) (counter : Nat) : FeedRate :=
  if m = .dip then .breakthrough
  else if 0 < profile.b ∧ counter < profile.a then .reEntry
  else .cutting

/-- A FEED order is sent and recorded as the rate ordered (R47). -/
def State.sendFeed (s : State) (h : HeadNo) (r : FeedRate) : State :=
  (s.modHead h (fun x => { x with rate := some r })).sendDrive h (.feed r)

/-- A head that holds a drill channel enters DRILL (R45). -/
def State.enterDrill (s : State) (h : HeadNo) : State :=
  let s1 := (s.setJointState h .drilling).writeResult h (fun r => { r with peckCount := some 0 })
  let s2 := s1.modHead h (fun x =>
    { x.resetPeck 0 with state := .drill, subPhase := some .cut, deepest := 0,
                         phaseTimer := some s1.station.drillTime })
  s2.sendFeed h (selectRate .waiting (s2.head h).active 0)

/-- A drill channel is granted to a head, which enters DRILL (R72, R74). -/
def State.grantDrill (s : State) (c : ChannelNo) (h : HeadNo) : State :=
  (s.setChannel c (Channel.grantTo h (s.head h).held)).enterDrill h

/-- The drill channel granted to an asking head: the FREE one, D0 before D1 (R72). -/
def State.freeDrill (s : State) : Option ChannelNo :=
  ([0, 1] : List ChannelNo).find? (fun c => (s.channel c).holder.isNone)

/-- The drill channel wait queue replaced. -/
def State.setDrillQueue (s : State) (q : List HeadNo) : State :=
  { s with signature := { s.signature with drillQueue := q } }

/-- A head enters DRILL_WAIT and stands at the tail of the wait queue (R44, R72). -/
def State.waitForDrill (s : State) (h : HeadNo) : State :=
  (s.modHead h (fun x => { x with state := .drillWait, phaseTimer := none, order := none })).setDrillQueue
    (s.signature.drillQueue ++ [h])

/-- A head asks for a drill channel (R72). -/
def State.askDrill (s : State) (h : HeadNo) : State :=
  match s.freeDrill with
  | some c => (s.modHead h (fun x => { x with phaseTimer := none })).grantDrill c h
  | none => s.waitForDrill h

/-- A drill channel is released: it passes to the head at the front of the wait queue, or becomes FREE (R74). -/
def State.releaseDrill (s : State) (c : ChannelNo) : State :=
  match s.signature.drillQueue with
  | [] => s.modChannel c Channel.free
  | g :: rest => (s.setDrillQueue rest).grantDrill c g

/-- A peck retract is ordered (R48). -/
def State.startPeck (s : State) (h : HeadNo) : State :=
  let back := (s.head h).deepest - (s.head h).active.a
  let s1 := (s.sendDrive h (.peckRetract back)).writeResult h (fun r =>
    { r with peckCount := some (r.peckCount.getD 0 + 1) })
  s1.modHead h (fun x => { x.resetPeck back with subPhase := some .peckRetract })

/-- The feed rate after a sample: a FEED order only when the selection differs from the rate ordered (R46 step 6). -/
def State.refeed (s : State) (h : HeadNo) (m : MachineState) : State :=
  let r := selectRate m (s.head h).active (s.head h).peckCounter
  if (s.head h).rate = some r then s else s.sendFeed h r

/-! ## Drilling end (R51) -/

/-- A head enters RETRACT; its sub-phase and the rate ordered become absent (R51 step 5). -/
def State.enterRetract (s : State) (h : HeadNo) : State :=
  (s.modHead h (fun x => { x with subPhase := none, rate := none })).enterPhase h .retract s.station.retractTime
    .retract

/-- The drilling-end step is asked for a joint with outcome GOOD and a rivet code (R51 step 4). -/
def State.askRivet (s : State) (i : Nat) : Option RivetCode → State
  | none => s
  | some c => s.drillingEndStep i c

/-- Measurement end at a head's drill channel, for the joint the head holds (R51, R92). -/
def State.endMeasurement (s : State) (h : HeadNo) (c : ChannelNo) (i : Nat) (j : Joint) : State :=
  let ch := s.channel c
  let code := ch.codeFound s.heater.table j.identity
  let s1 := ((s.releaseDrill c).modHead h (fun x => { x with phaseTimer := none })).writeResult h
    (ch.handResult code)
  let s2 := s1.modHead h (fun x => { x with outcome := some (ch.outcome s.heater.table j.identity) })
  (s2.askRivet i code).enterRetract h

/-- A sample at a new depth: the sub-phase, the deepest depth and the peck counter (R46 steps 1 and 2). -/
def Head.advance (x : Head) (depth : Nat) : Head :=
  { x with subPhase := some .cut, deepest := depth, peckCounter := depth - x.peckStart }

/-- The sub-phases in which a sample is taken (R46). -/
def Head.takesSample (x : Head) (depth : Nat) : Bool :=
  x.state == .drill && (x.subPhase == some .cut || x.subPhase == some .peckReturn) && x.deepest < depth

/-- A drill channel takes a sample: the filter pass, the held joint's marks, the measurement machine and the depth
limit (R79). -/
def State.channelSample (s : State) (h : HeadNo) (c : ChannelNo) (depth : Nat) (thrust : Int) : State :=
  let f := s.signature.filter
  let ch := s.channel c
  let c1 := ch.filter f depth thrust
  let s1 := if ch.saturates f thrust then (s.setChannel c c1).markSaturated h else s.setChannel c c1
  let s2 := if c1.overflows f depth then s1.markOverflow h else s1
  s2.setChannel c ((c1.measure f depth).limit f depth)

/-- What the head does after its channel has answered: measurement end, a peck, or the feed rate (R46 steps 4 to 6). -/
def State.afterSample (s : State) (h : HeadNo) (c : ChannelNo) (i : Nat) (j : Joint) : State :=
  if (s.channel c).ending.isSome then s.endMeasurement h c i j
  else if 0 < (s.head h).active.b ∧ (s.head h).active.b ≤ (s.head h).peckCounter then s.startPeck h
  else s.refeed h (s.channel c).machine

/-- DRILL_SAMPLE at a head (R46). A head in DRILL holds a joint and a drill channel; where it does not, the sample
changes nothing (log entry 11). -/
def State.drillSample (s : State) (h : HeadNo) (depth : Nat) (thrust : Int) : State :=
  if (s.head h).takesSample depth then
    match s.drillChannelOf h, (s.head h).held, s.heldJoint h with
    | some c, some i, some j =>
      ((s.modHead h (fun x => x.advance depth)).channelSample h c depth thrust).afterSample h c i j
    | some _, some _, none => s
    | some _, none, _ => s
    | none, _, _ => s
  else s

/-- PECK_BACK at a head (R48). -/
def State.peckBack (s : State) (h : HeadNo) : State :=
  if (s.head h).state = .drill ∧ (s.head h).subPhase = some .peckRetract then
    (s.modHead h (fun x => { x with subPhase := some .peckReturn })).sendFeed h
      (selectRate (((s.drillChannelOf h).map (fun c => (s.channel c).machine)).getD .waiting) (s.head h).active
        (s.head h).peckCounter)
  else s

/-! ## From RETRACT to RELEASE (R52 to R57) -/

/-- A head enters RELEASE (R52, R54, R56). -/
def State.enterRelease (s : State) (h : HeadNo) : State := s.enterPhase h .release s.station.releaseTime .release

/-- The rivet wait timer at the entry to AWAIT_RIVET: it counts in RUNNING and DRAINING, and is paused otherwise
(R52, R53). -/
def State.freshWait (s : State) : WaitTimer :=
  if s.mode.feeds then .counting (s.station.rivetWaitLimit * 100) else .paused (s.station.rivetWaitLimit * 100)

/-- A head enters AWAIT_RIVET and asks for a permit if its conditions hold (R52, R53, R125). -/
def State.enterAwait (s : State) (h : HeadNo) : State :=
  ((s.modHead h (fun x =>
    { x with state := .awaitRivet, phaseTimer := none, order := none, rivetWait := s.freshWait })).setJointState h
      .drilled).requestPermit h

/-- Whether a head's joint goes on to its rivet: a RIVET joint with outcome GOOD (R52). -/
def State.wantsRivet (s : State) (h : HeadNo) : Bool :=
  (s.head h).outcome == some .good && (s.heldJoint h).any (fun j => j.identity.kind == .rivet)

/-- RETRACT_DONE at a head, without the mode controller's test (R52). -/
def State.retractDone (s : State) (h : HeadNo) : State :=
  if (s.head h).state = .retract then
    if s.wantsRivet h then s.enterAwait h else (s.enterRelease h).setJointState h .drilled
  else s

/-- A head's rivet wait timer reaches 0 (R54). -/
def State.rivetWaitExpired (s : State) (h : HeadNo) : State :=
  match (s.head h).state, (s.head h).rivetWait with
  | .awaitRivet, .counting _ =>
    let s1 := (s.modHead h (fun x =>
      { x with rivetWait := .stopped, outcome := some (.rejected .rivetTimeout) })).withdraw h
    let s2 := match (s1.head h).held with | none => s1 | some i => s1.endHeaterUse i
    s2.enterRelease h
  | _, _ => s

/-- FEED_DONE at a head (R55, R76, R130). -/
def State.feedDone (s : State) (h : HeadNo) : State :=
  if (s.head h).state = .feed then
    match s.permitOf h with
    | none => s
    | some k =>
      match s.permit k with
      | none => s
      | some g =>
        let target := (s.rivetClass g.code).forceTarget
        ((s.setChannel (setChannelOf k) (Channel.grantTo h (s.head h).held)).setPermit k
          (some { g with forceTarget := some target })).enterPhase h .set s.station.setTime (.set target)
  else s

/-- SET_SAMPLE at a head (R56, R93). -/
def State.setSample (s : State) (h : HeadNo) (stroke : Nat) (force : Int) : State :=
  if (s.head h).state = .set then
    match s.permitOf h with
    | none => s
    | some k =>
      let ch := s.channel (setChannelOf k)
      let s1 := s.setChannel (setChannelOf k) (ch.integrate s.signature.filter stroke force)
      if ch.integrateSaturates s.signature.filter force then s1.markSaturated h else s1
  else s

/-- The verification of a set (R132). -/
def verifySet (target workMin workMax work peak : Int) : HeadOutcome :=
  if peak < target then .rejected .setForceShort
  else if work < workMin then .rejected .setWorkLow
  else if workMax < work then .rejected .setWorkHigh
  else .good

/-- The figures of a set written into a joint's result (R131 step 3). -/
def JointResult.withSet (r : JointResult) (code : RivetCode) (work peak : Int) : JointResult :=
  { r with code := some code, setWork := some work, peakForce := some peak }

/-- SET_DONE at the holder of a permit (R131). -/
def State.finishSet (s : State) (h : HeadNo) (k : PermitNo) (g : PermitGrant) : State :=
  let ch := s.channel (setChannelOf k)
  let cls := s.rivetClass g.code
  let out := verifySet (g.forceTarget.getD cls.forceTarget) cls.workMin cls.workMax ch.work ch.peakHanded
  let s1 := s.setChannel (setChannelOf k) ch.formWork
  let s2 := if ch.formWork.mv || ch.formWork.ev then s1.markSaturated h else s1
  let s3 := s2.modJoint g.joint (fun j => { j with result := j.result.withSet g.code ch.work ch.peakHanded })
  (((s3.setPermit k none).modHead h (fun x => { x with outcome := some out })).enterRelease h).grantAll

/-- SET_DONE at a head (R56, R131). -/
def State.setDone (s : State) (h : HeadNo) : State :=
  if (s.head h).state = .set then
    match s.permitOf h with
    | none => s
    | some k =>
      match s.permit k with
      | none => s
      | some g => s.finishSet h k g
  else s

/-- The joint takes the outcome its head recorded (R5). -/
def Joint.conclude (j : Joint) : Option HeadOutcome → Joint
  | some (.rejected r) => j.reject r r.reworkable (some r.decidedIn)
  | some .good => { j with state := .complete }
  | none => { j with state := .complete }

/-- Whether an outcome is a rejection. -/
def isRejection : Option HeadOutcome → Bool
  | some (.rejected _) => true
  | some .good => false
  | none => false

/-- A held joint leaves the in-work states at RELEASE_DONE: its outcome, its heater holdings, the report and the
current pass (R5). -/
def State.concludeJoint (s : State) (i : Nat) (out : Option HeadOutcome) : State :=
  let s1 := (s.modJoint i (fun j => j.conclude out)).endHeaterUse i
  let s2 := if isRejection out then s1.post .jointRejected i else s1
  s2.recompute s.blockedBy.isSome

/-- RELEASE_DONE taken in RELEASE, without the mode controller's tests (R57). -/
def State.release (s : State) (h : HeadNo) : State :=
  let s1 := match (s.head h).held with | none => s | some i => s.concludeJoint i (s.head h).outcome
  s1.modHead h (fun x =>
    { x with state := .idle, phaseTimer := none, held := none, outcome := none, target := none, order := none })

/-! ## Faults (R61) -/

/-- Steps 1 and 2 of a fault: the head's own record (R61). -/
def Head.faulted (x : Head) (cause : FaultCause) (now : Stamp) : Head :=
  { x with state := .fault, subPhase := none, target := none, rate := none, outcome := none, phaseTimer := none,
           rivetWait := .stopped, fault := some ⟨cause, x.state, x.held, now⟩ }

/-- Step 3 of a fault: the held joint is rejected with HEAD_FAULT (R6). -/
def State.rejectHeld (s : State) (i : Nat) (phase : HeadState) : State :=
  ((s.modJoint i (fun j => j.reject .headFault j.state.unfed (some phase))).post .jointRejected i).recompute
    s.blockedBy.isSome

/-- Step 4 of a fault: the drill channel is released with ending CUT_SHORT, or the head leaves the wait queue (R75). -/
def State.dropDrill (s : State) (h : HeadNo) : State :=
  match s.drillChannelOf h with
  | some c => (s.modChannel c Channel.cutShort).releaseDrill c
  | none => s.setDrillQueue (s.signature.drillQueue.filter (· ≠ h))

/-- A set channel is freed if a head holds it (R76, R133). -/
def State.freeSetChannel (s : State) (k : PermitNo) (h : HeadNo) : State :=
  if (s.channel (setChannelOf k)).holder = some h then s.modChannel (setChannelOf k) Channel.free else s

/-- Step 5 of a fault: the permit and its set channel are freed and a waiting head is granted it, or the head leaves
the permit wait queue (R133). -/
def State.dropPermit (s : State) (h : HeadNo) : State :=
  match s.permitOf h with
  | some k => ((s.freeSetChannel k h).setPermit k none).grantAll
  | none => s.withdraw h

/-- A head faults: the seven steps of R61, without the mode controller's tests. -/
def State.faultHead (s : State) (h : HeadNo) (cause : FaultCause) : State :=
  let x := s.head h
  let s1 := (s.modHead h (fun y => y.faulted cause s.time)).sendDrive h .stop
  let s2 :=
    match x.held with
    | none => s1
    | some i => (s1.rejectHeld i x.state).modHead h (fun y => { y with held := none })
  let s3 := (s2.dropDrill h).dropPermit h
  let s4 := match x.held with | none => s3 | some i => s3.endHeaterUse i
  s4.post .headFault h.val

/-- The states in which a DRIVE_FAULT or a timeout can fault a head (R42). -/
def HeadState.canFault : HeadState → Bool
  | .homing => true
  | .idle => true
  | .travel => true
  | .clamp => true
  | .drillWait => true
  | .drill => true
  | .retract => true
  | .awaitRivet => true
  | .feed => true
  | .set => true
  | .release => true
  | .parked => false
  | .stopped => false
  | .fault => false
  | .offline => false

/-! ## Homing and parking (R28, R63, R67) -/

/-- The claim of a head that starts homing: from its previous claim to its home end (R28). -/
def State.homingClaim (s : State) (h : HeadNo) : Claim :=
  match s.claim h with
  | none => ⟨s.homePoint h, s.homePoint h⟩
  | some c => if isLower h then ⟨0, c.hi⟩ else ⟨c.lo, s.station.railLength⟩

/-- A head enters HOMING (R63). -/
def State.enterHoming (s : State) (h : HeadNo) : State :=
  (s.enterPhase h .homing s.station.homeTime .home).setClaim h (some (s.homingClaim h))

/-- HOME_DONE taken in HOMING, without the mode controller's tests (R63, R28). -/
def State.home (s : State) (h : HeadNo) : State :=
  (s.modHead h (fun x =>
    { x with state := .idle, phaseTimer := none, position := some (s.homePoint h), order := none })).setClaim h
      (some ⟨s.homePoint h, s.homePoint h⟩)

/-- STOP is sent to a head that is homing (R67, R70). -/
def State.stopHoming (s : State) (h : HeadNo) : State :=
  if (s.head h).state = .homing then s.sendDrive h .stop else s

/-- A head enters PARKED, a homing head first being sent STOP (R67). -/
def State.park (s : State) (h : HeadNo) : State :=
  (s.stopHoming h).modHead h (fun x => { x with state := .parked, phaseTimer := none, order := none })

/-- Every head in one of some states is parked (R67). -/
def State.parkWhere (s : State) (which : HeadState → Bool) : State :=
  headNos.foldl (fun t h => if which (t.head h).state then t.park h else t) s

/-- A head taken by ABORT (R66). -/
def Head.abort (x : Head) : Head :=
  { x with state := .stopped, subPhase := none, held := none, target := none, outcome := none, rate := none,
           phaseTimer := none, rivetWait := .stopped }

/-- Every head that is not OFFLINE sends STOP and enters STOPPED (R66). -/
def State.stopHeads (s : State) : State :=
  headNos.foldl (fun t h =>
    if (t.head h).state = .offline then t else (t.modHead h Head.abort).sendDrive h .stop) s

/-- The rivet wait timer paused, keeping the time left (R53). -/
def WaitTimer.pause : WaitTimer → WaitTimer
  | .counting n => .paused n
  | .paused n => .paused n
  | .stopped => .stopped

/-- The rivet wait timer counting on from the time left (R53). -/
def WaitTimer.resume : WaitTimer → WaitTimer
  | .paused n => .counting n
  | .counting n => .counting n
  | .stopped => .stopped

/-- Every head's rivet wait timer passed through a function. -/
def State.mapWaits (s : State) (f : WaitTimer → WaitTimer) : State :=
  { s with heads := s.heads.map (fun x => { x with rivetWait := f x.rivetWait }) }

end Sys2Proof.Machine
end

