-- ==== Sys2Proof/Machine/Dispatcher.lean ====
section
/-! DEFINITION. Machine/Dispatcher.lean: dispatch rounds (chapter 2): the search of each idle head, the test of its
travel span against its neighbour, and the assignment. -/

namespace Sys2Proof.Machine

/-- The lower end of a head's claim, an absent claim being tested as the home point (R26). -/
def State.claimLo (s : State) (h : HeadNo) : Nat := ((s.claim h).map Claim.lo).getD (s.homePoint h)

/-- The upper end of a head's claim, an absent claim being tested as the home point (R26). -/
def State.claimHi (s : State) (h : HeadNo) : Nat := ((s.claim h).map Claim.hi).getD (s.homePoint h)

/-- Whether the travel span from `p` to `t` of a head is compatible with the other claim of its rail (R34). -/
def State.spanClear (s : State) (h : HeadNo) (p t : Nat) : Bool :=
  if isLower h then max p t + s.station.clearance ≤ s.claimLo (neighbour h)
  else s.claimHi (neighbour h) + s.station.clearance ≤ min p t

/-- Whether the flag a gate names is set; an absent gate is open (R34). -/
def State.gateOpen (s : State) (gate : Option (Fin 4)) : Bool := gate.all (fun k => s.dispatcher.flags[k])

/-- Whether a joint meets the six conditions for a head standing at `p` (R34). -/
def State.eligible (s : State) (h : HeadNo) (p : Nat) (j : Joint) : Bool :=
  j.state == .pending && s.table.currentPass == some j.identity.pass && j.identity.side == railOf h &&
    s.gateOpen j.identity.gate && j.corrected.any (fun t => s.spanClear h p t)

/-- The indices of the table in a head's own direction (R34). -/
def searchOrder (h : HeadNo) (n : Nat) : List Nat := if isLower h then List.range n else (List.range n).reverse

/-- The index of the joint a head standing at `p` takes (R34). -/
def State.search (s : State) (h : HeadNo) (p : Nat) : Option Nat :=
  (searchOrder h s.table.joints.length).find? (fun i => (s.joint? i).any (s.eligible h p))

/-- The travel span from `p` to `t` (R27). -/
def travelSpan (p t : Nat) : Claim := ⟨min p t, max p t⟩

/-- A joint as its assignment to a head leaves it (R4). -/
def Joint.assignTo (h : HeadNo) (j : Joint) : Joint := { j with state := .assigned, head := some h, pocket := none }

/-- The assignment of a joint with corrected position `t` to a head standing at `p`: four effects in order (R35). -/
def State.assign (s : State) (h : HeadNo) (p i t : Nat) : State :=
  ((((s.changeJoint i (Joint.assignTo h)).setClaim h (some (travelSpan p t))).modHead h (fun x =>
    { x with held := some i, target := some t })).enterPhase h .travel s.station.travelTime (.move t)).preHeat i

/-- One head of a round: an IDLE head searches and is given what it finds (R33, R34). -/
def State.serveHead (s : State) (h : HeadNo) : State :=
  if (s.head h).state = .idle then
    match (s.head h).position with
    | none => s
    | some p =>
      match s.search h p with
      | none => s
      | some i =>
        match (s.joint? i).bind (·.corrected) with
        | none => s
        | some t => s.assign h p i t
  else s

/-- A dispatch round, searched in RUNNING alone (R32, R33). -/
def State.round (s : State) : State := if s.mode = .running then headNos.foldl State.serveHead s else s

/-- A round where the current pass has changed from `old` (R20, R32). -/
def State.roundIfPassChanged (s : State) (old : Option Pass) : State :=
  if s.table.currentPass = old then s else s.round

end Sys2Proof.Machine
end

