-- ==== Sys2Proof/Machine/Modes.lean ====
section
/-! DEFINITION. Machine/Modes.lean: the mode controller (chapter 7): mode changes, the conditions it watches, the
directives, and the taking of the pending set. -/

namespace Sys2Proof.Machine

/-! ## Mode changes and watched conditions -/

/-- A mode is entered: it is written with its directive in progress, and MODE_CHANGED is posted (R141, R140). -/
def State.enterMode (s : State) (m : Mode) : State :=
  ({ s with control := { s.control with mode := m, inProgress := m.progress } } : State).post .modeChanged m.code

/-- The program is complete: ARMED is entered and PROGRAM_COMPLETE posted (R155). -/
def State.completeProgram (s : State) : State :=
  (s.enterMode .armed).post .programComplete (s.countOf .complete)

/-- The program completion test at an entry to RUNNING (R155). -/
def State.programTest (s : State) : State :=
  if s.mode = .running ∧ s.table.currentPass = none then s.completeProgram else s

/-- The program completion test at a change of the current pass from `old` to absent (R155). -/
def State.passGone (s : State) (old : Option Pass) : State := if old.isSome then s.programTest else s

/-- The drain completion test (R154). -/
def State.drainTest (s : State) : State :=
  if s.mode = .draining ∧ s.anyInWork = false then s.enterMode .armed else s

/-- The states that do not hold a hold back: the hold points, FAULT, PARKED and OFFLINE (R151). -/
def HeadState.atRest : HeadState → Bool
  | .idle => true
  | .awaitRivet => true
  | .fault => true
  | .parked => true
  | .offline => true
  | .homing => false
  | .travel => false
  | .clamp => false
  | .drillWait => false
  | .drill => false
  | .retract => false
  | .feed => false
  | .set => false
  | .release => false
  | .stopped => false

/-- The hold completion condition (R151). -/
def State.allAtRest (s : State) : Bool := headNos.all (fun h => (s.head h).state.atRest)

/-- The hold completion test (R151). -/
def State.holdTest (s : State) : State := if s.mode = .holding ∧ s.allAtRest = true then s.enterMode .held else s

/-- Whether any head is in HOMING. -/
def State.anyHoming (s : State) : Bool := headNos.any (fun h => (s.head h).state == .homing)

/-- The completion test of ARMING; ARMED entered from ARMING takes a serving step (R148, R117). -/
def State.armingTest (s : State) : State :=
  if s.mode = .arming ∧ s.anyHoming = false then (s.enterMode .armed).serve else s

/-- What follows a joint change for the mode controller and the dispatcher, the current pass having been `old` before
it (R20, R154, R155). -/
def State.settleJoint (s : State) (old : Option Pass) : State := ((s.passGone old).drainTest).roundIfPassChanged old

/-! ## The directives (R143) -/

/-- The modes in which a directive is legal (R143). -/
def Directive.legal : Directive → Mode → Bool
  | .abort, m => m != .aborted
  | .recover, m => m == .aborted
  | .drain, m => m == .running || m == .holding || m == .held
  | .hold, m => m == .running || m == .draining
  | .resume, m => m == .holding || m == .held
  | .start, m => m == .armed
  | .disarm, m => m == .armed
  | .arm, m => m == .setup

/-- The busy modes whose directive in progress a directive interrupts (R143, R144). -/
def Directive.interrupts : Directive → Mode → Bool
  | .abort, m => m == .arming || m == .holding || m == .draining
  | .drain, m => m == .holding
  | .hold, m => m == .draining
  | .resume, m => m == .holding
  | .recover, _ => false
  | .start, _ => false
  | .disarm, _ => false
  | .arm, _ => false

/-- The kinds a directive removes from the pending set when it is executed (R143, R146). -/
def Directive.removes : Directive → List Directive
  | .abort => [.recover, .drain, .hold, .resume, .start, .disarm, .arm]
  | .drain => [.hold, .resume, .start]
  | .hold => [.resume, .drain]
  | .resume => [.hold]
  | .recover => []
  | .start => []
  | .disarm => []
  | .arm => []

/-- Some kinds leave the pending set. -/
def State.removePending (s : State) (ds : List Directive) : State :=
  { s with control := { s.control with pendingSet := s.control.pendingSet.filter (· ∉ ds) } }

/-- A directive joins the pending set, which is kept in priority order (R142, R140). -/
def State.joinPending (s : State) (d : Directive) : State :=
  { s with control := { s.control with
    pendingSet := Directive.all.filter (fun x => x == d || x ∈ s.control.pendingSet) } }

/-! ### ARM (R147, R149) -/

/-- The reason for which ARM fails at validation, if it does: the first of the three checks (R147, R191). -/
def State.armFault (s : State) : Option Nat :=
  if headNos.all (fun h => (s.head h).state == .offline) then some 0
  else if s.heater.table.any (fun e => s.heater.classes[e.code].isNone) then some 1
  else if s.control.stationMark = false then some 2
  else none

/-- Every head that is not OFFLINE enters HOMING, a homing head afresh (R63, R147). -/
def State.homeAll (s : State) : State :=
  headNos.foldl (fun t h => if (t.head h).state = .offline then t else t.enterHoming h) s

/-- ARM (R147). -/
def State.executeArm (s : State) : State :=
  match (s.enterMode .arming).armFault with
  | some reason => ((s.enterMode .arming).enterMode .setup).post .armFailed reason
  | none => (s.enterMode .arming).computeCorrected.homeAll

/-- A homing fault in ARMING ends ARM (R149). -/
def State.failArm (s : State) : State := ((s.enterMode .setup).post .armFailed 3).dropCorrected

/-! ### START, HOLD, RESUME and DRAIN (R150 to R154) -/

/-- The reactions that end every entry to RUNNING: the round, the blocked-pass test and the program completion test
(R141, R150, R153). -/
def State.beginRunning (s : State) : State := (s.round.postBlocked false).programTest

/-- START (R150). -/
def State.executeStart (s : State) : State := (s.enterMode .running).beginRunning

/-- HOLD (R151). -/
def State.executeHold (s : State) : State :=
  (((s.enterMode .holding).setPermitQueue []).mapWaits WaitTimer.pause).holdTest

/-- Rivet wait timers count again and the permit requests are raised again (R53, R128). -/
def State.backToWork (s : State) : State := (s.mapWaits WaitTimer.resume).reRaise

/-- RESUME (R153). -/
def State.executeResume (s : State) : State := (s.enterMode .running).backToWork.beginRunning

/-- DRAIN (R154). -/
def State.executeDrain (s : State) : State :=
  if s.mode = .holding ∨ s.mode = .held then (s.enterMode .draining).backToWork.drainTest
  else (s.enterMode .draining).drainTest

/-! ### DISARM, ABORT and RECOVER (R156 to R158) -/

/-- The states out of which DISARM parks a head (R67). -/
def HeadState.disarmed : HeadState → Bool
  | .idle => true
  | .fault => true
  | .homing => true
  | .parked => false
  | .travel => false
  | .clamp => false
  | .drillWait => false
  | .drill => false
  | .retract => false
  | .awaitRivet => false
  | .feed => false
  | .set => false
  | .release => false
  | .stopped => false
  | .offline => false

/-- DISARM (R156, R121). -/
def State.executeDisarm (s : State) : State :=
  (((s.enterMode .setup).dropCorrected.parkWhere HeadState.disarmed).ejectAll).restorePockets

/-- A joint as ABORT leaves it, its holder being in a given phase (R7). -/
def Joint.lock (j : Joint) (phase : Option HeadState) : Joint :=
  if j.state.inWork then
    { j with state := .locked, rejection := some ⟨.aborted, j.state.unfed⟩, phaseAtEnd := phase }
  else j

/-- Every joint in work becomes LOCKED with the phase of the head that holds it (R7). -/
def State.lockJoints (s : State) : State :=
  let lockAt := fun (i : Nat) (j : Joint) => j.lock ((s.holderOf i).map (fun h => (s.head h).state))
  { s with table := { s.table with joints := s.table.joints.mapIdx lockAt } }

/-- The four channels in their numbers' order. -/
def channelNos : List ChannelNo := [0, 1, 2, 3]

/-- A channel as ABORT leaves it: a GRANTED drill channel cut short, a GRANTED set channel freed (R75). -/
def Channel.aborted (c : ChannelNo) (x : Channel) : Channel :=
  if x.holder.isNone then x else if c.val < 2 then x.cutShort else x.free

/-- Every channel is freed and the drill channel wait queue emptied (R75). -/
def State.abortChannels (s : State) : State :=
  (channelNos.foldl (fun t c => t.modChannel c (Channel.aborted c)) s).setDrillQueue []

/-- Every permit is freed and the permit wait queue emptied (R135). -/
def State.abortPermits (s : State) : State := ((s.setPermit 0 none).setPermit 1 none).setPermitQueue []

/-- ABORT (R157). -/
def State.executeAbort (s : State) : State :=
  (((((s.enterMode .aborted).lockJoints).stopHeads).abortChannels.abortPermits).ejectAll).recompute false

/-- The heads in STOPPED (R67). -/
def HeadState.isStopped (x : HeadState) : Bool := x == .stopped

/-- RECOVER (R158). -/
def State.executeRecover (s : State) : State :=
  let s1 := s.enterMode .setup
  let s2 := ((s1.mapJoints Joint.unlock).postRejected s1.lockedJoints).dropCorrected
  ((s2.recompute false).parkWhere HeadState.isStopped).restorePockets

/-! ## Taking directives (R142 to R146) -/

/-- A directive's own effect, its removals made (R143). -/
def State.perform (s : State) : Directive → State
  | .abort => s.executeAbort
  | .recover => s.executeRecover
  | .drain => s.executeDrain
  | .hold => s.executeHold
  | .resume => s.executeResume
  | .start => s.executeStart
  | .disarm => s.executeDisarm
  | .arm => s.executeArm

/-- A directive is executed: it removes what it removes, and then has its effect (R145, R146). -/
def State.execute (s : State) (d : Directive) : State := (s.removePending d.removes).perform d

/-- A directive taken from the pending set is executed if it is legal and refused if it is not (R145). -/
def State.takeDirective (s : State) (d : Directive) : State :=
  if d.legal s.mode then (s.removePending [d]).execute d
  else (s.removePending [d]).post .modeCommandRefused d.kindCode

/-- The member of the pending set with the highest priority (R145). -/
def State.nextDirective (s : State) : Option Directive := Directive.all.find? (· ∈ s.control.pendingSet)

/-- Turns of taking while the controller is not busy (R145). -/
def State.takeTurns : Nat → State → State
  | 0, s => s
  | n + 1, s =>
    if s.mode.busy then s
    else
      match s.nextDirective with
      | none => s
      | some d => State.takeTurns n (s.takeDirective d)

/-- The controller's test at the end of an event: the pending set is taken while the controller is not busy and the
restart mark is clear (R145). -/
def State.controllerTurn (s : State) : State :=
  if s.control.restartMark then s else s.takeTurns Directive.all.length

/-- The reply a directive is given at its arrival (R142). -/
def State.arrivalStatus (s : State) (d : Directive) : Status :=
  if d ∈ s.control.pendingSet then .alreadyPending else .accepted

/-- A directive arrives: it is lost, interrupts, or joins the pending set, from which the controller's turn takes it
(R142, R144, R160). -/
def State.arrive (s : State) (d : Directive) : State :=
  if d ∈ s.control.pendingSet then s
  else if s.control.restartMark = false ∧ d.interrupts s.mode = true then s.execute d
  else s.joinPending d

end Sys2Proof.Machine
end

