-- ==== Sys2Proof/Machine/Layouts.lean ====
section
/-! DEFINITION. Machine/Layouts.lean: the contents of the replies that read the part (chapter 10), byte by byte. -/

namespace Sys2Proof.Machine

/-- The first `n` of a list's entries, unused places filled (the fixed lists of chapter 10). -/
def places (n : Nat) (unused : List Byte) (entries : List (List Byte)) : List Byte :=
  ((entries ++ List.replicate n unused).take n).flatten

/-! ## Joints (Tables 10-4 and 10-5) -/

/-- Byte 2 of a joint load record: side, kind, diameter class and key (Table 10-4). -/
def JointIdentity.flagsByte (d : JointIdentity) : Nat :=
  bit 7 (d.side == .b) + bit 6 (d.kind == .hole) + d.diameter.val * 16 + bit 3 d.key

/-- The 12 identity bytes of a joint, its tolerance all ones where its expected grip is absent (Tables 10-4, 10-5). -/
def JointIdentity.bytes (d : JointIdentity) : List Byte :=
  b16 d.id ++ b8 d.flagsByte ++ b8 (d.pass.val * 16 + d.expectedLayers.getD 0) ++ b8 d.zone.val ++ b16 d.offset ++
    o16 d.expectedGrip ++ o16 d.tolerance ++ o8 (d.gate.map Fin.val)

/-- The result flags of Table 10-5, byte 54. -/
def JointResult.flagsByte (r : JointResult) : Nat :=
  bit 0 r.saturated + bit 1 r.overflow + bit 2 r.setWork.isSome

/-- The result bytes 25 to 54 of Table 10-5. -/
def JointResult.bytes (r : JointResult) : List Byte :=
  o16 r.entry ++ o16 r.exit ++ o16 r.grip ++ o8 r.layers ++ o8 (r.boundaries.map List.length) ++
    places 7 (b16 0) ((r.boundaries.getD []).map b16) ++ o16 r.peckCount ++ o8 (r.code.map Fin.val) ++
    z16 r.setWork ++ z16 r.peakForce ++ b8 r.flagsByte

/-- The working bytes 14 to 24 of Table 10-5. -/
def Joint.workingBytes (j : Joint) : List Byte :=
  b8 j.state.code ++ o32 j.corrected ++ o8 (j.head.map Fin.val) ++ o8 (j.phaseAtEnd.map HeadState.code) ++
    o8 (j.rejection.map (fun r => r.reason.code)) ++ o8 (j.rejection.map (fun r => if r.reworkable then 1 else 0)) ++
    b8 j.reworks ++ o8 (j.pocket.map Fin.val)

/-- The content of JOINT_READ's reply (Table 10-5). -/
def Joint.content (i : Nat) (j : Joint) : List Byte := b16 i ++ j.identity.bytes ++ j.workingBytes ++ j.result.bytes

/-! ## Station and status (Table 10-3, Table 10-7) -/

/-- The 30 setting bytes, laid out as STATION_SET (Table 10-3). -/
def StationSettings.bytes (t : StationSettings) : List Byte :=
  b32 t.railLength ++ b32 t.clearance ++ b16 t.homeTime ++ b16 t.travelTime ++ b16 t.clampTime ++ b16 t.drillTime ++
    b16 t.retractTime ++ b16 t.feedTime ++ b16 t.setTime ++ b16 t.releaseTime ++ b16 t.loadTime ++ b16 t.ejectTime ++
    b16 t.rivetWaitLimit

/-- The four flags as one byte, bit k being flag k (R38, Table 10-3). -/
def flagsByte (f : Vector Bool 4) : Nat := bit 0 f[0] + bit 1 f[1] + bit 2 f[2] + bit 3 f[3]

/-- The content of STATION_READ's reply (R185). -/
def State.stationContent (s : State) : List Byte :=
  (if s.control.stationMark then s.station.bytes else List.replicate 30 0xFF) ++ mark s.control.stationMark ++
    b8 (flagsByte s.dispatcher.flags) ++ b8 s.link.lineRate.code

/-- The pending set as one byte, bit n being the directive of priority n + 1 (R191). -/
def pendingByte (ds : List Directive) : Nat :=
  bit 0 (Directive.abort ∈ ds) + bit 1 (Directive.recover ∈ ds) + bit 2 (Directive.drain ∈ ds) +
    bit 3 (Directive.hold ∈ ds) + bit 4 (Directive.resume ∈ ds) + bit 5 (Directive.start ∈ ds) +
    bit 6 (Directive.disarm ∈ ds) + bit 7 (Directive.arm ∈ ds)

/-- The nine joint states in the order of their codes (R191). -/
def JointState.all : List JointState :=
  [.pending, .assigned, .drilling, .drilled, .setting, .complete, .rejected, .skipped, .locked]

/-- The content of STATUS_READ's reply (Table 10-7). -/
def State.statusContent (s : State) : List Byte :=
  b8 s.mode.code ++ mark s.mode.busy ++ b8 (pendingByte s.control.pendingSet) ++
    o8 (s.table.currentPass.map Fin.val) ++ JointState.all.flatMap (fun st => b16 (s.countOf st)) ++
    headNos.flatMap (fun h => b8 (s.head h).state.code) ++ b8 s.link.requests.length ++ b16 s.link.frameErrors ++
    b16 s.link.overruns ++ b32 s.time.toNat

/-! ## Events (Table 10-11) -/

/-- One latch entry of Table 10-11. -/
def Latch.bytes (l : Latch) : List Byte :=
  b8 l.stateCode ++ mark l.enabled ++ b8 l.priority.val ++
    match l.held with
    | none => List.replicate 8 0
    | some r => b16 r.subject ++ b32 r.first.toNat ++ b8 r.mode.code ++ b8 r.count

/-- The content of EVENT_READ's reply (Table 10-11). -/
def State.eventContent (s : State) : List Byte :=
  EventKind.all.flatMap (fun k => (s.latch k).bytes) ++ b8 s.reports.queue.length ++
    places 8 [0xFF] ((sortBy s.rankBefore s.reports.queue).map (fun k => b8 k.index.val))

/-! ## Heads (Table 10-8) -/

/-- A claim's two ends, all ones where absent (Table 10-8). -/
def claimBytes (c : Option Claim) : List Byte := o32 (c.map Claim.lo) ++ o32 (c.map Claim.hi)

/-- The rivet wait timer and its status, bytes 32 to 34 of Table 10-8. -/
def WaitTimer.bytes : WaitTimer → List Byte
  | .stopped => o16 none ++ b8 0
  | .counting n => b16 (hundredsUp n) ++ b8 1
  | .paused n => b16 (hundredsUp n) ++ b8 2

/-- The cause and code of a fault, bytes 36 and 37 of Table 10-8. -/
def FaultCause.bytes : FaultCause → List Byte
  | .drive code => b8 0 ++ [code]
  | .timeout phase => b8 1 ++ b8 phase.code

/-- The fault record with its mark, bytes 35 to 44 of Table 10-8. -/
def faultBytes : Option FaultRecord → List Byte
  | none => List.replicate 10 0
  | some f => b8 1 ++ f.cause.bytes ++ b8 f.phase.code ++ o16 f.joint ++ b32 f.time.toNat

/-- A peck profile's four bytes. -/
def PeckProfile.bytes (p : PeckProfile) : List Byte := b16 p.a ++ b16 p.b

/-- A buffered profile's four bytes, all ones when empty (R191). -/
def bufferBytes : Option PeckProfile → List Byte
  | none => List.replicate 4 0xFF
  | some p => p.bytes

/-- The part of HEAD_READ's reply that the head record gives, bytes 1 to 44 of Table 10-8. -/
def Head.bytes (x : Head) : List Byte :=
  b8 x.state.code ++ o8 (x.subPhase.map SubPhase.code) ++ o16 x.held ++ o32 x.position ++ o32 x.target ++
    o8 (x.outcome.map HeadOutcome.code) ++ x.active.bytes ++ mark x.buffered.isSome ++ bufferBytes x.buffered ++
    b16 x.deepest ++ b16 x.peckStart ++ b16 x.peckCounter ++ o8 (x.rate.map FeedRate.code) ++ o16 x.phaseTimer ++
    x.rivetWait.bytes ++ faultBytes x.fault

/-- The content of HEAD_READ's reply (Table 10-8). -/
def State.headContent (s : State) (h : HeadNo) : List Byte :=
  b8 h.val ++ (s.head h).bytes ++ mark (s.claim h).isSome ++ claimBytes (s.claim h) ++
    o8 ((s.drillChannelOf h).map Fin.val) ++ o8 (s.signature.drillQueue.idxOf? h) ++ o8 ((s.pocketOf h).map Fin.val) ++
    o8 ((s.permitOf h).map Fin.val) ++ o8 (s.arbiter.queue.idxOf? h)

/-! ## Channels (Table 10-9) -/

/-- The presence mask of Table 10-9, bytes 48 and 49. -/
def Channel.presence (c : Channel) : Nat :=
  bit 0 c.lastOutput.isSome + bit 1 c.lastDepth.isSome + bit 2 c.peak.isSome + bit 3 c.valley.isSome +
    bit 4 c.runStart.isSome + bit 5 c.entry.isSome + bit 6 c.layers.isSome + bit 7 c.exit.isSome +
    bit 8 c.ending.isSome + bit 9 c.peakForce.isSome + bit 10 c.lastStroke.isSome + bit 11 c.setWork.isSome

/-- Bytes 1 to 49 of Table 10-9. -/
def Channel.firstBytes (c : Channel) : List Byte :=
  mark c.holder.isSome ++ o8 (c.holder.map Fin.val) ++ o8 (c.lastHolder.map Fin.val) ++ o16 c.joint ++
    c.ring.toList.flatMap bs16 ++ b8 c.writeIndex.val ++ b16 c.sampleCount ++ bs40 c.accumulator ++
    b8 (bit 0 c.mv + bit 1 c.ev) ++ b8 c.machine.code ++ b16 c.presence

/-- Bytes 50 to 83 of Table 10-9. -/
def Channel.measureBytes (c : Channel) : List Byte :=
  z16 c.lastOutput ++ z16 c.lastDepth ++ z16 c.peak ++ z16 c.valley ++ b16 (c.valleyDepth.getD 0) ++ b8 c.runCount ++
    b16 (c.runStart.getD 0) ++ b16 (c.entry.getD 0) ++ b8 (c.layers.getD 0) ++ b8 c.boundaries.length ++
    places 7 (b16 0) (c.boundaries.map b16) ++ b16 (c.exit.getD 0) ++ b8 ((c.ending.map Ending.code).getD 0)

/-- The drill channel wait queue as a drill channel's reply carries it (Table 10-9). -/
def State.drillQueueBytes (s : State) : List Byte :=
  b8 s.signature.drillQueue.length ++ places 2 [0xFF] (s.signature.drillQueue.map (fun h => b8 h.val))

/-- The figures of a set channel (Table 10-9). -/
def Channel.setBytes (c : Channel) : List Byte :=
  z16 c.peakForce ++ b16 (c.lastStroke.getD 0) ++ z16 c.setWork

/-- The content of CHANNEL_READ's reply (Table 10-9). -/
def State.channelContent (s : State) (c : ChannelNo) : List Byte :=
  b8 c.val ++ (s.channel c).firstBytes ++ (s.channel c).measureBytes ++
    if c.val < 2 then s.drillQueueBytes else (s.channel c).setBytes

/-- The filter settings laid out as FILTER_SET (Table 10-3). -/
def FilterSettings.bytes (f : FilterSettings) : List Byte :=
  b8 f.taps.length ++ f.taps.flatMap bs16 ++ b16 f.engage ++ b16 f.dropRatio ++ b16 f.rebound ++ b16 f.exitLevel ++
    b8 f.confirm ++ b16 f.depthLimit ++ b16 f.setWeight

/-! ## The heater (Table 10-10) -/

/-- The port timer of a pocket in ms. -/
def Pocket.portTimer : Pocket → Option Nat
  | .loading _ _ t => some t
  | .ejecting _ t => some t
  | .empty => none
  | .heating _ _ _ => none
  | .ready _ _ _ _ => none
  | .disabled => none

/-- The heat timer of a pocket in ms. -/
def Pocket.heatTimer : Pocket → Option Nat
  | .heating _ _ t => some t
  | .empty => none
  | .loading _ _ _ => none
  | .ready _ _ _ _ => none
  | .ejecting _ _ => none
  | .disabled => none

/-- The hold timer of a pocket in ms. -/
def Pocket.holdTimer : Pocket → Option Nat
  | .ready _ _ t _ => some t
  | .empty => none
  | .loading _ _ _ => none
  | .heating _ _ _ => none
  | .ejecting _ _ => none
  | .disabled => none

/-- The ready stamp of a pocket. -/
def Pocket.stamp : Pocket → Option Stamp
  | .ready _ _ _ x => some x
  | .empty => none
  | .loading _ _ _ => none
  | .heating _ _ _ => none
  | .ejecting _ _ => none
  | .disabled => none

/-- One pocket entry of Table 10-10. -/
def Pocket.bytes (p : Pocket) : List Byte :=
  b8 p.stateCode ++ o8 (p.code?.map Fin.val) ++ o16 p.owner? ++ o16 p.portTimer ++
    o16 (p.heatTimer.map hundredsUp) ++ o16 (p.holdTimer.map hundredsUp) ++ b32 ((p.stamp.map BitVec.toNat).getD 0)

/-- One heat order entry of Table 10-10. -/
def HeatOrder.bytes (o : HeatOrder) : List Byte := b8 o.cls.code ++ b8 o.code.val ++ b16 o.joint

/-- The content of HEATER_READ's reply (Table 10-10). -/
def State.heaterContent (s : State) : List Byte :=
  s.heater.pockets.toList.flatMap Pocket.bytes ++ b8 s.heater.orders.length ++
    places 8 (List.replicate 4 0xFF) (s.heater.orders.map HeatOrder.bytes) ++ s.heater.magazines.toList.flatMap b16

end Sys2Proof.Machine
end

