-- ==== Sys2Proof/Machine/Requests.lean ====
section
/-! DEFINITION. Machine/Requests.lean: what the executor makes of each request (the table of section 9.7): its checks
in the order of R180 or of its owning rule, its effect, and its reply. -/

namespace Sys2Proof.Machine

/-- What executing a request gives: the state after it, and the status and content of its reply (R180, R182). -/
structure Answer where
  state : State
  status : Status
  content : List Byte
  deriving DecidableEq, Repr

/-- A refused request changes nothing, and its reply carries no content (R180, R182). -/
def refuse (s : State) (st : Status) : Answer := ⟨s, st, []⟩

/-- A refusal with BAD_FIELD that carries the position of the first failing record or entry (R182). -/
def refuseAt (s : State) (k : Nat) : Answer := ⟨s, .badField, b8 k⟩

/-- A request executed, with its reply's content. -/
def done (s : State) (content : List Byte) : Answer := ⟨s, .ok, content⟩

/-- The checks of a request of fixed length, mode before length before the rest (R180). -/
def checked (modeOk : Bool) (len : Nat) (s : State) (p : List Byte) (rest : Answer) : Answer :=
  if modeOk then if p.length = len then rest else refuse s .badLength else refuse s .wrongMode

/-- Whether a number lies within a range, its ends included. -/
def within (lo hi x : Nat) : Bool := lo ≤ x && x ≤ hi

/-! ## The joint table (R9 to R17) -/

/-- A value that is absent at one code and otherwise lies within a range; `none` where it is neither (R192). -/
def optional (absent lo hi x : Nat) : Option (Option Nat) :=
  if x = absent then some none else if within lo hi x then some (some x) else none

/-- The tolerance of a load record: read only where the expected grip is present (R10, R192). -/
def toleranceOf (grip : Option Nat) (x : Nat) : Option (Option Nat) :=
  match grip with
  | none => some none
  | some _ => if x ≤ 2000 then some (some x) else none

/-- A gate code: a flag number, or absent (Table 10-4). -/
def gateOf (x : Nat) : Option (Option (Fin 4)) := if x = 0xFF then some none else (finOf 4 x).map some

/-- The joint identity a load record carries, if it passes the field checks, but for the uniqueness of its id (R10,
Table 10-4). -/
def loadRecord (r : List Byte) : Option JointIdentity := do
  let flags := byteAt r 2
  let pass ← finOf 8 (byteAt r 3 / 16)
  let expectedLayers ← optional 0 1 8 (byteAt r 3 % 16)
  let zone ← finOf 16 (byteAt r 4)
  let expectedGrip ← optional 0xFFFF 1 8000 (u16At r 7)
  let tolerance ← toleranceOf expectedGrip (u16At r 9)
  let gate ← gateOf (byteAt r 11)
  let diameter ← finOf 4 (flags / 16 % 4)
  if u16At r 0 ≠ 0 ∧ flags % 8 = 0 then
    some { id := u16At r 0, side := if flags / 128 = 0 then .a else .b, zone, offset := u16At r 5, pass,
           kind := if flags / 64 % 2 = 0 then .rivet else .hole, diameter, key := flags / 8 % 2 == 1, expectedGrip,
           tolerance, expectedLayers, gate }
  else none

/-- The identities of a batch, or the batch position of its first failing record; `ids` are the ids taken already
(R9, R10). -/
def readBatch (ids : List Nat) : Nat → List (List Byte) → Except Nat (List JointIdentity)
  | _, [] => .ok []
  | k, r :: rs =>
    match loadRecord r with
    | none => .error k
    | some d =>
      if d.id ∈ ids then .error k
      else
        match readBatch (d.id :: ids) (k + 1) rs with
        | .error e => .error e
        | .ok ds => .ok (d :: ds)

/-- A joint as JOINT_LOAD appends it (R9). -/
def JointIdentity.loaded (d : JointIdentity) : Joint :=
  { identity := d, state := .pending, corrected := none, head := none, phaseAtEnd := none, rejection := none,
    reworks := 0, pocket := none, result := .none }

/-- The joint table with its records replaced and the current pass recomputed (R9, R11). -/
def State.setJoints (s : State) (js : List Joint) : State :=
  ({ s with table := { s.table with joints := js } } : State).recompute s.blockedBy.isSome

/-- Whether a JOINT_LOAD payload has an acceptable length (R9). -/
def loadLength (p : List Byte) : Bool := p.length != 0 && p.length % 12 == 0 && p.length ≤ 12 * Config.maxBatch

/-- JOINT_LOAD (R9). -/
def State.jointLoad (s : State) (p : List Byte) : Answer :=
  if s.mode ≠ .setup then refuse s .wrongMode
  else if loadLength p = false then refuse s .badLength
  else
    match readBatch (s.table.joints.map (·.identity.id)) 0 (recordsOf 12 (p.length / 12) p) with
    | .error k => refuseAt s k
    | .ok ds =>
      if Config.maxJoints < s.table.joints.length + ds.length then refuse s .full
      else
        done (s.setJoints (s.table.joints ++ ds.map JointIdentity.loaded))
          (b16 s.table.joints.length ++ b16 (s.table.joints.length + ds.length))

/-- JOINT_CLEAR (R11). -/
def State.jointClear (s : State) (p : List Byte) : Answer :=
  checked (s.mode == .setup) 0 s p (done (s.setJoints []) [])

/-- JOINT_READ (R12). -/
def State.jointRead (s : State) (p : List Byte) : Answer :=
  checked true 2 s p
    (match s.joint? (u16At p 0) with
     | none => refuse s .notFound
     | some j => done s (j.content (u16At p 0)))

/-- The index of the record that carries an id (R13). -/
def State.findId (s : State) (id : Nat) : Option Nat := s.table.joints.findIdx? (fun j => j.identity.id == id)

/-- JOINT_FIND (R13). -/
def State.jointFind (s : State) (p : List Byte) : Answer :=
  checked true 2 s p
    (match s.findId (u16At p 0) with
     | none => refuse s .notFound
     | some i => done s (b16 i))

/-- A joint as JOINT_SKIP leaves it (R14). -/
def Joint.skip (j : Joint) : Joint := { j with state := .skipped, rejection := none }

/-- JOINT_SKIP (R14), with what the current pass's change starts (R20). -/
def State.jointSkip (s : State) (p : List Byte) : Answer :=
  checked (s.mode != .aborted) 2 s p
    (match s.joint? (u16At p 0) with
     | none => refuse s .notFound
     | some j =>
       if j.state = .pending ∨ j.state = .rejected then
         done ((s.changeJoint (u16At p 0) Joint.skip).settleJoint s.table.currentPass) []
       else refuse s .wrongState)

/-- A joint as JOINT_REWORK returns it to PENDING with a corrected position (R15, R16). -/
def Joint.rework (corrected : Option Nat) (j : Joint) : Joint :=
  { j with state := .pending, reworks := j.reworks + 1, rejection := none, head := none, phaseAtEnd := none,
           result := .none, corrected }

/-- Whether a joint is REJECTED with a reason marked reworkable (R15). -/
def Joint.canRework (j : Joint) : Bool := j.state == .rejected && j.rejection.any (·.reworkable)

/-- The corrected position a rework leaves a joint with: in ARMED one that is absent is computed, and `none` is a
refusal (R16). -/
def State.reworkPosition (s : State) (j : Joint) : Option (Option Nat) :=
  if s.mode = .armed ∧ j.corrected = none then
    (correctedOf s.table.datum s.station.railLength j.identity).map some
  else some j.corrected

/-- JOINT_REWORK (R15, R16). -/
def State.jointRework (s : State) (p : List Byte) : Answer :=
  checked (s.mode == .setup || s.mode == .armed) 2 s p
    (match s.joint? (u16At p 0) with
     | none => refuse s .notFound
     | some j =>
       if j.canRework = false then refuse s .notReworkable
       else if Config.maxReworks ≤ j.reworks then refuse s .reworkLimit
       else
         match s.reworkPosition j with
         | none => refuse s .notReworkable
         | some c => done (s.changeJoint (u16At p 0) (Joint.rework c)) [])

/-- The state with a zone's datum correction replaced. -/
def State.setDatum (s : State) (z : Zone) (x : Int) : State :=
  { s with table := { s.table with datum := s.table.datum.set z x } }

/-- DATUM_SET (R17). -/
def State.datumSet (s : State) (p : List Byte) : Answer :=
  checked (s.mode == .setup) 3 s p
    (match finOf 16 (byteAt p 0) with
     | none => refuse s .badField
     | some z =>
       if -2000 ≤ s16At p 1 ∧ s16At p 1 ≤ 2000 then done (s.setDatum z (s16At p 1)) [] else refuse s .badField)

/-- DATUM_READ (R17). -/
def State.datumRead (s : State) (p : List Byte) : Answer :=
  checked true 0 s p (done s (s.table.datum.toList.flatMap bs16))

/-! ## The station (R38, R159, R184 to R186) -/

/-- The settings a STATION_SET payload carries (Table 10-3). -/
def settingsOf (p : List Byte) : StationSettings :=
  { railLength := u32At p 0, clearance := u32At p 4, homeTime := u16At p 8, travelTime := u16At p 10,
    clampTime := u16At p 12, drillTime := u16At p 14, retractTime := u16At p 16, feedTime := u16At p 18,
    setTime := u16At p 20, releaseTime := u16At p 22, loadTime := u16At p 24, ejectTime := u16At p 26,
    rivetWaitLimit := u16At p 28 }

/-- Whether every setting lies in its range (R184). -/
def StationSettings.valid (t : StationSettings) : Bool :=
  within 10000 1048575 t.railLength && within 10000 150000 t.clearance && t.clearance ≤ t.railLength &&
    within 1 60000 t.homeTime && within 1 60000 t.travelTime && within 1 60000 t.clampTime &&
    within 1 60000 t.drillTime && within 1 60000 t.retractTime && within 1 60000 t.feedTime &&
    within 1 60000 t.setTime && within 1 60000 t.releaseTime && within 1000 20000 t.loadTime &&
    within 1000 20000 t.ejectTime && within 10 6000 t.rivetWaitLimit

/-- The states out of which an accepted STATION_SET parks a head: every state but OFFLINE (R67). -/
def HeadState.online (x : HeadState) : Bool := x != .offline

/-- Every head's position becomes absent (R67). -/
def State.dropPositions (s : State) : State := { s with heads := s.heads.map (fun x => { x with position := none }) }

/-- Every claim is discarded (R30). -/
def State.dropClaims (s : State) : State :=
  { s with dispatcher := { s.dispatcher with claims := Vector.replicate 4 none } }

/-- The station settings are replaced and the station mark set (R184, R161). -/
def State.takeSettings (s : State) (t : StationSettings) : State :=
  { s with link := { s.link with settings := some t }, control := { s.control with stationMark := true } }

/-- STATION_SET (R184). -/
def State.stationSet (s : State) (p : List Byte) : Answer :=
  checked (s.mode == .setup) 30 s p
    (if (settingsOf p).valid then
       done (((s.takeSettings (settingsOf p)).dropClaims.parkWhere HeadState.online).dropPositions) []
     else refuse s .badField)

/-- STATION_READ (R185). -/
def State.stationRead (s : State) (p : List Byte) : Answer := checked true 0 s p (done s s.stationContent)

/-- The flags after a PERMISSIVE_SET with a mask and values (R38). -/
def maskFlags (mask values : Nat) (f : Vector Bool 4) : Vector Bool 4 :=
  #v[if mask.testBit 0 then values.testBit 0 else f[0], if mask.testBit 1 then values.testBit 1 else f[1],
    if mask.testBit 2 then values.testBit 2 else f[2], if mask.testBit 3 then values.testBit 3 else f[3]]

/-- The state with the permissive flags replaced. -/
def State.setFlags (s : State) (f : Vector Bool 4) : State :=
  { s with dispatcher := { s.dispatcher with flags := f } }

/-- PERMISSIVE_SET; a change of a flag starts a round (R38, R32). -/
def State.permissiveSet (s : State) (p : List Byte) : Answer :=
  checked true 2 s p
    (if byteAt p 0 < 16 ∧ byteAt p 1 < 16 then
       let f := maskFlags (byteAt p 0) (byteAt p 1) s.dispatcher.flags
       done (if f = s.dispatcher.flags then s else (s.setFlags f).round) (b8 (flagsByte f))
     else refuse s .badField)

/-- STATUS_READ (R186). -/
def State.statusRead (s : State) (p : List Byte) : Answer := checked true 0 s p (done s s.statusContent)

/-- Whether a pocket is EJECTING. -/
def Pocket.isEjecting : Pocket → Bool
  | .ejecting _ _ => true
  | .empty => false
  | .loading _ _ _ => false
  | .heating _ _ _ => false
  | .ready _ _ _ _ => false
  | .disabled => false

/-- Whether any pocket is EJECTING (R123, R159). -/
def State.anyEjecting (s : State) : Bool := pocketNos.any (fun p => (s.pocket p).isEjecting)

/-- The restart mark is set (R159). -/
def State.markRestart (s : State) : State := { s with control := { s.control with restartMark := true } }

/-- RESTART (R159). -/
def State.restart (s : State) (p : List Byte) : Answer :=
  checked (s.mode == .setup || s.mode == .aborted) 0 s p
    (if s.anyEjecting then refuse s .busy else done s.markRestart [])

/-! ## Heads (R49, R64, R65, R68) -/

/-- A request that names a head in its first byte: a head above H3 is refused with BAD_FIELD. -/
def withHead (s : State) (p : List Byte) (f : HeadNo → Answer) : Answer :=
  match finOf 4 (byteAt p 0) with
  | none => refuse s .badField
  | some h => f h

/-- HEAD_READ (R68). -/
def State.headRead (s : State) (p : List Byte) : Answer :=
  checked true 1 s p (withHead s p (fun h => done s (s.headContent h)))

/-- The modes in which a head brought back into service homes at once (R65). -/
def Mode.homesAtOnce (m : Mode) : Bool :=
  m == .armed || m == .running || m == .holding || m == .held || m == .draining

/-- A head enters PARKED and, in the modes that home it at once, goes on into HOMING; its claim's change starts a
round (R65, R63, R32). -/
def State.bringBack (s : State) (h : HeadNo) : State :=
  if s.mode.homesAtOnce then ((s.park h).enterHoming h).round else s.park h

/-- A head brought back by a request that takes it in one state (R65). -/
def State.bringBackFrom (s : State) (p : List Byte) (from' : HeadState) : Answer :=
  checked (s.mode != .arming && s.mode != .aborted) 1 s p
    (withHead s p (fun h =>
      if (s.head h).state = from' then done (s.bringBack h) (b8 ((s.bringBack h).head h).state.code)
      else refuse s .wrongState))

/-- HEAD_ENABLE (R65). -/
def State.headEnable (s : State) (p : List Byte) : Answer := s.bringBackFrom p .offline

/-- HEAD_RESET (R65). -/
def State.headReset (s : State) (p : List Byte) : Answer := s.bringBackFrom p .fault

/-- The states out of which HEAD_DISABLE takes a head (R64). -/
def HeadState.canDisable (x : HeadState) : Bool := x == .idle || x == .parked || x == .fault

/-- A head enters OFFLINE (R64). -/
def State.takeOffline (s : State) (h : HeadNo) : State :=
  s.modHead h (fun x => { x with state := .offline, order := none })

/-- HEAD_DISABLE, with the hold completion test (R64, R59). -/
def State.headDisable (s : State) (p : List Byte) : Answer :=
  checked true 1 s p
    (withHead s p (fun h =>
      if (s.head h).state.canDisable then done (s.takeOffline h).holdTest [] else refuse s .wrongState))

/-- The profile a PECK_SET carries; `none` where it is refused (R49). -/
def profileOf (a b : Nat) : Option PeckProfile :=
  if b = 0 then some ⟨0, 0⟩ else if b ≤ 2000 ∧ a < b then some ⟨a, b⟩ else none

/-- A profile set at a head: buffered in DRILL, active in any other state (R49). -/
def Head.setProfile (x : Head) (q : PeckProfile) : Head :=
  if x.state = .drill then { x with buffered := some q } else { x with active := q, buffered := none }

/-- PECK_SET (R49). -/
def State.peckSet (s : State) (p : List Byte) : Answer :=
  checked (s.mode != .aborted) 5 s p
    (withHead s p (fun h =>
      match profileOf (u16At p 1) (u16At p 3) with
      | none => refuse s .badField
      | some q =>
        let s1 := s.modHead h (fun x => x.setProfile q)
        done s1 ((s1.head h).active.bytes ++ bufferBytes (s1.head h).buffered)))

/-! ## The signature unit (R95 to R97) -/

/-- The settings a FILTER_SET payload with `n` taps carries (Table 10-3). -/
def filterOf (n : Nat) (p : List Byte) : FilterSettings :=
  { taps := (List.range n).map (fun k => s16At p (1 + 2 * k)), engage := u16At p (1 + 2 * n),
    dropRatio := u16At p (3 + 2 * n), rebound := u16At p (5 + 2 * n), exitLevel := u16At p (7 + 2 * n),
    confirm := byteAt p (9 + 2 * n), depthLimit := u16At p (10 + 2 * n), setWeight := u16At p (12 + 2 * n) }

/-- Whether every setting but the taps lies in its range; every coefficient does (R95, R96). -/
def FilterSettings.valid (f : FilterSettings) : Bool :=
  within 1 32767 f.engage && within 1 32767 f.dropRatio && within 1 32767 f.rebound && f.exitLevel ≤ 32766 &&
    f.exitLevel < f.engage && within 1 64 f.confirm && within 100 20000 f.depthLimit && within 1 32767 f.setWeight

/-- The state with the filter settings replaced. -/
def State.setFilter (s : State) (f : FilterSettings) : State :=
  { s with signature := { s.signature with filter := f } }

/-- FILTER_SET, its tap count checked before its length (R96). An empty payload carries no tap count and is answered
BAD_LENGTH (log entry 10). -/
def State.filterSet (s : State) (p : List Byte) : Answer :=
  if s.mode ≠ .setup ∧ s.mode ≠ .armed then refuse s .wrongMode
  else if p = [] then refuse s .badLength
  else if within 1 16 (byteAt p 0) = false then refuse s .badField
  else if p.length ≠ 14 + 2 * byteAt p 0 then refuse s .badLength
  else if (filterOf (byteAt p 0) p).valid then done (s.setFilter (filterOf (byteAt p 0) p)) []
  else refuse s .badField

/-- FILTER_READ (R96). -/
def State.filterRead (s : State) (p : List Byte) : Answer := checked true 0 s p (done s s.signature.filter.bytes)

/-- CHANNEL_READ (R97). -/
def State.channelRead (s : State) (p : List Byte) : Answer :=
  checked true 1 s p
    (match finOf 4 (byteAt p 0) with
     | none => refuse s .badField
     | some c => done s (s.channelContent c))

/-! ## Rivets and the heater (R100 to R102, R122) -/

/-- The rivet table entry six bytes carry, if its fields are in range (R100, Table 10-3). -/
def entryOf (r : List Byte) : Option RivetEntry := do
  let diameter ← finOf 4 (byteAt r 0)
  let code ← finOf 32 (byteAt r 5)
  if within 1 8000 (u16At r 1) && within 1 8000 (u16At r 3) && u16At r 1 ≤ u16At r 3 then
    some { diameter, gripMin := u16At r 1, gripMax := u16At r 3, code }
  else none

/-- The entries of a table, or the position of the first that fails (R100). -/
def readEntries : Nat → List (List Byte) → Except Nat (List RivetEntry)
  | _, [] => .ok []
  | k, r :: rs =>
    match entryOf r with
    | none => .error k
    | some e =>
      match readEntries (k + 1) rs with
      | .error x => .error x
      | .ok es => .ok (e :: es)

/-- The position of the first entry that names a code whose class is undefined (R100 step 3). -/
def State.undefinedEntry (s : State) (es : List RivetEntry) : Option Nat :=
  es.findIdx? (fun e => s.heater.classes[e.code].isNone)

/-- The state with the rivet table replaced. -/
def State.setRivetTable (s : State) (es : List RivetEntry) : State :=
  { s with heater := { s.heater with table := es } }

/-- A rivet table that has passed the field checks is checked against the classes in ARMED, and taken (R100). -/
def State.takeEntries (s : State) (es : List RivetEntry) : Answer :=
  match (if s.mode = .armed then s.undefinedEntry es else none) with
  | some k => refuseAt s k
  | none => done (s.setRivetTable es) (b8 es.length)

/-- RIVET_TABLE_SET (R100). -/
def State.rivetTableSet (s : State) (p : List Byte) : Answer :=
  if s.mode ≠ .setup ∧ s.mode ≠ .armed then refuse s .wrongMode
  else if p.length % 6 ≠ 0 ∨ 6 * Config.maxRivetEntries < p.length then refuse s .badLength
  else
    match readEntries 0 (recordsOf 6 (p.length / 6) p) with
    | .error k => refuseAt s k
    | .ok es => s.takeEntries es

/-- The class a RIVET_CLASS_SET payload with the define mark carries (Table 10-3). -/
def classOf (p : List Byte) : RivetClass :=
  { heatTime := u16At p 2, holdWindow := u16At p 4, forceTarget := u16At p 6, workMin := s16At p 8,
    workMax := s16At p 10 }

/-- Whether every setting of a class lies in its range (R101). -/
def RivetClass.valid (c : RivetClass) : Bool :=
  within 50 2500 c.heatTime && within 50 1200 c.holdWindow && decide (1 ≤ c.forceTarget) &&
    decide (c.forceTarget ≤ 32767) && decide (c.workMin ≤ c.workMax)

/-- The state with a rivet class replaced. -/
def State.setClass (s : State) (c : RivetCode) (x : Option RivetClass) : State :=
  { s with heater := { s.heater with classes := s.heater.classes.set c x } }

/-- RIVET_CLASS_SET for a code, by its define mark (R101). -/
def State.defineClass (s : State) (c : RivetCode) (p : List Byte) : Answer :=
  if byteAt p 1 = 0 then if s.mode = .armed then refuse s .wrongMode else done (s.setClass c none) []
  else if byteAt p 1 = 1 then
    if (classOf p).valid then done (s.setClass c (some (classOf p))) [] else refuse s .badField
  else refuse s .badField

/-- RIVET_CLASS_SET (R101). -/
def State.rivetClassSet (s : State) (p : List Byte) : Answer :=
  checked (s.mode == .setup || s.mode == .armed) 12 s p
    (match finOf 32 (byteAt p 0) with
     | none => refuse s .badField
     | some c => s.defineClass c p)

/-- The state with a magazine count replaced. -/
def State.setMagazine (s : State) (c : RivetCode) (n : Nat) : State :=
  { s with heater := { s.heater with magazines := s.heater.magazines.set c n } }

/-- MAGAZINE_SET, with the serving step it triggers (R102, R117). -/
def State.magazineSet (s : State) (p : List Byte) : Answer :=
  checked (s.mode != .aborted) 3 s p
    (match finOf 32 (byteAt p 0) with
     | none => refuse s .badField
     | some c =>
       let n := min Config.maxMagazine (u16At p 1)
       done (s.setMagazine c n).serve (b16 n))

/-- HEATER_READ (R122). -/
def State.heaterRead (s : State) (p : List Byte) : Answer := checked true 0 s p (done s s.heaterContent)

/-! ## Events (R169 to R171) -/

/-- The reply content of EVENT_CONFIG: the kind's settings and latch state (R170). -/
def Latch.settingsBytes (l : Latch) : List Byte := mark l.enabled ++ b8 l.priority.val ++ b8 l.stateCode

/-- EVENT_CONFIG (R170). -/
def State.eventConfig (s : State) (p : List Byte) : Answer :=
  checked true 3 s p
    (match EventKind.all[byteAt p 0]?, finOf 8 (byteAt p 2) with
     | some k, some priority =>
       if byteAt p 1 ≤ 1 then
         let s1 := s.configureKind k (byteAt p 1 == 1) priority
         done s1 (s1.latch k).settingsBytes
       else refuse s .badField
     | some _, none => refuse s .badField
     | none, _ => refuse s .badField)

/-- The kinds a mask names, in kind-number order (R169). -/
def kindsOf (mask : Nat) : List EventKind := EventKind.all.filter (fun k => mask.testBit k.index)

/-- The mask of some kinds (R169). -/
def maskOf (ks : List EventKind) : Nat := (ks.map (fun k => 2 ^ k.index.val)).sum

/-- EVENT_ACK (R169). -/
def State.eventAck (s : State) (p : List Byte) : Answer :=
  checked true 2 s p
    (if u16At p 0 < 16384 then
       done (s.acknowledge (kindsOf (u16At p 0)))
         (b16 (maskOf ((kindsOf (u16At p 0)).filter (fun k => (s.latch k).held.isSome))))
     else refuse s .badField)

/-- EVENT_READ (R171). -/
def State.eventRead (s : State) (p : List Byte) : Answer := checked true 0 s p (done s s.eventContent)

/-! ## The request kinds (Table 10-1) -/

/-- The request kinds. -/
inductive RequestKind where
  | jointLoad | jointClear | jointRead | jointFind | jointSkip | jointRework | datumSet | datumRead
  | stationSet | stationRead | permissiveSet | statusRead | restart
  | headRead | headEnable | headDisable | headReset | peckSet
  | filterSet | filterRead | channelRead
  | rivetTableSet | rivetClassSet | magazineSet | heaterRead
  | eventConfig | eventAck | eventRead
  deriving DecidableEq, Repr

/-- The KIND codes of the requests (Table 10-1). -/
def RequestKind.code : RequestKind → Byte
  | .jointLoad => 0x01
  | .jointClear => 0x02
  | .jointRead => 0x03
  | .jointFind => 0x04
  | .jointSkip => 0x05
  | .jointRework => 0x06
  | .datumSet => 0x07
  | .datumRead => 0x08
  | .stationSet => 0x11
  | .stationRead => 0x12
  | .permissiveSet => 0x13
  | .statusRead => 0x14
  | .restart => 0x15
  | .headRead => 0x21
  | .headEnable => 0x22
  | .headDisable => 0x23
  | .headReset => 0x24
  | .peckSet => 0x25
  | .filterSet => 0x31
  | .filterRead => 0x32
  | .channelRead => 0x33
  | .rivetTableSet => 0x41
  | .rivetClassSet => 0x42
  | .magazineSet => 0x43
  | .heaterRead => 0x44
  | .eventConfig => 0x51
  | .eventAck => 0x52
  | .eventRead => 0x53

/-- The request kinds in the order of their codes. -/
def RequestKind.all : List RequestKind :=
  [.jointLoad, .jointClear, .jointRead, .jointFind, .jointSkip, .jointRework, .datumSet, .datumRead, .stationSet,
    .stationRead, .permissiveSet, .statusRead, .restart, .headRead, .headEnable, .headDisable, .headReset, .peckSet,
    .filterSet, .filterRead, .channelRead, .rivetTableSet, .rivetClassSet, .magazineSet, .heaterRead, .eventConfig,
    .eventAck, .eventRead]

/-- A request executed by the block that owns it (R180, section 9.7). -/
def State.answer (s : State) (p : List Byte) : RequestKind → Answer
  | .jointLoad => s.jointLoad p
  | .jointClear => s.jointClear p
  | .jointRead => s.jointRead p
  | .jointFind => s.jointFind p
  | .jointSkip => s.jointSkip p
  | .jointRework => s.jointRework p
  | .datumSet => s.datumSet p
  | .datumRead => s.datumRead p
  | .stationSet => s.stationSet p
  | .stationRead => s.stationRead p
  | .permissiveSet => s.permissiveSet p
  | .statusRead => s.statusRead p
  | .restart => s.restart p
  | .headRead => s.headRead p
  | .headEnable => s.headEnable p
  | .headDisable => s.headDisable p
  | .headReset => s.headReset p
  | .peckSet => s.peckSet p
  | .filterSet => s.filterSet p
  | .filterRead => s.filterRead p
  | .channelRead => s.channelRead p
  | .rivetTableSet => s.rivetTableSet p
  | .rivetClassSet => s.rivetClassSet p
  | .magazineSet => s.magazineSet p
  | .heaterRead => s.heaterRead p
  | .eventConfig => s.eventConfig p
  | .eventAck => s.eventAck p
  | .eventRead => s.eventRead p

end Sys2Proof.Machine
end

