-- ==== Sys2Proof/Machine/Link.lean ====
section
/-! DEFINITION. Machine/Link.lean: the cell link (chapter 9): the check, the receive assembler, the sorting of good
frames, the executor, the transmitter and the two resets. -/

namespace Sys2Proof.Machine

/-! ## The check and the envelope (R176, R190) -/

/-- One bit of the CRC-16 with polynomial 0x1021, most significant bit first (R176). -/
def crcBit (crc : BitVec 16) : BitVec 16 := if crc.msb then (crc <<< 1) ^^^ 0x1021 else crc <<< 1

/-- One byte of the CRC-16 (R176). -/
def crcByte (crc : BitVec 16) (b : Byte) : BitVec 16 :=
  crcBit (crcBit (crcBit (crcBit (crcBit (crcBit (crcBit (crcBit (crc ^^^ (b.setWidth 16 <<< 8)))))))))

/-- The CRC-16 of some bytes, from 0xFFFF (R176). -/
def crc16 (bytes : List Byte) : BitVec 16 := bytes.foldl crcByte 0xFFFF

/-- The high byte of a check. -/
def highByte (x : BitVec 16) : Byte := x.extractLsb' 8 8

/-- The low byte of a check. -/
def lowByte (x : BitVec 16) : Byte := x.extractLsb' 0 8

/-- The bytes LEN counts: KIND, TAG and the payload (R190). -/
def Frame.body (f : Frame) : List Byte := f.kind :: f.tag :: f.payload

/-- The LEN byte of a frame (R190). -/
def Frame.len (f : Frame) : Byte := BitVec.ofNat 8 f.body.length

/-- The check of a frame (R176). -/
def Frame.crc (f : Frame) : BitVec 16 := crc16 (f.len :: f.body)

/-- A frame as it stands on the line (R190). -/
def Frame.bytes (f : Frame) : List Byte := 0x5A :: f.len :: f.body ++ [highByte f.crc, lowByte f.crc]

/-- The frame whose body a good check has covered. -/
def frameOf (body : List Byte) : Frame := { kind := body.getD 0 0, tag := body.getD 1 0, payload := body.drop 2 }

/-! ## The receive assembler (R175, R176) -/

/-- A link error count after an event that raises it (R176). -/
def raiseCount (n : Nat) : Nat := min Config.maxLinkCount (n + 1)

/-- A frame in progress is discarded: the frame error count is raised and hunting resumes (R175, R176). -/
def Link.discard (l : Link) : Link := { l with assembler := .hunting, frameErrors := raiseCount l.frameErrors }

/-- The assembler in another state. -/
def Link.to (l : Link) (a : Assembler) : Link := { l with assembler := a }

/-- The whole milliseconds of silence since the last byte of a frame in progress (R175). -/
def Assembler.gap : Assembler → Nat
  | .hunting => 0
  | .length gap => gap
  | .body _ _ gap => gap
  | .check _ _ _ gap => gap

/-- A frame in progress is abandoned; in HUNTING nothing is counted (R175). -/
def Link.abandon (l : Link) : Link :=
  match l.assembler with
  | .hunting => l
  | .length _ => l.discard
  | .body _ _ _ => l.discard
  | .check _ _ _ _ => l.discard

/-- The check of a complete frame: a good frame, or a discard (R176). -/
def Link.verify (l : Link) (len : Byte) (got : List Byte) (crc : BitVec 16) : Link × Option Frame :=
  if crc16 (len :: got) = crc then (l.to .hunting, some (frameOf got)) else (l.discard, none)

/-- A byte with its stop bit is taken; the second part is the good frame it completes, if it completes one (R175,
R176). -/
def Link.take (l : Link) (b : Byte) : Link × Option Frame :=
  match l.assembler with
  | .hunting => (if b = 0x5A then l.to (.length 0) else l, none)
  | .length _ => (if within 2 242 b.toNat then l.to (.body b [] 0) else l.discard, none)
  | .body len got _ =>
    (if len.toNat ≤ got.length + 1 then l.to (.check len (got ++ [b]) none 0) else l.to (.body len (got ++ [b]) 0), none)
  | .check len got none _ => (l.to (.check len got (some b) 0), none)
  | .check len got (some high) _ => l.verify len got (high ++ b)

/-- A byte arrives; one without its stop bit abandons the frame in progress (R175). -/
def Link.byte (l : Link) (b : Byte) (stopBit : Bool) : Link × Option Frame :=
  if stopBit then l.take b else (l.abandon, none)

/-! ## Sorting (R177) -/

/-- The directive a KIND code names (Table 10-1). -/
def directiveOf (kind : Byte) : Option Directive := Directive.all.find? (fun d => BitVec.ofNat 8 d.kindCode == kind)

/-- The request a KIND code names (Table 10-1). -/
def requestOf (kind : Byte) : Option RequestKind := RequestKind.all.find? (fun r => r.code == kind)

/-- Whether the immediate reply FIFO has a place (R179). -/
def State.replyRoom (s : State) : Bool := s.link.fifo.length < Config.maxReplies

/-- A reply to a frame is placed in the immediate reply FIFO (R179). -/
def State.replyNow (s : State) (f : Frame) (st : Status) (content : List Byte) : State :=
  { s with link := { s.link with fifo := s.link.fifo ++ [⟨f.kind, f.tag, st, content⟩] } }

/-- A frame that finds no place in the FIFO is discarded and the overrun count raised (R177). -/
def State.overrun (s : State) : State := { s with link := { s.link with overruns := raiseCount s.link.overruns } }

/-- A directive frame is sorted (R177, R142). -/
def State.sortDirective (s : State) (f : Frame) (d : Directive) : State :=
  if s.replyRoom = false then s.overrun
  else if f.payload ≠ [] then s.replyNow f .badLength []
  else (s.arrive d).replyNow f (s.arrivalStatus d) []

/-- A frame joins the request queue (R178). -/
def State.queueRequest (s : State) (f : Frame) : State :=
  { s with link := { s.link with requests := s.link.requests ++ [f] } }

/-- A request frame is sorted: queued, answered BUSY, or lost (R177, R178). -/
def State.sortRequest (s : State) (f : Frame) : State :=
  if s.link.requests.length < Config.maxRequests then s.queueRequest f
  else if s.replyRoom then s.replyNow f .busy []
  else s.overrun

/-- Every request leaves the request queue unanswered (R183). -/
def State.dropRequests (s : State) : State := { s with link := { s.link with requests := [] } }

/-- A flush by its selector: bit 0 requests, bit 1 reports (R183, Table 10-3). -/
def State.flush (s : State) (selector : Nat) : State :=
  let s1 := if selector.testBit 0 then s.dropRequests else s
  if selector.testBit 1 then s1.flushReports else s1

/-- The reply content of a flush: requests removed and report records removed (R183). -/
def State.flushContent (s : State) (selector : Nat) : List Byte :=
  b8 (if selector.testBit 0 then s.link.requests.length else 0) ++
    b8 (if selector.testBit 1 then s.reports.queue.length else 0)

/-- A LINK_FLUSH frame is sorted (R177, R183). -/
def State.sortFlush (s : State) (f : Frame) : State :=
  if s.replyRoom = false then s.overrun
  else if f.payload.length ≠ 1 then s.replyNow f .badLength []
  else if within 1 3 (byteAt f.payload 0) = false then s.replyNow f .badField []
  else (s.flush (byteAt f.payload 0)).replyNow f .ok (s.flushContent (byteAt f.payload 0))

/-- The KIND code of LINK_FLUSH (Table 10-1). -/
def flushKind : Byte := 0x6F

/-- A frame of a KIND the host may not send is answered UNKNOWN_KIND (R177). -/
def State.sortUnknown (s : State) (f : Frame) : State :=
  if s.replyRoom then s.replyNow f .unknownKind [] else s.overrun

/-- A good frame is sorted by its KIND (R177). -/
def State.sortFrame (s : State) (f : Frame) : State :=
  match directiveOf f.kind with
  | some d => s.sortDirective f d
  | none =>
    if f.kind = flushKind then s.sortFlush f
    else if (requestOf f.kind).isSome then s.sortRequest f
    else s.sortUnknown f

/-! ## The executor (R180) -/

/-- A reply is placed in the reply slot. -/
def Answer.fillSlot (a : Answer) (f : Frame) : State :=
  { a.state with link := { a.state.link with slot := some ⟨f.kind, f.tag, a.status, a.content⟩ } }

/-- A request taken from the front of the queue is executed and answered (R180). A frame in the queue is of a request
kind; one that were not would be answered UNKNOWN_KIND (log entry 11). -/
def State.executeRequest (s : State) (f : Frame) : State :=
  match requestOf f.kind with
  | some k => ((s.answer f.payload k).fillSlot f).controllerTurn
  | none => (refuse s .unknownKind).fillSlot f

/-- The executor's test: it takes the front request while the slot is empty and the restart mark clear (R180). -/
def State.executorTurn (s : State) : State :=
  match s.link.requests, s.link.slot, s.control.restartMark with
  | f :: rest, none, false => ({ s with link := { s.link with requests := rest } } : State).executeRequest f
  | [], _, _ => s
  | _ :: _, some _, _ => s
  | _ :: _, none, true => s

/-! ## The transmitter (R181) -/

/-- A reply as a frame (R190). -/
def Reply.frame (r : Reply) : Frame :=
  { kind := 0x80, tag := r.tag, payload := r.kind :: BitVec.ofNat 8 r.status.code :: r.content }

/-- The transmitter starts a frame. -/
def State.startFrame (s : State) (f : Frame) : State := { s with link := { s.link with sending := some f } }

/-- The report frame of a kind (R190, R194). -/
def State.reportFrame (s : State) (k : EventKind) : Frame := { kind := 0x81, tag := 0, payload := s.reportRecord k }

/-- The transmitter takes a report, its record leaving the queue and the freed room being filled (R167, R168). -/
def State.startReport (s : State) (k : EventKind) : State := ((s.sendRecord k).fill).startFrame (s.reportFrame k)

/-- The kind whose record is first in rank order (R167). -/
def State.nextReport (s : State) : Option EventKind := pickFirst s.rankBefore s.reports.queue

/-- The idle transmitter's choice: the immediate reply FIFO, the reply slot, the report queue (R181). -/
def State.chooseFrame (s : State) : State :=
  match s.link.fifo, s.link.slot with
  | r :: rest, _ => ({ s with link := { s.link with fifo := rest } } : State).startFrame r.frame
  | [], some r => ({ s with link := { s.link with slot := none } } : State).startFrame r.frame
  | [], none =>
    match s.nextReport with
    | some k => s.startReport k
    | none => s

/-- The transmitter's test: while it is idle it makes its choice (R181). -/
def State.transmitTurn (s : State) : State := if s.link.sending = none then s.chooseFrame else s

/-- The link's tests at the end of an event: the executor, the transmitter, and the executor again for a slot that has
emptied (R180, R181). -/
def State.settleLink (s : State) : State := s.executorTurn.transmitTurn.executorTurn

/-- What ends every event: the controller's test, then the link's (R145, R180, R181; log entry 5). -/
def State.settle (s : State) : State := s.controllerTurn.settleLink

/-! ## Resets (R173, R187, R188) -/

/-- The line rate the two pins select (R174). -/
def lineRateOf (pin1 pin2 : Bool) : LineRate :=
  match pin1, pin2 with
  | false, false => .bps9600
  | false, true => .bps38400
  | true, false => .bps115200
  | true, true => .bps460800

/-- Cold start with the pins at their levels: every block at its cold-start value, and STATION_STARTED posted with
subject COLD (R173). -/
def coldState (pin1 pin2 : Bool) : State := (State.cold (lineRateOf pin1 pin2)).post .stationStarted 0

/-- A joint as warm restart leaves it (R23). -/
def Joint.warm (j : Joint) : Joint := { j.unlock with corrected := none, pocket := none }

/-- The states out of which warm restart parks a head (R70). -/
def HeadState.restarted : HeadState → Bool
  | .stopped => true
  | .fault => true
  | .idle => true
  | .homing => true
  | .parked => false
  | .travel => false
  | .clamp => false
  | .drillWait => false
  | .drill => false
  | .retract => false
  | .awaitRivet => false
  | .feed => false
  | .set => false
  | .release => false
  | .offline => false

/-- The timers and passing fields every head loses at warm restart (R70). -/
def Head.warm (x : Head) : Head :=
  { x with phaseTimer := none, rivetWait := .stopped, subPhase := none, target := none, rate := none, outcome := none }

/-- The link at warm restart (R188). -/
def Link.warm (l : Link) : Link :=
  { l with assembler := .hunting, requests := [], fifo := [], slot := none, sending := none, frameErrors := 0,
           overruns := 0 }

/-- The mode controller at warm restart (R161). -/
def ModeControl.warm (c : ModeControl) : ModeControl := { ModeControl.cold with stationMark := c.stationMark }

/-- Heads parked or kept, with their timers stopped (R70). -/
def State.warmHeads (s : State) : State :=
  { s.parkWhere HeadState.restarted with heads := (s.parkWhere HeadState.restarted).heads.map Head.warm }

/-- The blocks other than the heads at warm restart; the current pass is recomputed from the joints so left (R23,
R123, R139, R161, R173, R188). -/
def State.warmBlocks (s : State) : State :=
  { s with
    table := { s.table with joints := s.table.joints.map Joint.warm
                            currentPass := currentPassOf (s.table.joints.map Joint.warm) }
    heater := { s.heater with pockets := s.heater.pockets.map Pocket.restore, orders := [] }
    arbiter := .cold
    control := s.control.warm
    reports := s.reports.warm
    link := s.link.warm
    time := 0 }

/-- The warm restart: every block takes its warm-restart values and STATION_STARTED is posted with subject WARM
(R159, R173). -/
def State.warmRestart (s : State) : State := s.warmHeads.warmBlocks.post .stationStarted 1

/-- Whether a frame is the OK reply to RESTART, on which the warm restart waits (R159). -/
def Frame.isRestartReply (f : Frame) : Bool := f.kind == 0x80 && f.payload == [RequestKind.restart.code, 0]

/-- The frame being sent ends: the warm restart is taken, whose STATION_STARTED waits behind any reply called for next
(R159, R188, log entry 8), or the transmitter is idle and chooses again (R181). -/
def State.frameSent (s : State) (f : Frame) : State :=
  if s.control.restartMark = true ∧ f.isRestartReply = true then s.warmRestart
  else ({ s with link := { s.link with sending := none } } : State).settle

/-- TRANSMIT_DONE; with no frame being sent there is nothing to end (R181). -/
def State.transmitDone (s : State) : State :=
  match s.link.sending with
  | none => s.settle
  | some f => s.frameSent f

/-! ## Bytes as they arrive -/

/-- A byte reaches the assembler; a good frame it completes is sorted, which is an event of the part (R175 to R177). A
byte that completes none places nothing that the link could act on. -/
def State.receiveByte (s : State) (b : Byte) (stopBit : Bool) : State :=
  match (s.link.byte b stopBit).2 with
  | none => { s with link := (s.link.byte b stopBit).1 }
  | some f => (({ s with link := (s.link.byte b stopBit).1 } : State).sortFrame f).settle

/-- The 20 ms gap of a frame in progress is over: with 20 whole ms of silence counted, the frame is abandoned (R175). A
byte that was taken first has started the gap again, and the expiry of the old one finds too short a silence and does
nothing (R189; log entry 4). -/
def State.gapExpired (s : State) : State :=
  if Config.frameGap ≤ s.link.assembler.gap then { s with link := s.link.abandon } else s

/-! ## Events -/

/-- An event of the part with what ends it (log entry 5). -/
def State.event (s : State) (f : State → State) : State := (f s).settle

/-- An event as a command: the port orders kept in the state are those of this command (log entry 12). -/
def State.command (s : State) (f : State → State) : State := ({ s with outgoing := [] } : State).event f

/-- A good frame of a KIND reaches the sorter (log entry 1). -/
def State.hostFrame (s : State) (kind tag : Byte) (payload : List Byte) : State :=
  s.command (fun t => t.sortFrame ⟨kind, tag, payload⟩)

/-- A request frame reaches the sorter (log entry 1). -/
def State.hostRequest (s : State) (k : RequestKind) (tag : Byte) (payload : List Byte) : State :=
  s.hostFrame k.code tag payload

/-- A directive frame reaches the sorter (log entry 1). -/
def State.hostDirective (s : State) (d : Directive) (tag : Byte) : State :=
  s.hostFrame (BitVec.ofNat 8 d.kindCode) tag []

end Sys2Proof.Machine
end

