-- ==== Sys2Proof/Machine/DirectiveFamily.lean ====
section
/-! DEFINITION. Machine/DirectiveFamily.lean: the directives that reach the mode controller (R143). -/

namespace Sys2Proof.Machine

/-- ARM (R147). -/
def execArm (tag : Byte) (s : State) : Host.Outcome State Fault Refusal :=
  .next (s.hostDirective .arm tag)

/-- START (R150). -/
def execStart (tag : Byte) (s : State) : Host.Outcome State Fault Refusal :=
  .next (s.hostDirective .start tag)

/-- HOLD (R151). -/
def execHold (tag : Byte) (s : State) : Host.Outcome State Fault Refusal :=
  .next (s.hostDirective .hold tag)

/-- RESUME (R153). -/
def execResume (tag : Byte) (s : State) : Host.Outcome State Fault Refusal :=
  .next (s.hostDirective .resume tag)

/-- DRAIN (R154). -/
def execDrain (tag : Byte) (s : State) : Host.Outcome State Fault Refusal :=
  .next (s.hostDirective .drain tag)

/-- DISARM (R156). -/
def execDisarm (tag : Byte) (s : State) : Host.Outcome State Fault Refusal :=
  .next (s.hostDirective .disarm tag)

/-- ABORT (R157). -/
def execAbort (tag : Byte) (s : State) : Host.Outcome State Fault Refusal :=
  .next (s.hostDirective .abort tag)

/-- RECOVER (R158). -/
def execRecover (tag : Byte) (s : State) : Host.Outcome State Fault Refusal :=
  .next (s.hostDirective .recover tag)

end Sys2Proof.Machine
end

