-- ==== Sys2Proof/Machine/DriveFamily.lean ====
section
/-! DEFINITION. Machine/DriveFamily.lean: the events of the drive ports and of the heads' timers, with the mode controller's tests and the
dispatch rounds that follow them (chapter 3). -/

namespace Sys2Proof.Machine

/-! ## The events at a head -/

/-- HOME_DONE at a head, with the completion tests and the round (R63, R148, R151, R32). -/
def State.homeDone (s : State) (h : HeadNo) : State :=
  if (s.head h).state = .homing then (((s.home h).armingTest).holdTest).round else s

/-- A travelling head has arrived at its target, and enters CLAMP; the claim's shrink starts a round (R43, R27). -/
def State.arriveAt (s : State) (h : HeadNo) (t : Nat) : State :=
  ((((s.modHead h (fun x => { x with position := some t, target := none })).setClaim h (some ⟨t, t⟩)).enterPhase h
    .clamp s.station.clampTime .clamp)).round

/-- TRAVEL_DONE at a head (R43). A head in TRAVEL has a target; where it does not, nothing changes (log entry 11). -/
def State.travelDone (s : State) (h : HeadNo) : State :=
  if (s.head h).state = .travel then
    match (s.head h).target with
    | none => s
    | some t => s.arriveAt h t
  else s

/-- CLAMP_DONE at a head (R44). -/
def State.clampDone (s : State) (h : HeadNo) : State := if (s.head h).state = .clamp then s.askDrill h else s

/-- RETRACT_DONE at a head, with the hold completion test (R52, R59). -/
def State.retracted (s : State) (h : HeadNo) : State :=
  if (s.head h).state = .retract then (s.retractDone h).holdTest else s

/-- RELEASE_DONE at a head, with the completion tests and the round (R57, R154, R155, R59, R32). -/
def State.releaseDone (s : State) (h : HeadNo) : State :=
  if (s.head h).state = .release then
    (((s.release h).passGone s.table.currentPass).drainTest.holdTest).round
  else s

/-- A head faults, with the end of ARM, the completion tests and the round that may follow (R61, R149, R59). -/
def State.faultEvent (s : State) (h : HeadNo) (cause : FaultCause) : State :=
  let s1 := s.faultHead h cause
  let s2 := if s.mode = .arming ∧ (s.head h).state = .homing then s1.failArm else s1
  s2.holdTest.settleJoint s.table.currentPass

/-- DRIVE_FAULT at a head, taken by its state (R42). -/
def State.driveFault (s : State) (h : HeadNo) (code : Byte) : State :=
  if (s.head h).state.canFault then s.faultEvent h (.drive code)
  else if (s.head h).state = .fault then s.post .headFault h.val
  else s

/-- A head's phase timer reaches 0 (R58). A timer that is not running cannot (log entry 4). -/
def State.phaseTimeout (s : State) (h : HeadNo) : State :=
  if (s.head h).phaseTimer.isSome && (s.head h).state.canFault then s.faultEvent h (.timeout (s.head h).state) else s

/-! ## The commands -/

/-- HOME_DONE (R63). -/
def execHomeDone (head : HeadNo) (s : State) : Host.Outcome State Fault Refusal := .next (s.command (fun t => t.homeDone head))

/-- TRAVEL_DONE (R43). -/
def execTravelDone (head : HeadNo) (s : State) : Host.Outcome State Fault Refusal :=
  .next (s.command (fun t => t.travelDone head))

/-- CLAMP_DONE (R44). -/
def execClampDone (head : HeadNo) (s : State) : Host.Outcome State Fault Refusal :=
  .next (s.command (fun t => t.clampDone head))

/-- DRILL_SAMPLE (R46). -/
def execDrillSample (head : HeadNo) (depth thrust : Half) (s : State) : Host.Outcome State Fault Refusal :=
  .next (s.command (fun t => t.drillSample head depth.toNat (sampleOf thrust)))

/-- PECK_BACK (R48). -/
def execPeckBack (head : HeadNo) (s : State) : Host.Outcome State Fault Refusal := .next (s.command (fun t => t.peckBack head))

/-- RETRACT_DONE (R52). -/
def execRetractDone (head : HeadNo) (s : State) : Host.Outcome State Fault Refusal :=
  .next (s.command (fun t => t.retracted head))

/-- FEED_DONE (R130). -/
def execFeedDone (head : HeadNo) (s : State) : Host.Outcome State Fault Refusal := .next (s.command (fun t => t.feedDone head))

/-- SET_SAMPLE (R93). -/
def execSetSample (head : HeadNo) (stroke force : Half) (s : State) : Host.Outcome State Fault Refusal :=
  .next (s.command (fun t => t.setSample head stroke.toNat (sampleOf force)))

/-- SET_DONE (R131). -/
def execSetDone (head : HeadNo) (s : State) : Host.Outcome State Fault Refusal := .next (s.command (fun t => t.setDone head))

/-- RELEASE_DONE (R57). -/
def execReleaseDone (head : HeadNo) (s : State) : Host.Outcome State Fault Refusal :=
  .next (s.command (fun t => t.releaseDone head))

/-- DRIVE_FAULT (R42). -/
def execDriveFault (head : HeadNo) (code : Byte) (s : State) : Host.Outcome State Fault Refusal :=
  .next (s.command (fun t => t.driveFault head code))

/-- PHASE_TIMEOUT (R58). -/
def execPhaseTimeout (head : HeadNo) (s : State) : Host.Outcome State Fault Refusal :=
  .next (s.command (fun t => t.phaseTimeout head))

/-- RIVET_WAIT_EXPIRY (R54). -/
def execRivetWaitExpiry (head : HeadNo) (s : State) : Host.Outcome State Fault Refusal :=
  .next (s.command (fun t => t.rivetWaitExpired head))

end Sys2Proof.Machine
end

