-- ==== Sys2Proof/Machine/EventFamily.lean ====
section
/-! DEFINITION. Machine/EventFamily.lean: the commands of the report unit (section 9.7). -/

namespace Sys2Proof.Machine

/-- EVENT_CONFIG (R170). -/
def execEventConfig (tag : Byte) (payload : List Byte) (s : State) : Host.Outcome State Fault Refusal :=
  .next (s.hostRequest .eventConfig tag payload)

/-- EVENT_ACK (R169). -/
def execEventAck (tag : Byte) (payload : List Byte) (s : State) : Host.Outcome State Fault Refusal :=
  .next (s.hostRequest .eventAck tag payload)

/-- EVENT_READ (R171). -/
def execEventRead (tag : Byte) (payload : List Byte) (s : State) : Host.Outcome State Fault Refusal :=
  .next (s.hostRequest .eventRead tag payload)

end Sys2Proof.Machine
end

