-- ==== Sys2Proof/Machine/HeadFamily.lean ====
section
/-! DEFINITION. Machine/HeadFamily.lean: the commands that manage heads (section 9.7). -/

namespace Sys2Proof.Machine

/-- HEAD_READ (R68). -/
def execHeadRead (tag : Byte) (payload : List Byte) (s : State) : Host.Outcome State Fault Refusal :=
  .next (s.hostRequest .headRead tag payload)

/-- HEAD_ENABLE (R65). -/
def execHeadEnable (tag : Byte) (payload : List Byte) (s : State) : Host.Outcome State Fault Refusal :=
  .next (s.hostRequest .headEnable tag payload)

/-- HEAD_DISABLE (R64). -/
def execHeadDisable (tag : Byte) (payload : List Byte) (s : State) : Host.Outcome State Fault Refusal :=
  .next (s.hostRequest .headDisable tag payload)

/-- HEAD_RESET (R65). -/
def execHeadReset (tag : Byte) (payload : List Byte) (s : State) : Host.Outcome State Fault Refusal :=
  .next (s.hostRequest .headReset tag payload)

/-- PECK_SET (R49). -/
def execPeckSet (tag : Byte) (payload : List Byte) (s : State) : Host.Outcome State Fault Refusal :=
  .next (s.hostRequest .peckSet tag payload)

end Sys2Proof.Machine
end

