-- ==== Sys2Proof/Machine/JointFamily.lean ====
section
/-! DEFINITION. Machine/JointFamily.lean: the commands of the joint table (section 9.7). -/

namespace Sys2Proof.Machine

/-- JOINT_LOAD (R9, R10). -/
def execJointLoad (tag : Byte) (payload : List Byte) (s : State) : Host.Outcome State Fault Refusal :=
  .next (s.hostRequest .jointLoad tag payload)

/-- JOINT_CLEAR (R11). -/
def execJointClear (tag : Byte) (payload : List Byte) (s : State) : Host.Outcome State Fault Refusal :=
  .next (s.hostRequest .jointClear tag payload)

/-- JOINT_READ (R12). -/
def execJointRead (tag : Byte) (payload : List Byte) (s : State) : Host.Outcome State Fault Refusal :=
  .next (s.hostRequest .jointRead tag payload)

/-- JOINT_FIND (R13). -/
def execJointFind (tag : Byte) (payload : List Byte) (s : State) : Host.Outcome State Fault Refusal :=
  .next (s.hostRequest .jointFind tag payload)

/-- JOINT_SKIP (R14). -/
def execJointSkip (tag : Byte) (payload : List Byte) (s : State) : Host.Outcome State Fault Refusal :=
  .next (s.hostRequest .jointSkip tag payload)

/-- JOINT_REWORK (R15, R16). -/
def execJointRework (tag : Byte) (payload : List Byte) (s : State) : Host.Outcome State Fault Refusal :=
  .next (s.hostRequest .jointRework tag payload)

/-- DATUM_SET (R17). -/
def execDatumSet (tag : Byte) (payload : List Byte) (s : State) : Host.Outcome State Fault Refusal :=
  .next (s.hostRequest .datumSet tag payload)

/-- DATUM_READ (R17). -/
def execDatumRead (tag : Byte) (payload : List Byte) (s : State) : Host.Outcome State Fault Refusal :=
  .next (s.hostRequest .datumRead tag payload)

end Sys2Proof.Machine
end

