-- ==== Sys2Proof/Machine/LinkFamily.lean ====
section
/-! DEFINITION. Machine/LinkFamily.lean: the commands of the cell link's two ends and of power (R173, R175, R177, R181, R183). -/

namespace Sys2Proof.Machine

/-- COLD_START: every block takes its cold-start values; the commands waiting outside the part stay (R173, R187). -/
def execColdStart (pin1 pin2 : Bool) (s : State) : Host.Outcome State Fault Refusal :=
  .next { coldState pin1 pin2 with pending := s.pending }

/-- FRAME_RECEIVE: the bytes of a frame arrive one after another, each with its stop bit (R175 to R177, log
entry 2). -/
def execFrameReceive (bytes : List Byte) (s : State) : Host.Outcome State Fault Refusal :=
  .next (bytes.foldl (fun t b => t.receiveByte b true) ({ s with outgoing := [] } : State))

/-- FRAME_GAP_TIMEOUT (R175). -/
def execFrameGapTimeout (s : State) : Host.Outcome State Fault Refusal := .next (s.command State.gapExpired)

/-- LINK_FLUSH (R183). -/
def execLinkFlush (tag : Byte) (payload : List Byte) (s : State) : Host.Outcome State Fault Refusal :=
  .next (s.hostFrame flushKind tag payload)

/-- TRANSMIT_DONE (R181, R159). -/
def execTransmitDone (s : State) : Host.Outcome State Fault Refusal :=
  .next (State.transmitDone { s with outgoing := [] })

/-- BYTE_ARRIVAL (R175). -/
def execByteArrival (byte : Byte) (stopBit : Bool) (s : State) : Host.Outcome State Fault Refusal :=
  .next (State.receiveByte { s with outgoing := [] } byte stopBit)

end Sys2Proof.Machine
end

