-- ==== Sys2Proof/Machine/PocketFamily.lean ====
section
/-! DEFINITION. Machine/PocketFamily.lean: the events of the heater port and of the pockets' timers (R105 to R108). -/

namespace Sys2Proof.Machine

/-- An event of the heater port is taken for the pocket it names; one naming a pocket above 5 is ignored (R104). -/
def State.atPocket (s : State) (pocket : Byte) (f : State → PocketNo → State) : State :=
  match finOf 6 pocket.toNat with
  | none => s
  | some p => f s p

/-- LOAD_DONE (R105). -/
def execLoadDone (pocket : Byte) (s : State) : Host.Outcome State Fault Refusal :=
  .next (s.command (fun t => t.atPocket pocket State.loadDone))

/-- HEAT_TIME_EXPIRY (R106). -/
def execHeatTimeExpiry (pocket : PocketNo) (s : State) : Host.Outcome State Fault Refusal :=
  .next (s.command (fun t => t.heatExpired pocket))

/-- HOLD_WINDOW_EXPIRY (R107). -/
def execHoldWindowExpiry (pocket : PocketNo) (s : State) : Host.Outcome State Fault Refusal :=
  .next (s.command (fun t => t.holdExpired pocket))

/-- EJECT_DONE (R108). -/
def execEjectDone (pocket : Byte) (s : State) : Host.Outcome State Fault Refusal :=
  .next (s.command (fun t => t.atPocket pocket State.ejectDone))

/-- PORT_TIMER_EXPIRY (R108). -/
def execPortTimerExpiry (pocket : PocketNo) (s : State) : Host.Outcome State Fault Refusal :=
  .next (s.command (fun t => t.portExpired pocket))

end Sys2Proof.Machine
end

