-- ==== Sys2Proof/Machine/RivetFamily.lean ====
section
/-! DEFINITION. Machine/RivetFamily.lean: the commands of rivets and the heater (section 9.7). -/

namespace Sys2Proof.Machine

/-- RIVET_TABLE_SET (R100). -/
def execRivetTableSet (tag : Byte) (payload : List Byte) (s : State) : Host.Outcome State Fault Refusal :=
  .next (s.hostRequest .rivetTableSet tag payload)

/-- RIVET_CLASS_SET (R101). -/
def execRivetClassSet (tag : Byte) (payload : List Byte) (s : State) : Host.Outcome State Fault Refusal :=
  .next (s.hostRequest .rivetClassSet tag payload)

/-- MAGAZINE_SET (R102). -/
def execMagazineSet (tag : Byte) (payload : List Byte) (s : State) : Host.Outcome State Fault Refusal :=
  .next (s.hostRequest .magazineSet tag payload)

/-- HEATER_READ (R122). -/
def execHeaterRead (tag : Byte) (payload : List Byte) (s : State) : Host.Outcome State Fault Refusal :=
  .next (s.hostRequest .heaterRead tag payload)

end Sys2Proof.Machine
end

