-- ==== Sys2Proof/Machine/SignatureFamily.lean ====
section
/-! DEFINITION. Machine/SignatureFamily.lean: the commands of the signature unit (section 9.7). -/

namespace Sys2Proof.Machine

/-- FILTER_SET (R96). -/
def execFilterSet (tag : Byte) (payload : List Byte) (s : State) : Host.Outcome State Fault Refusal :=
  .next (s.hostRequest .filterSet tag payload)

/-- FILTER_READ (R96). -/
def execFilterRead (tag : Byte) (payload : List Byte) (s : State) : Host.Outcome State Fault Refusal :=
  .next (s.hostRequest .filterRead tag payload)

/-- CHANNEL_READ (R97). -/
def execChannelRead (tag : Byte) (payload : List Byte) (s : State) : Host.Outcome State Fault Refusal :=
  .next (s.hostRequest .channelRead tag payload)

end Sys2Proof.Machine
end

