-- ==== Sys2Proof/Machine/StationFamily.lean ====
section
/-! DEFINITION. Machine/StationFamily.lean: the commands of the station (section 9.7). -/

namespace Sys2Proof.Machine

/-- STATION_SET (R184). -/
def execStationSet (tag : Byte) (payload : List Byte) (s : State) : Host.Outcome State Fault Refusal :=
  .next (s.hostRequest .stationSet tag payload)

/-- STATION_READ (R185). -/
def execStationRead (tag : Byte) (payload : List Byte) (s : State) : Host.Outcome State Fault Refusal :=
  .next (s.hostRequest .stationRead tag payload)

/-- PERMISSIVE_SET (R38). -/
def execPermissiveSet (tag : Byte) (payload : List Byte) (s : State) : Host.Outcome State Fault Refusal :=
  .next (s.hostRequest .permissiveSet tag payload)

/-- STATUS_READ (R186). -/
def execStatusRead (tag : Byte) (payload : List Byte) (s : State) : Host.Outcome State Fault Refusal :=
  .next (s.hostRequest .statusRead tag payload)

/-- RESTART (R159). -/
def execRestart (tag : Byte) (payload : List Byte) (s : State) : Host.Outcome State Fault Refusal :=
  .next (s.hostRequest .restart tag payload)

end Sys2Proof.Machine
end

