-- ==== Sys2Proof/Machine/Dispatch.lean ====
section
/-! DEFINITION. Machine/Dispatch.lean: the meaning of every command, one arm for each row of the table. -/

namespace Sys2Proof.Machine

/-- The effect of a command on everything but the queue. -/
def exec (i : Instr) (s : State) : Host.Outcome State Fault Refusal :=
  match i with
  | .coldStart pin1 pin2 => Sys2Proof.Machine.execColdStart pin1 pin2 s
  | .frameReceive bytes => Sys2Proof.Machine.execFrameReceive bytes s
  | .frameGapTimeout => Sys2Proof.Machine.execFrameGapTimeout s
  | .linkFlush tag payload => Sys2Proof.Machine.execLinkFlush tag payload s
  | .transmitDone => Sys2Proof.Machine.execTransmitDone s
  | .jointLoad tag payload => Sys2Proof.Machine.execJointLoad tag payload s
  | .jointClear tag payload => Sys2Proof.Machine.execJointClear tag payload s
  | .jointRead tag payload => Sys2Proof.Machine.execJointRead tag payload s
  | .jointFind tag payload => Sys2Proof.Machine.execJointFind tag payload s
  | .jointSkip tag payload => Sys2Proof.Machine.execJointSkip tag payload s
  | .jointRework tag payload => Sys2Proof.Machine.execJointRework tag payload s
  | .datumSet tag payload => Sys2Proof.Machine.execDatumSet tag payload s
  | .datumRead tag payload => Sys2Proof.Machine.execDatumRead tag payload s
  | .stationSet tag payload => Sys2Proof.Machine.execStationSet tag payload s
  | .stationRead tag payload => Sys2Proof.Machine.execStationRead tag payload s
  | .permissiveSet tag payload => Sys2Proof.Machine.execPermissiveSet tag payload s
  | .statusRead tag payload => Sys2Proof.Machine.execStatusRead tag payload s
  | .restart tag payload => Sys2Proof.Machine.execRestart tag payload s
  | .headRead tag payload => Sys2Proof.Machine.execHeadRead tag payload s
  | .headEnable tag payload => Sys2Proof.Machine.execHeadEnable tag payload s
  | .headDisable tag payload => Sys2Proof.Machine.execHeadDisable tag payload s
  | .headReset tag payload => Sys2Proof.Machine.execHeadReset tag payload s
  | .peckSet tag payload => Sys2Proof.Machine.execPeckSet tag payload s
  | .filterSet tag payload => Sys2Proof.Machine.execFilterSet tag payload s
  | .filterRead tag payload => Sys2Proof.Machine.execFilterRead tag payload s
  | .channelRead tag payload => Sys2Proof.Machine.execChannelRead tag payload s
  | .rivetTableSet tag payload => Sys2Proof.Machine.execRivetTableSet tag payload s
  | .rivetClassSet tag payload => Sys2Proof.Machine.execRivetClassSet tag payload s
  | .magazineSet tag payload => Sys2Proof.Machine.execMagazineSet tag payload s
  | .heaterRead tag payload => Sys2Proof.Machine.execHeaterRead tag payload s
  | .eventConfig tag payload => Sys2Proof.Machine.execEventConfig tag payload s
  | .eventAck tag payload => Sys2Proof.Machine.execEventAck tag payload s
  | .eventRead tag payload => Sys2Proof.Machine.execEventRead tag payload s
  | .arm tag => Sys2Proof.Machine.execArm tag s
  | .start tag => Sys2Proof.Machine.execStart tag s
  | .hold tag => Sys2Proof.Machine.execHold tag s
  | .resume tag => Sys2Proof.Machine.execResume tag s
  | .drain tag => Sys2Proof.Machine.execDrain tag s
  | .disarm tag => Sys2Proof.Machine.execDisarm tag s
  | .abort tag => Sys2Proof.Machine.execAbort tag s
  | .recover tag => Sys2Proof.Machine.execRecover tag s
  | .homeDone head => Sys2Proof.Machine.execHomeDone head s
  | .travelDone head => Sys2Proof.Machine.execTravelDone head s
  | .clampDone head => Sys2Proof.Machine.execClampDone head s
  | .drillSample head depth thrust => Sys2Proof.Machine.execDrillSample head depth thrust s
  | .peckBack head => Sys2Proof.Machine.execPeckBack head s
  | .retractDone head => Sys2Proof.Machine.execRetractDone head s
  | .loadDone pocket => Sys2Proof.Machine.execLoadDone pocket s
  | .heatTimeExpiry pocket => Sys2Proof.Machine.execHeatTimeExpiry pocket s
  | .holdWindowExpiry pocket => Sys2Proof.Machine.execHoldWindowExpiry pocket s
  | .ejectDone pocket => Sys2Proof.Machine.execEjectDone pocket s
  | .portTimerExpiry pocket => Sys2Proof.Machine.execPortTimerExpiry pocket s
  | .feedDone head => Sys2Proof.Machine.execFeedDone head s
  | .setSample head stroke force => Sys2Proof.Machine.execSetSample head stroke force s
  | .setDone head => Sys2Proof.Machine.execSetDone head s
  | .releaseDone head => Sys2Proof.Machine.execReleaseDone head s
  | .driveFault head code => Sys2Proof.Machine.execDriveFault head code s
  | .phaseTimeout head => Sys2Proof.Machine.execPhaseTimeout head s
  | .rivetWaitExpiry head => Sys2Proof.Machine.execRivetWaitExpiry head s
  | .byteArrival byte stopBit => Sys2Proof.Machine.execByteArrival byte stopBit s

end Sys2Proof.Machine
end

