-- ==== Sys2Proof/Machine/Time.lean ====
section
/-! DEFINITION. Machine/Time.lean: station time (00_scope section 4.2): what one millisecond without a command does (log entry 3). -/

namespace Sys2Proof.Machine

/-- A rivet wait timer after one millisecond: it counts only while counting (R53). -/
def WaitTimer.tick : WaitTimer → WaitTimer
  | .counting n => .counting (n - 1)
  | .paused n => .paused n
  | .stopped => .stopped

/-- A head's timers after one millisecond (R58, R53). -/
def Head.tick (x : Head) : Head := { x with phaseTimer := x.phaseTimer.map (· - 1), rivetWait := x.rivetWait.tick }

/-- A pocket's timer after one millisecond (R103). -/
def Pocket.tick : Pocket → Pocket
  | .loading c o t => .loading c o (t - 1)
  | .heating c o t => .heating c o (t - 1)
  | .ready c o t st => .ready c o (t - 1) st
  | .ejecting c t => .ejecting c (t - 1)
  | .empty => .empty
  | .disabled => .disabled

/-- The silence after a byte of a frame in progress, one millisecond longer (R175). -/
def Assembler.tick : Assembler → Assembler
  | .hunting => .hunting
  | .length gap => .length (gap + 1)
  | .body len got gap => .body len got (gap + 1)
  | .check len got high gap => .check len got high (gap + 1)

/-- Station time and every running timer move on by one millisecond (00_scope section 4.2). -/
def State.advance (s : State) : State :=
  { s with
    time := s.time + 1
    heads := s.heads.map Head.tick
    heater := { s.heater with pockets := s.heater.pockets.map Pocket.tick }
    link := s.link.to s.link.assembler.tick }

/-- A frame in progress that has been silent for more than 20 ms is abandoned (R175). -/
def State.dueGap (s : State) : State := if Config.frameGap < s.link.assembler.gap then s.event State.gapExpired else s

/-- A pocket whose timer stands at 0 takes its expiry (R106 to R108). -/
def State.duePocket (s : State) (p : PocketNo) : State :=
  match s.pocket p with
  | .loading _ _ 0 => s.event (fun t => t.portExpired p)
  | .ejecting _ 0 => s.event (fun t => t.portExpired p)
  | .heating _ _ 0 => s.event (fun t => t.heatExpired p)
  | .ready _ _ 0 _ => s.event (fun t => t.holdExpired p)
  | .loading _ _ (_ + 1) => s
  | .ejecting _ (_ + 1) => s
  | .heating _ _ (_ + 1) => s
  | .ready _ _ (_ + 1) _ => s
  | .empty => s
  | .disabled => s

/-- A head whose phase timer stands at 0 takes its timeout (R58). -/
def State.duePhase (s : State) (h : HeadNo) : State :=
  if (s.head h).phaseTimer = some 0 then s.event (fun t => t.phaseTimeout h) else s

/-- A head whose rivet wait timer has counted to 0 takes its expiry (R54). -/
def State.dueWait (s : State) (h : HeadNo) : State :=
  if (s.head h).rivetWait = .counting 0 then s.event (fun t => t.rivetWaitExpired h) else s

/-- The expiries due at one moment, in the model's order (log entry 3). -/
def State.dueAll (s : State) : State :=
  headNos.foldl State.dueWait (headNos.foldl State.duePhase (pocketNos.foldl State.duePocket s.dueGap))

/-- One millisecond of station time with no command: time moves on, the transmitter left idle by a reset takes up its
report (log entry 8), and the expiries due are taken (log entry 3). -/
def State.tick (s : State) : State := ({ s with outgoing := [] } : State).advance.settle.dueAll

end Sys2Proof.Machine
end

