-- ==== Sys2Proof/Safety.lean ====
section
/-! DEFINITION. Safety.lean: what counts as a safe state of the part, in the terms the statements use: the link and the
controller at rest between events, and the rules of the manual that hold whatever the part does. -/

namespace Sys2Proof.Machine

/-! ## Between events -/

/-- The state as a command finds it, no port order of an earlier command being kept (log entry 12). -/
def State.cleared (s : State) : State := { s with outgoing := [] }

/-- Between events the pending set is empty, unless the controller is busy or a restart is ordered (R145). -/
def State.ControllerRests (s : State) : Prop :=
  s.mode.busy = true ∨ s.control.restartMark = true ∨ s.control.pendingSet = []

/-- Between events an idle transmitter has nothing to send, and a waiting request has a reason to wait (R180, R181). -/
def State.LinkSettled (s : State) : Prop :=
  (s.link.sending = none → s.link.fifo = [] ∧ s.link.slot = none ∧ s.reports.queue = []) ∧
    (s.link.requests = [] ∨ s.link.slot ≠ none ∨ s.control.restartMark = true)

/-- A state as every event leaves it. -/
def State.Settled (s : State) : Prop := s.ControllerRests ∧ s.LinkSettled

/-- A settled state in which a request that arrives is executed at once (R180). -/
def State.Ready (s : State) : Prop :=
  s.Settled ∧ s.link.requests = [] ∧ s.link.slot = none ∧ s.control.restartMark = false

/-- A settled state with no directive waiting. -/
def State.Quiet (s : State) : Prop := s.LinkSettled ∧ s.control.pendingSet = []

/-- A settled state in which a directive that arrives is taken at once: the controller is not busy, no restart is
ordered, no directive waits, and its reply has a place (R145, R177). -/
def State.Listens (s : State) : Prop :=
  s.Quiet ∧ s.control.restartMark = false ∧ s.mode.busy = false ∧ s.link.fifo.length < 4

/-- The state with a reply to an executed request delivered: on the line where the transmitter was idle, and in the
reply slot otherwise (R180, R181). -/
def State.withReply (s : State) (r : Reply) : State :=
  if s.link.sending = none then { s with link := { s.link with sending := some r.frame } }
  else { s with link := { s.link with slot := some r } }

/-- The state with a reply that the sorter placed delivered: on the line where the transmitter was idle, and in the
immediate reply FIFO otherwise (R179, R181). -/
def State.withImmediate (s : State) (r : Reply) : State :=
  if s.link.sending = none then { s with link := { s.link with sending := some r.frame } }
  else { s with link := { s.link with fifo := s.link.fifo ++ [r] } }

/-- The reply of a directive at its arrival (R142). -/
def Directive.reply (d : Directive) (tag : Byte) (st : Status) : Reply := ⟨BitVec.ofNat 8 d.kindCode, tag, st, []⟩

/-- A settled state in which a directive that arrives is executed at once: it is legal, and the controller is not busy
or the directive interrupts the busy mode, in which other directives may wait (R144, R145). -/
def State.Obeys (s : State) (d : Directive) : Prop :=
  s.Settled ∧ s.control.restartMark = false ∧ s.link.fifo.length < 4 ∧ d ∉ s.control.pendingSet ∧
    d.legal s.mode = true ∧ (s.mode.busy = false ∨ d.interrupts s.mode = true)

/-- What waits once some kinds have left the pending set (R146). -/
def State.waitingBeside (s : State) (ds : List Directive) : List Directive :=
  s.control.pendingSet.filter (· ∉ ds)

/-- One occurrence of an event kind has been posted since `s`: a first one leaves its subject, station time and mode in
the latch, a further one is counted against the record that stands there (R164, R165). -/
def State.Occurred (s t : State) (k : EventKind) (subject : Nat) (m : Mode) : Prop :=
  match (s.latch k).held with
  | none => ∃ place, (t.latch k).held = some ⟨place, subject, s.time, m, 1⟩
  | some r => ∃ place, (t.latch k).held = some { r with place, count := min 255 (r.count + 1) }

/-- No kind is held back for want of room (R168). -/
def State.NoneWaits (s : State) : Prop := ∀ k, s.waitsForRoom k = false

/-! ## Heads put out of work -/

/-- A head put into PARKED, its record else kept (R67). -/
def Head.inPark (x : Head) : Head := { x with state := .parked, phaseTimer := none, order := none }

/-- A head that starts homing (R63). -/
def Head.inHoming (x : Head) (timeout : Nat) : Head :=
  { x with state := .homing, phaseTimer := some timeout, order := some .home }

/-- The claim of a head that starts homing (R28). -/
def State.claimHome (s : State) (h : HeadNo) : Claim :=
  if isLower h then ⟨0, s.claimHi h⟩ else ⟨s.claimLo h, s.station.railLength⟩

/-- The joint at index `i` meets the six conditions for a head standing at `p`: PENDING, of the current pass and the
head's rail, with an open gate and a corrected position, and the travel span clear of the neighbour (R34, R26). -/
def State.CanTake (s : State) (h : HeadNo) (p i : Nat) : Prop :=
  ∃ j t, s.joint? i = some j ∧ j.state = .pending ∧ s.table.currentPass = some j.identity.pass ∧
    j.identity.side = (if h.val < 2 then .a else .b) ∧ (∀ k ∈ j.identity.gate, s.dispatcher.flags[k] = true) ∧
    j.corrected = some t ∧
    if h.val % 2 = 0 then max p t + s.station.clearance ≤ s.claimLo (neighbour h)
    else s.claimHi (neighbour h) + s.station.clearance ≤ min p t

/-- The pocket holds a rivet of the code that nobody owns, in LOADING, HEATING or READY (R112). -/
def State.Takeable (s : State) (c : RivetCode) (p : PocketNo) : Prop :=
  (∃ n, s.pocket p = .loading c none n) ∨ (∃ n, s.pocket p = .heating c none n) ∨
    ∃ n st, s.pocket p = .ready c none n st

/-- Pocket `p` is preferred to pocket `q`: READY to HEATING to LOADING; of two READY the one READY for longer, of two
HEATING the one with less heat time left; otherwise the lower number (R112). -/
def State.Preferred (s : State) (p q : PocketNo) : Prop :=
  match s.pocket p, s.pocket q with
  | .ready _ _ _ x, .ready _ _ _ y =>
    (s.time - y).toNat < (s.time - x).toNat ∨ (s.time - y).toNat = (s.time - x).toNat ∧ p < q
  | .heating _ _ x, .heating _ _ y => x < y ∨ x = y ∧ p < q
  | x, y => y.stateCode < x.stateCode ∨ y.stateCode = x.stateCode ∧ p < q

/-- The pocket that a joint seeking a rivet of the code takes (R112). -/
def State.Best (s : State) (c : RivetCode) (p : PocketNo) : Prop :=
  s.Takeable c p ∧ ∀ q, s.Takeable c q → q ≠ p → s.Preferred p q

/-- The state in which the joint at index `i` has come to own a pocket (R110). -/
def State.owning (s : State) (p : PocketNo) (i : Nat) (j : Joint) : State :=
  { s with
    table := { s.table with joints := s.table.joints.set i { j with pocket := some p } }
    heater := { s.heater with pockets := s.heater.pockets.set p ((s.pocket p).withOwner (some i)) } }

/-- The head asks for a permit where it would be granted or queued: in AWAIT_RIVET, its rivet READY, in RUNNING or
DRAINING (R125). -/
def State.Asks (s : State) (h : HeadNo) : Prop :=
  (s.head h).state = .awaitRivet ∧ s.stampOf h ≠ none ∧ (s.mode = .running ∨ s.mode = .draining)

/-- Kind `a`'s report goes ahead of kind `b`'s: higher priority, then the earlier first occurrence, then the lower kind
number (R166). -/
def State.RanksBefore (s : State) (a b : EventKind) : Prop :=
  (s.latch b).priority < (s.latch a).priority ∨ (s.latch b).priority = (s.latch a).priority ∧
    (s.sinceFirst b < s.sinceFirst a ∨ s.sinceFirst b = s.sinceFirst a ∧ a.index < b.index)

/-- The occurrence of a joint's mark, posted where it is the joint's first of that kind (R83, R88). -/
def State.markOf (s : State) (k : EventKind) (i : Nat) (was now : Bool) : State :=
  if was = false ∧ now = true then s.post k i else s

/-! ## The commands by kind -/

/-- The command that stands for a request of a kind. -/
def RequestKind.command (k : RequestKind) (tag : Byte) (p : List Byte) : Instr :=
  match k with
  | .jointLoad => .jointLoad tag p
  | .jointClear => .jointClear tag p
  | .jointRead => .jointRead tag p
  | .jointFind => .jointFind tag p
  | .jointSkip => .jointSkip tag p
  | .jointRework => .jointRework tag p
  | .datumSet => .datumSet tag p
  | .datumRead => .datumRead tag p
  | .stationSet => .stationSet tag p
  | .stationRead => .stationRead tag p
  | .permissiveSet => .permissiveSet tag p
  | .statusRead => .statusRead tag p
  | .restart => .restart tag p
  | .headRead => .headRead tag p
  | .headEnable => .headEnable tag p
  | .headDisable => .headDisable tag p
  | .headReset => .headReset tag p
  | .peckSet => .peckSet tag p
  | .filterSet => .filterSet tag p
  | .filterRead => .filterRead tag p
  | .channelRead => .channelRead tag p
  | .rivetTableSet => .rivetTableSet tag p
  | .rivetClassSet => .rivetClassSet tag p
  | .magazineSet => .magazineSet tag p
  | .heaterRead => .heaterRead tag p
  | .eventConfig => .eventConfig tag p
  | .eventAck => .eventAck tag p
  | .eventRead => .eventRead tag p

/-- The command that stands for a directive. -/
def Directive.command (d : Directive) (tag : Byte) : Instr :=
  match d with
  | .arm => .arm tag
  | .start => .start tag
  | .hold => .hold tag
  | .resume => .resume tag
  | .drain => .drain tag
  | .disarm => .disarm tag
  | .abort => .abort tag
  | .recover => .recover tag

/-- The modes in which each request is executed: the table of section 9.7. -/
def RequestKind.executedIn (k : RequestKind) (m : Mode) : Bool :=
  match k with
  | .jointLoad => m == .setup
  | .jointClear => m == .setup
  | .jointSkip => m != .aborted
  | .jointRework => m == .setup || m == .armed
  | .datumSet => m == .setup
  | .stationSet => m == .setup
  | .restart => m == .setup || m == .aborted
  | .headEnable => m != .arming && m != .aborted
  | .headReset => m != .arming && m != .aborted
  | .peckSet => m != .aborted
  | .filterSet => m == .setup || m == .armed
  | .rivetTableSet => m == .setup || m == .armed
  | .rivetClassSet => m == .setup || m == .armed
  | .magazineSet => m != .aborted
  | .jointRead => true
  | .jointFind => true
  | .datumRead => true
  | .stationRead => true
  | .permissiveSet => true
  | .statusRead => true
  | .headRead => true
  | .headDisable => true
  | .filterRead => true
  | .channelRead => true
  | .heaterRead => true
  | .eventConfig => true
  | .eventAck => true
  | .eventRead => true

/-- The payload length of a request of fixed length (Table 10-3); `none` for the three kinds of varying length. -/
def RequestKind.fixedLength : RequestKind → Option Nat
  | .jointLoad => none
  | .filterSet => none
  | .rivetTableSet => none
  | .jointClear => some 0
  | .jointRead => some 2
  | .jointFind => some 2
  | .jointSkip => some 2
  | .jointRework => some 2
  | .datumSet => some 3
  | .datumRead => some 0
  | .stationSet => some 30
  | .stationRead => some 0
  | .permissiveSet => some 2
  | .statusRead => some 0
  | .restart => some 0
  | .headRead => some 1
  | .headEnable => some 1
  | .headDisable => some 1
  | .headReset => some 1
  | .peckSet => some 5
  | .filterRead => some 0
  | .channelRead => some 1
  | .rivetClassSet => some 12
  | .magazineSet => some 3
  | .heaterRead => some 0
  | .eventConfig => some 3
  | .eventAck => some 2
  | .eventRead => some 0

/-! ## Payloads as the host writes them -/

/-- A joint identity within the ranges of R1. -/
def JointIdentity.Valid (d : JointIdentity) : Prop :=
  1 ≤ d.id ∧ d.id ≤ 65535 ∧ d.offset ≤ 65535 ∧ (∀ g ∈ d.expectedGrip, 1 ≤ g ∧ g ≤ 8000) ∧
    (∀ t ∈ d.tolerance, t ≤ 2000) ∧ d.tolerance.isSome = d.expectedGrip.isSome ∧
    (∀ n ∈ d.expectedLayers, 1 ≤ n ∧ n ≤ 8)

/-- A rivet table entry as RIVET_TABLE_SET carries it (Table 10-3). -/
def RivetEntry.bytes (e : RivetEntry) : List Byte :=
  b8 e.diameter.val ++ b16 e.gripMin ++ b16 e.gripMax ++ b8 e.code.val

/-- A rivet table entry within its ranges (R99, R100). -/
def RivetEntry.Valid (e : RivetEntry) : Prop := 1 ≤ e.gripMin ∧ e.gripMin ≤ e.gripMax ∧ e.gripMax ≤ 8000

/-- The payload of a RIVET_CLASS_SET that defines a class (Table 10-3). -/
def definePayload (code : RivetCode) (c : RivetClass) : List Byte :=
  b8 code.val ++ b8 1 ++ b16 c.heatTime ++ b16 c.holdWindow ++ b16 c.forceTarget.toNat ++ bs16 c.workMin ++
    bs16 c.workMax

/-- A rivet class within its ranges (R101). -/
def RivetClass.InRange (c : RivetClass) : Prop :=
  c.valid = true ∧ -32768 ≤ c.workMin ∧ c.workMin ≤ 32767 ∧ -32768 ≤ c.workMax ∧ c.workMax ≤ 32767

/-- Filter settings within their ranges (R95). -/
def FilterSettings.InRange (f : FilterSettings) : Prop :=
  f.valid = true ∧ 1 ≤ f.taps.length ∧ f.taps.length ≤ 16 ∧ ∀ c ∈ f.taps, -32768 ≤ c ∧ c ≤ 32767

/-! ## Time passing -/

/-- A rivet wait timer after `n` milliseconds in which it does not run out (R53). -/
def WaitTimer.elapse (n : Nat) : WaitTimer → WaitTimer
  | .counting t => .counting (t - n)
  | .paused t => .paused t
  | .stopped => .stopped

/-- A head after `n` milliseconds in which no timer of it runs out. -/
def Head.elapse (n : Nat) (x : Head) : Head :=
  { x with phaseTimer := x.phaseTimer.map (· - n), rivetWait := x.rivetWait.elapse n }

/-- A pocket after `n` milliseconds in which its timer does not run out. -/
def Pocket.elapse (n : Nat) : Pocket → Pocket
  | .loading c o t => .loading c o (t - n)
  | .heating c o t => .heating c o (t - n)
  | .ready c o t st => .ready c o (t - n) st
  | .ejecting c t => .ejecting c (t - n)
  | .empty => .empty
  | .disabled => .disabled

/-- The assembler after `n` milliseconds without a byte. -/
def Assembler.elapse (n : Nat) : Assembler → Assembler
  | .hunting => .hunting
  | .length gap => .length (gap + n)
  | .body len got gap => .body len got (gap + n)
  | .check len got high gap => .check len got high (gap + n)

/-- The state after `n` milliseconds in which nothing falls due. -/
def State.elapse (s : State) (n : Nat) : State :=
  { s.cleared with
    time := s.time + BitVec.ofNat 32 n
    heads := s.heads.map (Head.elapse n)
    heater := { s.heater with pockets := s.heater.pockets.map (Pocket.elapse n) }
    link := { s.link with assembler := s.link.assembler.elapse n } }

/-- The time left on a pocket's running timer. -/
def Pocket.timer : Pocket → Option Nat
  | .loading _ _ t => some t
  | .heating _ _ t => some t
  | .ready _ _ t _ => some t
  | .ejecting _ t => some t
  | .empty => none
  | .disabled => none

/-- Every running timer has more than `n` milliseconds left, and no frame in progress has been silent for more than
20 ms after `n` more. -/
def State.NothingDue (s : State) (n : Nat) : Prop :=
  (∀ h, ∀ t ∈ (s.head h).phaseTimer, n < t) ∧ (∀ h t, (s.head h).rivetWait = .counting t → n < t) ∧
    (∀ p, ∀ t ∈ (s.pocket p).timer, n < t) ∧ (s.link.assembler.elapse n).gap ≤ 20

/-- The state after `k` steps. -/
def stepsFrom : Nat → State → Host.Outcome State Fault Refusal
  | 0, s => .next s
  | k + 1, s =>
    match step s with
    | .next t => stepsFrom k t
    | .fault r => .fault r
    | .refused r => .refused r

/-! ## The rules that hold whatever the part does -/

/-- The link's holding places keep within their capacities; an idle transmitter has nothing to send but the
STATION_STARTED a reset has posted, and a waiting request has a reason to wait (R173, R178 to R181, R187). -/
def State.LinkRule (s : State) : Prop :=
  s.link.requests.length ≤ 4 ∧ s.link.fifo.length ≤ 4 ∧
    (s.link.sending = none →
      s.link.fifo = [] ∧ s.link.slot = none ∧ (s.reports.queue = [] ∨ s.reports.queue = [.stationStarted])) ∧
    (s.link.requests = [] ∨ s.link.slot ≠ none ∨ s.control.restartMark = true)

/-- The report queue holds exactly the QUEUED kinds, at most eight, none twice; and it is full or no enabled kind is
held back (R163, R166). -/
def State.ReportRule (s : State) : Prop :=
  s.reports.queue.length ≤ 8 ∧ s.reports.queue.Nodup ∧
    (∀ k, k ∈ s.reports.queue ↔ (s.latch k).held.any (fun r => r.place == .queued) = true) ∧
    (s.reports.queue.length = 8 ∨ ∀ k, s.waitsForRoom k = false)

/-- The directive in progress is that of the mode, and the pending set waits only while the controller is busy or a
restart is ordered (R140, R145). -/
def State.ModeRule (s : State) : Prop := s.control.inProgress = s.mode.progress ∧ s.ControllerRests

/-- A joint that counts toward the current pass: PENDING, in work or LOCKED, or REJECTED with key set (R20). -/
def Joint.Counts (j : Joint) : Prop :=
  j.state ∈ [JointState.pending, .assigned, .drilling, .drilled, .setting, .locked] ∨
    j.state = .rejected ∧ j.identity.key = true

/-- The current pass is the lowest pass with a joint that counts (R20). -/
def State.PassRule (s : State) : Prop := s.table.currentPass = currentPassOf s.table.joints

/-- The joint table holds at most 1,024 records, no id is 0 or carried twice, and no joint has been reworked more than
three times (R1, R10, R15). -/
def State.TableRule (s : State) : Prop :=
  s.table.joints.length ≤ 1024 ∧ (s.table.joints.map (·.identity.id)).Nodup ∧
    ∀ j ∈ s.table.joints, j.identity.id ≠ 0 ∧ j.reworks ≤ 3

/-- A FREE permit and a waiting head never stand together, nor a FREE drill channel and a head waiting for one (R127,
R74). -/
def State.SharingRule (s : State) : Prop :=
  (s.arbiter.queue = [] ∨ ∀ k, s.permit k ≠ none) ∧
    (s.signature.drillQueue = [] ∨ ((s.channel 0).holder ≠ none ∧ (s.channel 1).holder ≠ none))

/-- Every code the rivet table can return names a defined class in every mode from ARMING to DRAINING (R100, R101,
R147). -/
def State.ClassRule (s : State) : Prop :=
  s.mode = .setup ∨ s.mode = .aborted ∨ ∀ e ∈ s.heater.table, s.heater.classes[e.code] ≠ none

/-- No magazine count exceeds 9,999, and every DEMAND order stands before every PRE-HEAT order (R102, R111). -/
def State.HeaterRule (s : State) : Prop :=
  (∀ c : RivetCode, s.heater.magazines[c] ≤ 9999) ∧
    s.heater.orders.Pairwise (fun a b => a.cls = .demand ∨ b.cls = .preHeat)

/-- A number within the accumulator's 36 bits (R80). -/
def InAccumulator (x : Int) : Prop := -34359738368 ≤ x ∧ x ≤ 34359738367

/-- A number within sixteen signed bits. -/
def InSixteen (x : Int) : Prop := -32768 ≤ x ∧ x ≤ 32767

/-- A depth or stroke a channel may record (R71). -/
def InReach (d : Nat) : Prop := d ≤ 20000

/-- The figures of a channel record keep within the ranges of R71 and are present where it has them present: the
36-bit accumulator, the sixteen-bit samples and outputs, the counts, and what WAITING, the exit run and a normal end say
of the other fields. -/
def Channel.InRange (c : Channel) : Prop :=
  InAccumulator c.accumulator ∧ c.sampleCount ≤ 65535 ∧ (∀ k : Fin 16, InSixteen c.ring[k]) ∧
    (∀ y ∈ c.lastOutput, InSixteen y) ∧ (∀ y ∈ c.peak, InSixteen y) ∧ (∀ y ∈ c.valley, InSixteen y) ∧
    (∀ y ∈ c.peakForce, InSixteen y) ∧ (∀ y ∈ c.setWork, InSixteen y) ∧
    c.runCount ≤ 64 ∧ (c.machine = .dip → c.runCount < 64) ∧ (c.runStart = none ↔ c.runCount = 0) ∧
    (c.machine = .waiting → c.peak = none ∧ c.entry = none ∧ c.layers = none) ∧
    (c.machine = .cutting ∨ c.machine = .dip → c.layers ≠ none) ∧
    (∀ n ∈ c.layers, n ≤ 8 ∧ c.boundaries.length + 1 ≤ n) ∧ c.boundaries.length ≤ 7 ∧
    (c.ending = some .finished → c.exit ≠ none) ∧ (∀ h ∈ c.holder, c.lastHolder = some h)

/-- Every channel record keeps within its ranges, and the filter settings in force within theirs (R71, R95). -/
def State.ChannelRule (s : State) : Prop := s.signature.filter.InRange ∧ ∀ c, (s.channel c).InRange

/-- Every depth and stroke a channel record holds lies within the drive's reach, the last recorded depth reaching down
to -15 (R71, R84). -/
def Channel.Reaches (c : Channel) : Prop :=
  (∀ d ∈ c.lastDepth, -15 ≤ d ∧ d ≤ 20000) ∧ (∀ d ∈ c.lastStroke, InReach d) ∧ (∀ d ∈ c.valleyDepth, InReach d) ∧
    (∀ d ∈ c.runStart, InReach d) ∧ (∀ d ∈ c.entry, InReach d) ∧ (∀ d ∈ c.boundaries, InReach d) ∧
    ∀ d ∈ c.exit, InReach d

/-- Every channel's depths and strokes lie within reach (R71). -/
def State.DepthRule (s : State) : Prop := ∀ c, (s.channel c).Reaches

/-- A claim lies on the rail: 0 ≤ lo ≤ hi ≤ L (R26). -/
def Claim.onRail (c : Claim) (railLength : Nat) : Prop := c.lo ≤ c.hi ∧ c.hi ≤ railLength

/-- The claims of a rail's two heads are compatible, an absent claim being its head's home point (R26). -/
def State.RailCompatible (s : State) (lower upper : HeadNo) : Prop :=
  s.claimHi lower + s.station.clearance ≤ s.claimLo upper

/-- Heads of one rail keep clear of each other, with what that rests on: every claim, position and corrected position
lies on the rail, a travelling head's target lies within its claim, and no joint has a corrected position in SETUP
(R25, R26, R27, R40, R2). -/
def State.RailRule (s : State) : Prop :=
  (s.mode = .setup → ∀ j ∈ s.table.joints, j.corrected = none) ∧
    (s.link.settings ≠ none →
      s.RailCompatible 0 1 ∧ s.RailCompatible 2 3 ∧
        (∀ h, ∀ c ∈ s.claim h, c.onRail s.station.railLength) ∧
        (∀ h, ∀ p ∈ (s.head h).position, p ≤ s.station.railLength) ∧
        (∀ j ∈ s.table.joints, ∀ t ∈ j.corrected, t ≤ s.station.railLength) ∧
        (∀ h, (s.head h).state = .travel → ∀ t ∈ (s.head h).target, ∃ c ∈ s.claim h, c.lo ≤ t ∧ t ≤ c.hi))

end Sys2Proof.Machine
end

