-- ==== Sys2Proof/Certificates/Slice0/Obligations.lean ====
section
/-! DEFINITION. Certificates/Slice0/Obligations.lean: the statements for the provers. -/

section Statements
open Sys2Proof Sys2Proof.Machine

/-! ## The queue and time -/

/-- A step takes the command at the front of the queue and runs it with the queue's rest. -/
def Obligations.StepTakesFront : Prop :=
  ∀ (c : Instr) (s : State), step { s with pending := c :: s.pending } = exec c s

/-- Every command, in every state, gives a next state and leaves the commands that wait behind it waiting. The queue
in which they wait is the model's own (log entry 3), and so is that they stay over a COLD_START (log entry 17); that a
command completes in a state no run reaches, where a record it needs is missing, is the model's choice (log entry 11).
What the manual says is that a frame gets a reply or is counted, and that an event which does not concern its receiver
is ignored. -/
def Obligations.EveryCommandCompletes : Prop :=
  ∀ (c : Instr) (s : State), ∃ t, exec c s = .next t ∧ t.pending = s.pending

/-- 00_scope section 4.2; the idle step is the model's own (log entry 3). While no command waits and no timer runs out,
`n + 1` steps move station time on by `n + 1` milliseconds, through its wrap, take `n + 1` off every running timer, and
change nothing else. -/
def Obligations.IdleStepsElapse : Prop :=
  ∀ (n : Nat) (s : State), s.pending = [] → s.Settled → s.NothingDue (n + 1) →
    stepsFrom (n + 1) s = .next (s.elapse (n + 1))

/-- 00_scope section 4.2, R53, R58, R103, R175; the idle step is the model's own (log entry 3). Where a millisecond with
no command brings one timer to 0, or the silence of a frame in progress beyond 20 ms, and nothing else is due, the step
takes that expiry: a head's PHASE_TIMEOUT or RIVET_WAIT_EXPIRY, a pocket's PORT_TIMER_EXPIRY in LOADING and EJECTING,
HEAT_TIME_EXPIRY in HEATING and HOLD_WINDOW_EXPIRY in READY, or FRAME_GAP_TIMEOUT. -/
def Obligations.DueTimerTaken : Prop :=
  ∀ s u t : State, s.pending = [] → s.Settled → u = s.elapse 1 → t.NothingDue 0 →
    (∀ h, (u.head h).phaseTimer = some 0 →
      (u.setHead h { u.head h with phaseTimer := none }).NothingDue 0 →
      exec (.phaseTimeout h) u = .next t → step s = .next t) ∧
    (∀ h, (u.head h).rivetWait = .counting 0 →
      (u.setHead h { u.head h with rivetWait := .stopped }).NothingDue 0 →
      exec (.rivetWaitExpiry h) u = .next t → step s = .next t) ∧
    (∀ (p : PocketNo) (c : RivetCode) (o : Option Nat), (u.setPocket p .empty).NothingDue 0 →
      (u.pocket p = .loading c o 0 ∨ u.pocket p = .ejecting c 0 →
        exec (.portTimerExpiry p) u = .next t → step s = .next t) ∧
      (u.pocket p = .heating c o 0 → exec (.heatTimeExpiry p) u = .next t → step s = .next t) ∧
      (∀ st, u.pocket p = .ready c o 0 st → exec (.holdWindowExpiry p) u = .next t → step s = .next t)) ∧
    (u.link.assembler.gap = 21 →
      State.NothingDue { u with link := { u.link with assembler := .hunting } } 0 →
      exec .frameGapTimeout u = .next t → step s = .next t)

/-! ## Requests refused (R180, R182) -/

/-- R180. A request whose mode check fails is answered WRONG_MODE whatever its payload, and changes nothing.
R180. A request of fixed length that passes its mode check and has another length is answered BAD_LENGTH, and
changes nothing.
R180. A refused request changes nothing: the next state is the old one with the reply delivered. -/
def Obligations.RequestsRefused : Prop :=
  (∀ (s : State) (k : RequestKind) (tag : Byte) (p : List Byte), s.Ready → k.executedIn s.mode = false →
      exec (k.command tag p) s = .next (s.cleared.withReply ⟨k.code, tag, .wrongMode, []⟩)) ∧
  (∀ (s : State) (k : RequestKind) (tag : Byte) (p : List Byte) (n : Nat), s.Ready → k.executedIn s.mode = true →
      k.fixedLength = some n → p.length ≠ n →
        exec (k.command tag p) s = .next (s.cleared.withReply ⟨k.code, tag, .badLength, []⟩)) ∧
  (∀ (s : State) (k : RequestKind) (tag : Byte) (p : List Byte), s.Ready → (s.cleared.answer p k).status ≠ .ok →
      exec (k.command tag p) s = .next (s.cleared.withReply
        ⟨k.code, tag, (s.cleared.answer p k).status, (s.cleared.answer p k).content⟩))

/-! ## Requests that read (R12, R13, R17, R68, R96, R97, R122, R171, R185, R186) -/

/-- R12, R13. JOINT_READ carries the record as it stands, JOINT_FIND the index of the record that carries the id; both
answer NOT_FOUND for an index or id that is not in use, and change nothing. -/
def Obligations.JointReadsReply : Prop :=
  ∀ (s : State) (tag : Byte), s.Ready →
    (∀ (i : Nat) (j : Joint), i < 65536 → s.joint? i = some j →
      exec (.jointRead tag (b16 i)) s = .next (s.cleared.withReply ⟨0x03, tag, .ok, j.content i⟩)) ∧
    (∀ i : Nat, i < 65536 → s.joint? i = none →
      exec (.jointRead tag (b16 i)) s = .next (s.cleared.withReply ⟨0x03, tag, .notFound, []⟩)) ∧
    (∀ (i : Nat) (j : Joint), s.joint? i = some j → j.identity.id < 65536 →
      (∀ (i' : Nat) (j' : Joint), i' < i → s.joint? i' = some j' → j'.identity.id ≠ j.identity.id) →
      exec (.jointFind tag (b16 j.identity.id)) s = .next (s.cleared.withReply ⟨0x04, tag, .ok, b16 i⟩)) ∧
    (∀ n : Nat, n < 65536 → (∀ j ∈ s.table.joints, j.identity.id ≠ n) →
      exec (.jointFind tag (b16 n)) s = .next (s.cleared.withReply ⟨0x04, tag, .notFound, []⟩))

/-- R17, R68, R96, R97, R122, R171, R185, R186. The other requests that read reply OK in every mode with what stands
in the part, and change nothing; a head above H3 or a channel above 3 is answered BAD_FIELD. -/
def Obligations.StateReadsReply : Prop :=
  ∀ (s : State) (tag : Byte), s.Ready →
    exec (.datumRead tag []) s =
      .next (s.cleared.withReply ⟨0x08, tag, .ok, s.table.datum.toList.flatMap bs16⟩) ∧
    exec (.stationRead tag []) s = .next (s.cleared.withReply ⟨0x12, tag, .ok, s.stationContent⟩) ∧
    exec (.statusRead tag []) s = .next (s.cleared.withReply ⟨0x14, tag, .ok, s.statusContent⟩) ∧
    (∀ h : HeadNo, exec (.headRead tag (b8 h.val)) s =
      .next (s.cleared.withReply ⟨0x21, tag, .ok, s.headContent h⟩)) ∧
    (∀ n : Nat, 4 ≤ n → n < 256 → exec (.headRead tag (b8 n)) s =
      .next (s.cleared.withReply ⟨0x21, tag, .badField, []⟩)) ∧
    exec (.filterRead tag []) s = .next (s.cleared.withReply ⟨0x32, tag, .ok, s.signature.filter.bytes⟩) ∧
    (∀ c : ChannelNo, exec (.channelRead tag (b8 c.val)) s =
      .next (s.cleared.withReply ⟨0x33, tag, .ok, s.channelContent c⟩)) ∧
    (∀ n : Nat, 4 ≤ n → n < 256 → exec (.channelRead tag (b8 n)) s =
      .next (s.cleared.withReply ⟨0x33, tag, .badField, []⟩)) ∧
    exec (.heaterRead tag []) s = .next (s.cleared.withReply ⟨0x44, tag, .ok, s.heaterContent⟩) ∧
    exec (.eventRead tag []) s = .next (s.cleared.withReply ⟨0x53, tag, .ok, s.eventContent⟩)

/-! ## Layouts (chapter 10) -/

/-- R192 to R195. The contents of the replies that read the part have the lengths of chapter 10 in every state.
Table 10-5. Every field of a joint record stands at its place in JOINT_READ's reply, an absent one as all ones and
absent set figures as 0.
R185. STATION_READ carries the settings as STATION_SET does, all ones while the station mark is clear, then the mark, the
flags and the line rate.
Tables 10-7 to 10-11. So does every field of STATUS_READ, HEAD_READ, CHANNEL_READ, HEATER_READ and EVENT_READ: an absent
field or a stopped timer as all ones, a field whose presence is carried elsewhere as 0, a list filled up to its fixed
places, queued reports in rank order, heat and hold timers and the rivet wait in whole 100 ms rounded up. -/
def Obligations.ReplyContents : Prop :=
  (∀ s : State,
      (∀ (i : Nat) (j : Joint), (j.content i).length = 55) ∧ s.stationContent.length = 33 ∧
        s.statusContent.length = 35 ∧ (∀ h : HeadNo, (s.headContent h).length = 59) ∧
        (∀ c : ChannelNo, (s.channelContent c).length = if c.val < 2 then 87 else 90) ∧
        s.heaterContent.length = 181 ∧ s.eventContent.length = 163) ∧
  (∀ s : State,
      s.stationContent.extract 0 30 =
        (if s.control.stationMark = true then s.station.bytes else List.replicate 30 0xFF) ∧
      byteAt s.stationContent 30 = (if s.control.stationMark = true then 1 else 0) ∧
      (∀ k : Fin 4, (byteAt s.stationContent 31).testBit k = s.dispatcher.flags[k]) ∧
      byteAt s.stationContent 31 < 16 ∧ byteAt s.stationContent 32 = s.link.lineRate.code) ∧
  (∀ (i : Nat) (j : Joint), i < 65536 → j.identity.Valid → (∀ p ∈ j.corrected, p < 4294967295) → j.reworks ≤ 3 →
      (∀ d ∈ j.result.entry, d < 65535) → (∀ d ∈ j.result.exit, d < 65535) → (∀ d ∈ j.result.grip, d < 65535) →
      (∀ n ∈ j.result.layers, n ≤ 8) → (∀ n ∈ j.result.peckCount, n < 65535) →
      (∀ l ∈ j.result.boundaries, l.length ≤ 7 ∧ ∀ d ∈ l, d < 65536) →
      (∀ w ∈ j.result.setWork, InSixteen w) → (∀ w ∈ j.result.peakForce, InSixteen w) →
        u16At (j.content i) 0 = i ∧ (j.content i).extract 2 14 = j.identity.bytes ∧
        byteAt (j.content i) 14 = j.state.code ∧ u32At (j.content i) 15 = j.corrected.getD 4294967295 ∧
        byteAt (j.content i) 19 = (j.head.map Fin.val).getD 255 ∧
        byteAt (j.content i) 20 = (j.phaseAtEnd.map HeadState.code).getD 255 ∧
        byteAt (j.content i) 21 = (j.rejection.map (fun r => r.reason.code)).getD 255 ∧
        byteAt (j.content i) 22 = (j.rejection.map (fun r => if r.reworkable then 1 else 0)).getD 255 ∧
        byteAt (j.content i) 23 = j.reworks ∧ byteAt (j.content i) 24 = (j.pocket.map Fin.val).getD 255 ∧
        u16At (j.content i) 25 = j.result.entry.getD 65535 ∧ u16At (j.content i) 27 = j.result.exit.getD 65535 ∧
        u16At (j.content i) 29 = j.result.grip.getD 65535 ∧ byteAt (j.content i) 31 = j.result.layers.getD 255 ∧
        byteAt (j.content i) 32 = (j.result.boundaries.map List.length).getD 255 ∧
        (∀ k, k < 7 → u16At (j.content i) (33 + 2 * k) = (j.result.boundaries.getD []).getD k 0) ∧
        u16At (j.content i) 47 = j.result.peckCount.getD 65535 ∧
        byteAt (j.content i) 49 = (j.result.code.map Fin.val).getD 255 ∧
        s16At (j.content i) 50 = j.result.setWork.getD 0 ∧ s16At (j.content i) 52 = j.result.peakForce.getD 0 ∧
        byteAt (j.content i) 54 = (if j.result.saturated then 1 else 0) + (if j.result.overflow then 2 else 0) +
          (if j.result.setWork.isSome then 4 else 0)) ∧
  (∀ s : State, s.table.joints.length < 65536 → s.link.requests.length < 256 → s.link.frameErrors < 65536 →
      s.link.overruns < 65536 →
        byteAt s.statusContent 0 = s.mode.code ∧ byteAt s.statusContent 1 = (if s.mode.busy then 1 else 0) ∧
        (∀ d : Directive, (byteAt s.statusContent 2).testBit (d.kindCode - 0x61) =
          decide (d ∈ s.control.pendingSet)) ∧
        byteAt s.statusContent 3 = (s.table.currentPass.map Fin.val).getD 255 ∧
        (∀ st : JointState, u16At s.statusContent (4 + 2 * st.code) =
          s.table.joints.countP (fun j => j.state == st)) ∧
        (∀ h : HeadNo, byteAt s.statusContent (22 + h.val) = (s.head h).state.code) ∧
        byteAt s.statusContent 26 = s.link.requests.length ∧ u16At s.statusContent 27 = s.link.frameErrors ∧
        u16At s.statusContent 29 = s.link.overruns ∧ u32At s.statusContent 31 = s.time.toNat) ∧
  (∀ (s : State) (h : HeadNo) (x : Head) (l : List Byte), x = s.head h → l = s.headContent h →
      (∀ i ∈ x.held, i < 65535) → (∀ p ∈ x.position, p < 4294967295) → (∀ p ∈ x.target, p < 4294967295) →
      x.active.a < 65536 → x.active.b < 65536 → (∀ q ∈ x.buffered, q.a < 65536 ∧ q.b < 65536) → x.deepest < 65536 →
      x.peckStart < 65536 → x.peckCounter < 65536 → (∀ n ∈ x.phaseTimer, n < 65535) →
      (∀ n, x.rivetWait = .counting n ∨ x.rivetWait = .paused n → n ≤ 6553400) →
      (∀ f ∈ x.fault, ∀ i ∈ f.joint, i < 65535) → (∀ c ∈ s.claim h, c.lo < 4294967295 ∧ c.hi < 4294967295) →
      s.signature.drillQueue.length ≤ 4 → s.arbiter.queue.length ≤ 4 →
        byteAt l 0 = h.val ∧ byteAt l 1 = x.state.code ∧ byteAt l 2 = (x.subPhase.map SubPhase.code).getD 255 ∧
        u16At l 3 = x.held.getD 65535 ∧ u32At l 5 = x.position.getD 4294967295 ∧
        u32At l 9 = x.target.getD 4294967295 ∧ byteAt l 13 = (x.outcome.map HeadOutcome.code).getD 255 ∧
        u16At l 14 = x.active.a ∧ u16At l 16 = x.active.b ∧ byteAt l 18 = (if x.buffered.isSome then 1 else 0) ∧
        u16At l 19 = (x.buffered.map PeckProfile.a).getD 65535 ∧
        u16At l 21 = (x.buffered.map PeckProfile.b).getD 65535 ∧ u16At l 23 = x.deepest ∧ u16At l 25 = x.peckStart ∧
        u16At l 27 = x.peckCounter ∧ byteAt l 29 = (x.rate.map FeedRate.code).getD 255 ∧
        u16At l 30 = x.phaseTimer.getD 65535 ∧
        (u16At l 32, byteAt l 34) = (match x.rivetWait with
          | .stopped => (65535, 0)
          | .counting n => ((n + 99) / 100, 1)
          | .paused n => ((n + 99) / 100, 2)) ∧
        (x.fault = none → l.extract 35 45 = List.replicate 10 0) ∧
        (∀ f, x.fault = some f → byteAt l 35 = 1 ∧
          (byteAt l 36, byteAt l 37) = (match f.cause with
            | .drive code => (0, code.toNat)
            | .timeout phase => (1, phase.code)) ∧
          byteAt l 38 = f.phase.code ∧ u16At l 39 = f.joint.getD 65535 ∧ u32At l 41 = f.time.toNat) ∧
        byteAt l 45 = (if (s.claim h).isSome then 1 else 0) ∧
        u32At l 46 = ((s.claim h).map Claim.lo).getD 4294967295 ∧
        u32At l 50 = ((s.claim h).map Claim.hi).getD 4294967295 ∧
        byteAt l 54 = (if (s.channel 0).holder = some h then 0 else if (s.channel 1).holder = some h then 1 else 255) ∧
        byteAt l 55 = (s.signature.drillQueue.idxOf? h).getD 255 ∧
        byteAt l 56 = (((x.held.bind s.joint?).bind Joint.pocket).map Fin.val).getD 255 ∧
        byteAt l 57 = (if (s.permit 0).any (fun g => g.holder == h) then 0
          else if (s.permit 1).any (fun g => g.holder == h) then 1 else 255) ∧
        byteAt l 58 = (s.arbiter.queue.idxOf? h).getD 255) ∧
  (∀ (s : State) (n : ChannelNo) (c : Channel) (l : List Byte), c = s.channel n → l = s.channelContent n →
      c.InRange → c.Reaches → (∀ i ∈ c.joint, i < 65535) → s.signature.drillQueue.length ≤ 2 →
        byteAt l 0 = n.val ∧ byteAt l 1 = (if c.holder.isSome then 1 else 0) ∧
        byteAt l 2 = (c.holder.map Fin.val).getD 255 ∧ byteAt l 3 = (c.lastHolder.map Fin.val).getD 255 ∧
        u16At l 4 = c.joint.getD 65535 ∧ (∀ k : Fin 16, s16At l (6 + 2 * k.val) = c.ring[k]) ∧
        byteAt l 38 = c.writeIndex.val ∧ u16At l 39 = c.sampleCount ∧
        ((byteAt l 41 * 4294967296 + u32At l 42 : Nat) : Int) = c.accumulator % 1099511627776 ∧
        byteAt l 46 = (if c.mv then 1 else 0) + (if c.ev then 2 else 0) ∧ byteAt l 47 = c.machine.code ∧
        (∀ (b : Nat) (present : Bool), (b, present) ∈ [(0, c.lastOutput.isSome), (1, c.lastDepth.isSome),
          (2, c.peak.isSome), (3, c.valley.isSome), (4, c.runStart.isSome), (5, c.entry.isSome),
          (6, c.layers.isSome), (7, c.exit.isSome), (8, c.ending.isSome), (9, c.peakForce.isSome),
          (10, c.lastStroke.isSome), (11, c.setWork.isSome)] → (u16At l 48).testBit b = present) ∧
        u16At l 48 < 4096 ∧ s16At l 50 = c.lastOutput.getD 0 ∧ s16At l 52 = c.lastDepth.getD 0 ∧
        s16At l 54 = c.peak.getD 0 ∧ s16At l 56 = c.valley.getD 0 ∧ u16At l 58 = c.valleyDepth.getD 0 ∧
        byteAt l 60 = c.runCount ∧ u16At l 61 = c.runStart.getD 0 ∧ u16At l 63 = c.entry.getD 0 ∧
        byteAt l 65 = c.layers.getD 0 ∧ byteAt l 66 = c.boundaries.length ∧
        (∀ k, k < 7 → u16At l (67 + 2 * k) = c.boundaries.getD k 0) ∧ u16At l 81 = c.exit.getD 0 ∧
        byteAt l 83 = (c.ending.map Ending.code).getD 0 ∧
        (n.val < 2 → byteAt l 84 = s.signature.drillQueue.length ∧
          ∀ k, k < 2 → byteAt l (85 + k) = (s.signature.drillQueue[k]?.map Fin.val).getD 255) ∧
        (2 ≤ n.val → s16At l 84 = c.peakForce.getD 0 ∧ u16At l 86 = c.lastStroke.getD 0 ∧
          s16At l 88 = c.setWork.getD 0)) ∧
  (∀ s : State, (∀ p, ∀ n ∈ (s.pocket p).timer, n < 65535 ∨ n ≤ 6553400 ∧ (s.pocket p).portTimer = none) →
      (∀ p, ∀ i ∈ (s.pocket p).owner?, i < 65535) → s.heater.orders.length ≤ 8 →
      (∀ o ∈ s.heater.orders, o.joint < 65536) → (∀ c : RivetCode, s.heater.magazines[c] < 65536) →
        (∀ p : PocketNo, byteAt s.heaterContent (14 * p.val) = (s.pocket p).stateCode ∧
          byteAt s.heaterContent (14 * p.val + 1) = ((s.pocket p).code?.map Fin.val).getD 255 ∧
          u16At s.heaterContent (14 * p.val + 2) = (s.pocket p).owner?.getD 65535 ∧
          (u16At s.heaterContent (14 * p.val + 4), u16At s.heaterContent (14 * p.val + 6),
              u16At s.heaterContent (14 * p.val + 8), u32At s.heaterContent (14 * p.val + 10)) =
            (match s.pocket p with
            | .loading _ _ t => (t, 65535, 65535, 0)
            | .ejecting _ t => (t, 65535, 65535, 0)
            | .heating _ _ t => (65535, (t + 99) / 100, 65535, 0)
            | .ready _ _ t st => (65535, 65535, (t + 99) / 100, st.toNat)
            | .empty => (65535, 65535, 65535, 0)
            | .disabled => (65535, 65535, 65535, 0))) ∧
        byteAt s.heaterContent 84 = s.heater.orders.length ∧
        (∀ (k : Nat) (o : HeatOrder), s.heater.orders[k]? = some o →
          byteAt s.heaterContent (85 + 4 * k) = o.cls.code ∧ byteAt s.heaterContent (86 + 4 * k) = o.code.val ∧
          u16At s.heaterContent (87 + 4 * k) = o.joint) ∧
        (∀ k, s.heater.orders.length ≤ k → k < 8 → u32At s.heaterContent (85 + 4 * k) = 4294967295) ∧
        ∀ c : RivetCode, u16At s.heaterContent (117 + 2 * c.val) = s.heater.magazines[c]) ∧
  (∀ s : State, (∀ k, ∀ r ∈ (s.latch k).held, r.subject < 65536 ∧ r.count < 256) → s.reports.queue.length ≤ 8 →
      s.reports.queue.Nodup →
        (∀ k : EventKind, byteAt s.eventContent (11 * k.index.val) =
            (match (s.latch k).held.map Held.place with
            | none => 0
            | some .heldBack => 1
            | some .queued => 2
            | some .sent => 3) ∧
          byteAt s.eventContent (11 * k.index.val + 1) = (if (s.latch k).enabled then 1 else 0) ∧
          byteAt s.eventContent (11 * k.index.val + 2) = (s.latch k).priority.val ∧
          u16At s.eventContent (11 * k.index.val + 3) = ((s.latch k).held.map Held.subject).getD 0 ∧
          u32At s.eventContent (11 * k.index.val + 5) = ((s.latch k).held.map (fun r => r.first.toNat)).getD 0 ∧
          byteAt s.eventContent (11 * k.index.val + 9) = ((s.latch k).held.map (fun r => r.mode.code)).getD 0 ∧
          byteAt s.eventContent (11 * k.index.val + 10) = ((s.latch k).held.map Held.count).getD 0) ∧
        byteAt s.eventContent 154 = s.reports.queue.length ∧
        ∃ q : List EventKind, q.Perm s.reports.queue ∧ q.Pairwise s.RanksBefore ∧
          ∀ k, k < 8 → byteAt s.eventContent (155 + k) = (q[k]?.map (fun e => e.index.val)).getD 255)

/-- Tables 10-3 and 10-4. What the host writes in a payload is what the part reads from it: for every joint identity,
station setting, filter setting, rivet table entry and rivet class within range, decoding the bytes gives it back.
R10, R100, R192. A joint load record or rivet table entry that decodes is one within range, written as the host writes it
(a tolerance beside an absent grip is not decoded). -/
def Obligations.PayloadsRoundTrip : Prop :=
  (∀ d : JointIdentity, d.Valid → d.bytes.length = 12 ∧ loadRecord d.bytes = some d) ∧
    (∀ t : StationSettings, t.valid = true → t.bytes.length = 30 ∧ settingsOf t.bytes = t) ∧
    (∀ f : FilterSettings, f.InRange →
      f.bytes.length = 14 + 2 * f.taps.length ∧ byteAt f.bytes 0 = f.taps.length ∧
        filterOf f.taps.length f.bytes = f) ∧
    (∀ e : RivetEntry, e.Valid → e.bytes.length = 6 ∧ entryOf e.bytes = some e) ∧
    (∀ (p : List Byte) (d : JointIdentity), p.length = 12 → loadRecord p = some d →
      d.Valid ∧ p.extract 0 9 = d.bytes.extract 0 9 ∧ byteAt p 11 = byteAt d.bytes 11 ∧
        (d.expectedGrip ≠ none → p = d.bytes)) ∧
    (∀ (p : List Byte) (e : RivetEntry), p.length = 6 → entryOf p = some e → e.Valid ∧ p = e.bytes) ∧
    (∀ (code : RivetCode) (c : RivetClass), c.InRange →
      (definePayload code c).length = 12 ∧ byteAt (definePayload code c) 0 = code.val ∧
        classOf (definePayload code c) = c)

/-! ## The joint table's requests (R9 to R17) -/

/-- R9, R10. A batch of one to nineteen records within range, with ids that neither the table nor the batch carries
twice, is appended in batch order where it fits; the reply carries the first index given and the new record count.
R9, R10. A batch of another length is answered BAD_LENGTH; a batch whose first failing record follows `ds.length`
good ones is answered BAD_FIELD with that batch position, a record failing by its fields, by an id the table carries,
or by an id of an earlier record of the batch. Nothing is appended. -/
def Obligations.JointLoadTaken : Prop :=
  (∀ (s : State) (tag : Byte) (ds : List JointIdentity), s.Ready → s.mode = .setup → 1 ≤ ds.length →
      ds.length ≤ 19 → (∀ d ∈ ds, d.Valid) → (ds.map (·.id)).Nodup →
      (∀ d ∈ ds, ∀ j ∈ s.table.joints, j.identity.id ≠ d.id) →
        (s.table.joints.length + ds.length ≤ 1024 →
          exec (.jointLoad tag (ds.flatMap JointIdentity.bytes)) s =
            .next (State.withReply
              { s.cleared with table := { s.table with
                  joints := s.table.joints ++ ds.map JointIdentity.loaded
                  currentPass := currentPassOf (s.table.joints ++ ds.map JointIdentity.loaded) } }
              ⟨0x01, tag, .ok, b16 s.table.joints.length ++ b16 (s.table.joints.length + ds.length)⟩)) ∧
        (1024 < s.table.joints.length + ds.length →
          exec (.jointLoad tag (ds.flatMap JointIdentity.bytes)) s =
            .next (s.cleared.withReply ⟨0x01, tag, .full, []⟩))) ∧
  (∀ (s : State) (tag : Byte), s.Ready → s.mode = .setup →
      (∀ p : List Byte, p.length = 0 ∨ p.length % 12 ≠ 0 ∨ 228 < p.length →
        exec (.jointLoad tag p) s = .next (s.cleared.withReply ⟨0x01, tag, .badLength, []⟩)) ∧
      (∀ (ds : List JointIdentity) (bad rest : List Byte), (∀ d ∈ ds, d.Valid) → (ds.map (·.id)).Nodup →
        (∀ d ∈ ds, ∀ j ∈ s.table.joints, j.identity.id ≠ d.id) → bad.length = 12 → rest.length % 12 = 0 →
        12 * ds.length + 12 + rest.length ≤ 228 →
        (∀ d : JointIdentity, loadRecord bad = some d →
          (∃ j ∈ s.table.joints, j.identity.id = d.id) ∨ ∃ e ∈ ds, e.id = d.id) →
        exec (.jointLoad tag (ds.flatMap JointIdentity.bytes ++ bad ++ rest)) s =
          .next (s.cleared.withReply ⟨0x01, tag, .badField, b8 ds.length⟩)))

/-- R14. JOINT_SKIP turns a PENDING or REJECTED joint into SKIPPED, whose reason becomes absent, and the current pass is
recomputed; a joint in any other state is refused with WRONG_STATE and an index not in use with NOT_FOUND. Outside
RUNNING and DRAINING nothing else follows.
R14, R20 to R22, R155. A JOINT_SKIP in RUNNING skips the joint and recomputes the current pass, with the reports of
R21 and R22; where the current pass changes to absent the mode returns to ARMED with PROGRAM_COMPLETE, and where it
changes to another pass a dispatch round follows. PROGRAM_COMPLETE is posted after ARMED is entered, so its record
carries ARMED (the model's choice, log entry 16), and a pass that is blocked before and after the change posts nothing
(log entry 19).
R14, R154. In DRAINING the skip changes the table alone while a joint is in work, and ends the drain in ARMED where none
is.
R21. In RUNNING a rise of the current pass posts PASS_ADVANCED with the pass reached; any other change, and any change in
another mode, posts nothing.
R22. The pass is blocked in RUNNING where no joint of the table is in work, every joint of the current pass is COMPLETE,
REJECTED or SKIPPED, and one of them is REJECTED with key; PASS_BLOCKED is posted where that holds after a change and did
not before, with the lowest index of such a joint. -/
def Obligations.JointSkipTaken : Prop :=
  (∀ (s : State) (tag : Byte) (i : Nat), s.Ready → s.mode ≠ .aborted → i < 65536 →
      (∀ j : Joint, s.joint? i = some j → j.state = .pending ∨ j.state = .rejected → s.mode ≠ .running →
        s.mode ≠ .draining →
        exec (.jointSkip tag (b16 i)) s =
          .next (State.withReply { s.cleared with table := { s.table with
              joints := s.table.joints.set i { j with state := .skipped, rejection := none }
              currentPass :=
                currentPassOf (s.table.joints.set i { j with state := .skipped, rejection := none }) } }
            ⟨0x05, tag, .ok, []⟩)) ∧
      (∀ j : Joint, s.joint? i = some j → j.state ≠ .pending → j.state ≠ .rejected →
        exec (.jointSkip tag (b16 i)) s = .next (s.cleared.withReply ⟨0x05, tag, .wrongState, []⟩)) ∧
      (s.joint? i = none →
        exec (.jointSkip tag (b16 i)) s = .next (s.cleared.withReply ⟨0x05, tag, .notFound, []⟩))) ∧
  (∀ (s u : State) (tag : Byte) (i : Nat) (j : Joint), s.Ready → s.mode = .running → i < 65536 →
      s.joint? i = some j → j.state = .pending ∨ j.state = .rejected →
      u = { s.cleared with table := { s.table with
              joints := s.table.joints.set i { j with state := .skipped, rejection := none }
              currentPass := currentPassOf (s.table.joints.set i { j with state := .skipped, rejection := none }) } } →
        (u.table.currentPass = s.table.currentPass →
          exec (.jointSkip tag (b16 i)) s =
            .next ((u.postBlocked s.blockedBy.isSome).withReply ⟨0x05, tag, .ok, []⟩)) ∧
        (u.table.currentPass = none → s.table.currentPass ≠ none →
          exec (.jointSkip tag (b16 i)) s =
            .next (State.withReply
              ((State.post { u with control := { u.control with mode := .armed, inProgress := none } }
                .modeChanged 2).post .programComplete (u.table.joints.countP (fun x => x.state == .complete)))
              ⟨0x05, tag, .ok, []⟩)) ∧
        (∀ p, u.table.currentPass = some p → s.table.currentPass ≠ some p →
          exec (.jointSkip tag (b16 i)) s =
            .next (State.withReply
              (((u.postAdvance s.table.currentPass).postBlocked s.blockedBy.isSome).round)
              ⟨0x05, tag, .ok, []⟩))) ∧
  (∀ (s u : State) (tag : Byte) (i : Nat) (j : Joint), s.Ready → s.mode = .draining → s.control.pendingSet = [] →
      i < 65536 → s.joint? i = some j → j.state = .pending ∨ j.state = .rejected →
      u = { s.cleared with table := { s.table with
              joints := s.table.joints.set i { j with state := .skipped, rejection := none }
              currentPass := currentPassOf (s.table.joints.set i { j with state := .skipped, rejection := none }) } } →
        exec (.jointSkip tag (b16 i)) s =
          .next (State.withReply
            (if ∃ y ∈ s.table.joints, y.state.inWork = true then u else
              State.post { u with control := { u.control with mode := .armed, inProgress := none } } .modeChanged 2)
            ⟨0x05, tag, .ok, []⟩)) ∧
  (∀ (s : State) (old : Option Pass),
      (∀ a b, old = some a → s.table.currentPass = some b → s.mode = .running → a < b →
        s.postAdvance old = s.post .passAdvanced b.val) ∧
      ((∀ a b, old = some a → s.table.currentPass = some b → s.mode = .running → b ≤ a) → s.postAdvance old = s)) ∧
  (∀ (s : State) (i : Nat), s.blockedBy = some i ↔ s.mode = .running ∧
      (∀ j ∈ s.table.joints, j.state ∉ [JointState.assigned, .drilling, .drilled, .setting]) ∧
      ∃ p, s.table.currentPass = some p ∧
        (∀ j ∈ s.table.joints, j.identity.pass = p → j.state ∈ [JointState.complete, .rejected, .skipped]) ∧
        (∃ j, s.joint? i = some j ∧ j.identity.pass = p ∧ j.state = .rejected ∧ j.identity.key = true) ∧
        ∀ i' j', i' < i → s.joint? i' = some j' →
          ¬ (j'.identity.pass = p ∧ j'.state = .rejected ∧ j'.identity.key = true)) ∧
  (∀ s : State,
      (∀ i, s.blockedBy = some i → s.postBlocked false = s.post .passBlocked i) ∧
      (s.blockedBy = none → s.postBlocked false = s) ∧ s.postBlocked true = s)

/-- R15, R16. In SETUP and ARMED, JOINT_REWORK returns a REJECTED joint with a reworkable reason to PENDING with its
rework count raised and its working fields and result cleared; in ARMED an absent corrected position is computed first.
A joint that is not so rejected, or whose position lies outside the rail, is refused with NOT_REWORKABLE, and one
reworked three times with REWORK_LIMIT.
R11, R17. In SETUP, JOINT_CLEAR empties the table, and DATUM_SET replaces the correction of one zone within its
range and is refused with BAD_FIELD outside it. -/
def Obligations.TableAndReworkTaken : Prop :=
  (∀ (s : State) (tag : Byte) (i : Nat), s.Ready → s.mode = .setup ∨ s.mode = .armed → i < 65536 →
      (∀ (j : Joint) (r : Reason) (c : Option Nat), s.joint? i = some j → j.state = .rejected →
        j.rejection = some ⟨r, true⟩ → j.reworks < 3 →
        (c = j.corrected ∧ (s.mode = .setup ∨ j.corrected ≠ none) ∨
          s.mode = .armed ∧ j.corrected = none ∧
            ∃ x, c = some x ∧ (x : Int) = (j.identity.zone.val * 65536 + j.identity.offset : Nat) +
              s.table.datum[j.identity.zone] ∧ x ≤ s.station.railLength) →
        exec (.jointRework tag (b16 i)) s =
          .next (State.withReply { s.cleared with table := { s.table with
              joints := s.table.joints.set i
                { j with state := .pending, reworks := j.reworks + 1, rejection := none, head := none,
                         phaseAtEnd := none, result := .none, corrected := c }
              currentPass := currentPassOf (s.table.joints.set i
                { j with state := .pending, reworks := j.reworks + 1, rejection := none, head := none,
                         phaseAtEnd := none, result := .none, corrected := c }) } }
            ⟨0x06, tag, .ok, []⟩)) ∧
      (∀ j : Joint, s.joint? i = some j → j.state ≠ .rejected ∨ (∀ r ∈ j.rejection, r.reworkable = false) →
        exec (.jointRework tag (b16 i)) s = .next (s.cleared.withReply ⟨0x06, tag, .notReworkable, []⟩)) ∧
      (∀ (j : Joint) (r : Reason), s.joint? i = some j → j.state = .rejected → j.rejection = some ⟨r, true⟩ →
        3 ≤ j.reworks →
        exec (.jointRework tag (b16 i)) s = .next (s.cleared.withReply ⟨0x06, tag, .reworkLimit, []⟩)) ∧
      (∀ (j : Joint) (r : Reason), s.joint? i = some j → j.state = .rejected → j.rejection = some ⟨r, true⟩ →
        j.reworks < 3 → s.mode = .armed → j.corrected = none →
        (((j.identity.zone.val * 65536 + j.identity.offset : Nat) : Int) + s.table.datum[j.identity.zone] < 0 ∨
          (s.station.railLength : Int) <
            (j.identity.zone.val * 65536 + j.identity.offset : Nat) + s.table.datum[j.identity.zone]) →
        exec (.jointRework tag (b16 i)) s = .next (s.cleared.withReply ⟨0x06, tag, .notReworkable, []⟩))) ∧
  (∀ (s : State) (tag : Byte), s.Ready → s.mode = .setup →
      exec (.jointClear tag []) s =
        .next (State.withReply { s.cleared with table := { s.table with joints := [], currentPass := none } }
          ⟨0x02, tag, .ok, []⟩) ∧
      (∀ (z : Zone) (x : Int), -2000 ≤ x → x ≤ 2000 →
        exec (.datumSet tag (b8 z.val ++ bs16 x)) s =
          .next (State.withReply { s.cleared with table := { s.table with datum := s.table.datum.set z x } }
            ⟨0x07, tag, .ok, []⟩)) ∧
      (∀ (n : Nat) (x : Int), n < 256 → InSixteen x → 16 ≤ n ∨ x < -2000 ∨ 2000 < x →
        exec (.datumSet tag (b8 n ++ bs16 x)) s = .next (s.cleared.withReply ⟨0x07, tag, .badField, []⟩)))

/-! ## The station's requests (R38, R159, R184) -/

/-- R184, R30, R67. In SETUP, STATION_SET with every setting in range takes the settings and sets the station mark, and
every claim and position becomes absent; every head that is not OFFLINE is PARKED, a homing one first being sent STOP.
A setting out of the ranges of R184, or a C above L, is refused with BAD_FIELD. -/
def Obligations.StationSetTakes : Prop :=
  (∀ t : StationSettings, t.valid = true ↔
    10000 ≤ t.railLength ∧ t.railLength ≤ 1048575 ∧ 10000 ≤ t.clearance ∧ t.clearance ≤ 150000 ∧
      t.clearance ≤ t.railLength ∧
      (∀ n ∈ [t.homeTime, t.travelTime, t.clampTime, t.drillTime, t.retractTime, t.feedTime, t.setTime, t.releaseTime],
        1 ≤ n ∧ n ≤ 60000) ∧
      (∀ n ∈ [t.loadTime, t.ejectTime], 1000 ≤ n ∧ n ≤ 20000) ∧ 10 ≤ t.rivetWaitLimit ∧ t.rivetWaitLimit ≤ 6000) ∧
  ∀ (s : State) (tag : Byte) (t : StationSettings), s.Ready → s.mode = .setup → t.railLength < 4294967296 →
    t.clearance < 4294967296 →
    (t.valid = true →
      exec (.stationSet tag t.bytes) s =
        .next (State.withReply
          { s.cleared with
            link := { s.link with settings := some t }
            control := { s.control with stationMark := true }
            dispatcher := { s.dispatcher with claims := Vector.replicate 4 none }
            heads := s.heads.map (fun x =>
              if x.state = .offline then { x with position := none }
              else { x with state := .parked, phaseTimer := none, order := none, position := none })
            outgoing := (headNos.filter (fun h => (s.head h).state == .homing)).map (fun h => .drive h .stop) }
          ⟨0x11, tag, .ok, []⟩)) ∧
    (t.valid = false → t.homeTime < 65536 → t.travelTime < 65536 → t.clampTime < 65536 → t.drillTime < 65536 →
      t.retractTime < 65536 → t.feedTime < 65536 → t.setTime < 65536 → t.releaseTime < 65536 → t.loadTime < 65536 →
      t.ejectTime < 65536 → t.rivetWaitLimit < 65536 →
      exec (.stationSet tag t.bytes) s = .next (s.cleared.withReply ⟨0x11, tag, .badField, []⟩))

/-- R38, R32. PERMISSIVE_SET sets or clears each flag its mask names and leaves the others; the reply carries the four
flags. Outside RUNNING, or where no flag changes, nothing else follows; a change in RUNNING starts a dispatch round.
A mask or value beyond flag 3 is refused with BAD_FIELD.
R159. In SETUP and ABORTED, RESTART sets the restart mark and replies OK while no pocket is EJECTING, and is refused
with BUSY while one is. -/
def Obligations.FlagsAndRestartTaken : Prop :=
  (∀ (s : State) (tag : Byte) (m v : Nat) (f : Vector Bool 4), s.Ready → m < 256 → v < 256 →
      (m < 16 → v < 16 → (∀ k : Fin 4, f[k] = if m.testBit k then v.testBit k else s.dispatcher.flags[k]) →
        (s.mode ≠ .running ∨ f = s.dispatcher.flags →
          exec (.permissiveSet tag (b8 m ++ b8 v)) s =
            .next (State.withReply { s.cleared with dispatcher := { s.dispatcher with flags := f } }
              ⟨0x13, tag, .ok, b8 (flagsByte f)⟩)) ∧
        (s.mode = .running → f ≠ s.dispatcher.flags →
          exec (.permissiveSet tag (b8 m ++ b8 v)) s =
            .next (State.withReply
              (State.round { s.cleared with dispatcher := { s.dispatcher with flags := f } })
              ⟨0x13, tag, .ok, b8 (flagsByte f)⟩))) ∧
      (16 ≤ m ∨ 16 ≤ v →
        exec (.permissiveSet tag (b8 m ++ b8 v)) s = .next (s.cleared.withReply ⟨0x13, tag, .badField, []⟩))) ∧
  (∀ f : Vector Bool 4, flagsByte f < 16 ∧ ∀ k : Fin 4, (flagsByte f).testBit k = f[k]) ∧
  (∀ (s : State) (tag : Byte), s.Ready → s.mode = .setup ∨ s.mode = .aborted →
      ((∀ p c t, s.pocket p ≠ .ejecting c t) →
        exec (.restart tag []) s =
          .next (State.withReply { s.cleared with control := { s.control with restartMark := true } }
            ⟨0x15, tag, .ok, []⟩)) ∧
      (∀ p c t, s.pocket p = .ejecting c t →
        exec (.restart tag []) s = .next (s.cleared.withReply ⟨0x15, tag, .busy, []⟩)))

/-! ## The heads' requests (R49, R64, R65) -/

/-- R65, R63, R28. HEAD_ENABLE takes a head in OFFLINE and HEAD_RESET a head in FAULT: in SETUP it stands PARKED; in
ARMED, HOLDING, HELD and DRAINING it goes on into HOMING, and in RUNNING a dispatch round follows. The reply carries its
state. A head in any other state is refused with WRONG_STATE.
R64, R59. HEAD_DISABLE, in every mode, takes a head in IDLE, PARKED or FAULT OFFLINE, which completes a hold that
waited for that head alone; a head in any other state is refused with WRONG_STATE. -/
def Obligations.HeadServiceTaken : Prop :=
  (∀ (s : State) (tag : Byte) (h : HeadNo) (c : Instr) (kind : Byte) (from' : HeadState), s.Ready →
      (c = .headEnable tag (b8 h.val) ∧ kind = 0x22 ∧ from' = .offline ∨
        c = .headReset tag (b8 h.val) ∧ kind = 0x24 ∧ from' = .fault) →
      s.mode ≠ .arming → s.mode ≠ .aborted →
        ((s.head h).state ≠ from' → exec c s = .next (s.cleared.withReply ⟨kind, tag, .wrongState, []⟩)) ∧
        ((s.head h).state = from' → s.mode = .setup →
          exec c s = .next ((s.cleared.setHead h (s.head h).inPark).withReply ⟨kind, tag, .ok, b8 0⟩)) ∧
        (∀ u : State, (s.head h).state = from' → s.mode ≠ .setup →
          u = { (s.cleared.setHead h ((s.head h).inPark.inHoming s.station.homeTime)).setClaim h
                  (some (s.claimHome h)) with outgoing := [.drive h .home] } →
          exec c s = .next (State.withReply (if s.mode = .running then u.round else u) ⟨kind, tag, .ok, b8 1⟩))) ∧
  (∀ (s u : State) (tag : Byte) (h : HeadNo), s.Ready → s.control.pendingSet = [] →
      u = s.cleared.setHead h { s.head h with state := .offline, order := none } →
        ((s.head h).state = .idle ∨ (s.head h).state = .parked ∨ (s.head h).state = .fault →
          ((s.mode ≠ .holding ∨ ∃ g, g ≠ h ∧ (s.head g).state.atRest = false) →
            exec (.headDisable tag (b8 h.val)) s = .next (u.withReply ⟨0x23, tag, .ok, []⟩)) ∧
          (s.mode = .holding → (∀ g, g ≠ h → (s.head g).state.atRest = true) →
            exec (.headDisable tag (b8 h.val)) s =
              .next (State.withReply (State.post { u with control := { u.control with mode := .held, inProgress := none } }
                .modeChanged 5) ⟨0x23, tag, .ok, []⟩))) ∧
        ((s.head h).state ≠ .idle → (s.head h).state ≠ .parked → (s.head h).state ≠ .fault →
          exec (.headDisable tag (b8 h.val)) s = .next (s.cleared.withReply ⟨0x23, tag, .wrongState, []⟩)))

/-- R49, R50. PECK_SET writes the profile into the buffer of a head in DRILL and into the active profile of any other,
whose buffer is emptied; the reply carries both. B of 0 gives (0, 0) whatever A is; a B above 2,000, or an A not below
B, or a head above H3, is refused with BAD_FIELD; in ABORTED every PECK_SET is refused with WRONG_MODE. -/
def Obligations.PeckSetTakes : Prop :=
  ∀ (s : State) (tag : Byte) (h : HeadNo) (a b : Nat) (q : PeckProfile), s.Ready → a < 65536 → b < 65536 →
    (s.mode = .aborted → ∀ p : List Byte,
      exec (.peckSet tag p) s = .next (s.cleared.withReply ⟨0x25, tag, .wrongMode, []⟩)) ∧
    (s.mode ≠ .aborted →
      ((b = 0 ∧ q = ⟨0, 0⟩ ∨ 0 < b ∧ b ≤ 2000 ∧ a < b ∧ q = ⟨a, b⟩) →
        ((s.head h).state = .drill →
          exec (.peckSet tag (b8 h.val ++ b16 a ++ b16 b)) s =
            .next ((s.cleared.setHead h { s.head h with buffered := some q }).withReply
              ⟨0x25, tag, .ok, b16 (s.head h).active.a ++ b16 (s.head h).active.b ++ b16 q.a ++ b16 q.b⟩)) ∧
        ((s.head h).state ≠ .drill →
          exec (.peckSet tag (b8 h.val ++ b16 a ++ b16 b)) s =
            .next ((s.cleared.setHead h { s.head h with active := q, buffered := none }).withReply
              ⟨0x25, tag, .ok, b16 q.a ++ b16 q.b ++ [0xFF, 0xFF, 0xFF, 0xFF]⟩))) ∧
      (2000 < b ∨ 0 < b ∧ b ≤ a →
        exec (.peckSet tag (b8 h.val ++ b16 a ++ b16 b)) s =
          .next (s.cleared.withReply ⟨0x25, tag, .badField, []⟩)) ∧
      (∀ n : Nat, 4 ≤ n → n < 256 → exec (.peckSet tag (b8 n ++ b16 a ++ b16 b)) s =
        .next (s.cleared.withReply ⟨0x25, tag, .badField, []⟩)))

/-! ## The settings of the signature unit and the heater (R96, R100 to R102) -/

/-- R96. In SETUP and ARMED, FILTER_SET takes settings within range; a tap count outside 1 to 16 is refused with
BAD_FIELD before the length is judged, another length with BAD_LENGTH, and a setting out of the ranges of R95 with BAD_FIELD. -/
def Obligations.FilterSetTakes : Prop :=
  (∀ f : FilterSettings, f.valid = true ↔
    1 ≤ f.engage ∧ f.engage ≤ 32767 ∧ 1 ≤ f.dropRatio ∧ f.dropRatio ≤ 32767 ∧ 1 ≤ f.rebound ∧ f.rebound ≤ 32767 ∧
      f.exitLevel ≤ 32766 ∧ f.exitLevel < f.engage ∧ 1 ≤ f.confirm ∧ f.confirm ≤ 64 ∧ 100 ≤ f.depthLimit ∧
      f.depthLimit ≤ 20000 ∧ 1 ≤ f.setWeight ∧ f.setWeight ≤ 32767) ∧
  ∀ (s : State) (tag : Byte), s.Ready → s.mode = .setup ∨ s.mode = .armed →
    (∀ f : FilterSettings, f.InRange →
      exec (.filterSet tag f.bytes) s =
        .next (State.withReply { s.cleared with signature := { s.signature with filter := f } }
          ⟨0x31, tag, .ok, []⟩)) ∧
    (∀ (n : Byte) (rest : List Byte), n.toNat = 0 ∨ 16 < n.toNat →
      exec (.filterSet tag (n :: rest)) s = .next (s.cleared.withReply ⟨0x31, tag, .badField, []⟩)) ∧
    (∀ (n : Byte) (rest : List Byte), 1 ≤ n.toNat → n.toNat ≤ 16 → rest.length ≠ 13 + 2 * n.toNat →
      exec (.filterSet tag (n :: rest)) s = .next (s.cleared.withReply ⟨0x31, tag, .badLength, []⟩)) ∧
    (∀ (n : Byte) (rest : List Byte), 1 ≤ n.toNat → n.toNat ≤ 16 → rest.length = 13 + 2 * n.toNat →
      (filterOf n.toNat (n :: rest)).valid = false →
      exec (.filterSet tag (n :: rest)) s = .next (s.cleared.withReply ⟨0x31, tag, .badField, []⟩))

/-- R100. In SETUP and ARMED, RIVET_TABLE_SET replaces the whole table by its entries, at most 32, and replies with
their count; in ARMED every entry must name a defined class, and the position of the first that does not is carried
with BAD_FIELD, as is that of the first entry whose fields fail.
R101. RIVET_CLASS_SET defines a class in SETUP and ARMED, and undefines one in SETUP alone: in ARMED that is
refused with WRONG_MODE. A code above 31, a define mark that is neither, or a setting out of range is refused with
BAD_FIELD.
R102, R117, R118. MAGAZINE_SET, refused in ABORTED alone, writes the count, held at 9,999, and replies with the
count as stored; where no heat order waits nothing else follows, and otherwise a serving step does. A code above 31 is
refused with BAD_FIELD. -/
def Obligations.RivetDataTaken : Prop :=
  ((∀ (s : State) (tag : Byte) (es : List RivetEntry), s.Ready → s.mode = .setup ∨ s.mode = .armed →
        (∀ e ∈ es, e.Valid) → es.length ≤ 32 →
          ((s.mode = .setup ∨ ∀ e ∈ es, s.heater.classes[e.code] ≠ none) →
            exec (.rivetTableSet tag (es.flatMap RivetEntry.bytes)) s =
              .next (State.withReply { s.cleared with heater := { s.heater with table := es } }
                ⟨0x41, tag, .ok, b8 es.length⟩)) ∧
          (∀ (first : List RivetEntry) (e : RivetEntry) (rest : List RivetEntry), es = first ++ e :: rest →
            s.mode = .armed → (∀ x ∈ first, s.heater.classes[x.code] ≠ none) → s.heater.classes[e.code] = none →
            exec (.rivetTableSet tag (es.flatMap RivetEntry.bytes)) s =
              .next (s.cleared.withReply ⟨0x41, tag, .badField, b8 first.length⟩)) ∧
          (∀ bad rest : List Byte, bad.length = 6 → rest.length % 6 = 0 → 6 * es.length + 6 + rest.length ≤ 192 →
            entryOf bad = none →
            exec (.rivetTableSet tag (es.flatMap RivetEntry.bytes ++ bad ++ rest)) s =
              .next (s.cleared.withReply ⟨0x41, tag, .badField, b8 es.length⟩)) ∧
          (∀ p : List Byte, p.length % 6 ≠ 0 ∨ 192 < p.length →
            exec (.rivetTableSet tag p) s = .next (s.cleared.withReply ⟨0x41, tag, .badLength, []⟩))) ∧
    (∀ (s : State) (tag : Byte), s.Ready → s.mode = .setup ∨ s.mode = .armed →
        (∀ (code : RivetCode) (c : RivetClass), c.InRange →
          exec (.rivetClassSet tag (definePayload code c)) s =
            .next (State.withReply
              { s.cleared with heater := { s.heater with classes := s.heater.classes.set code (some c) } }
              ⟨0x42, tag, .ok, []⟩)) ∧
        (∀ (code : RivetCode) (rest : List Byte), rest.length = 10 → s.mode = .setup →
          exec (.rivetClassSet tag (b8 code.val ++ b8 0 ++ rest)) s =
            .next (State.withReply
              { s.cleared with heater := { s.heater with classes := s.heater.classes.set code none } }
              ⟨0x42, tag, .ok, []⟩)) ∧
        (∀ (code : RivetCode) (rest : List Byte), rest.length = 10 → s.mode = .armed →
          exec (.rivetClassSet tag (b8 code.val ++ b8 0 ++ rest)) s =
            .next (s.cleared.withReply ⟨0x42, tag, .wrongMode, []⟩)) ∧
        (∀ (code : RivetCode) (c : RivetClass), c.heatTime < 65536 → c.holdWindow < 65536 → 0 ≤ c.forceTarget →
          c.forceTarget < 65536 → InSixteen c.workMin → InSixteen c.workMax →
          c.heatTime < 50 ∨ 2500 < c.heatTime ∨ c.holdWindow < 50 ∨ 1200 < c.holdWindow ∨ c.forceTarget < 1 ∨
            32767 < c.forceTarget ∨ c.workMax < c.workMin →
          exec (.rivetClassSet tag (definePayload code c)) s =
            .next (s.cleared.withReply ⟨0x42, tag, .badField, []⟩)) ∧
        (∀ (n m : Nat) (rest : List Byte), rest.length = 10 → n < 256 → m < 256 → 32 ≤ n ∨ 2 ≤ m →
          exec (.rivetClassSet tag (b8 n ++ b8 m ++ rest)) s =
            .next (s.cleared.withReply ⟨0x42, tag, .badField, []⟩)))) ∧
  (∀ (s u : State) (tag : Byte) (n : Nat), s.Ready → s.mode ≠ .aborted → n < 65536 →
      (∀ code : RivetCode,
        u = { s.cleared with heater := { s.heater with magazines := s.heater.magazines.set code (min 9999 n) } } →
          (s.heater.orders = [] →
            exec (.magazineSet tag (b8 code.val ++ b16 n)) s = .next (u.withReply ⟨0x43, tag, .ok, b16 (min 9999 n)⟩)) ∧
          exec (.magazineSet tag (b8 code.val ++ b16 n)) s =
            .next (u.serve.withReply ⟨0x43, tag, .ok, b16 (min 9999 n)⟩)) ∧
      (∀ c : Nat, 32 ≤ c → c < 256 →
        exec (.magazineSet tag (b8 c ++ b16 n)) s = .next (s.cleared.withReply ⟨0x43, tag, .badField, []⟩)))

/-! ## The report unit's requests (R169, R170) -/

/-- R170. EVENT_CONFIG replaces the enable and the priority of one kind in every mode, and replies with them and the
latch state; a held-back record of a kind it leaves enabled enters the report queue where the queue has room. A kind
above 13, an enable above 1 or a priority above 7 is refused with BAD_FIELD.
R169. EVENT_ACK puts every latch its mask names into CLEAR, its record leaving the report queue, and replies with
the mask of those that were not CLEAR; the freed room is filled (R168), and nothing else changes. A mask with bit 14 or 15 is
refused with BAD_FIELD. -/
def Obligations.EventSettingsTaken : Prop :=
  (∀ (s : State) (tag : Byte), s.Ready →
      (∀ (k : EventKind) (e : Bool) (p : Fin 8),
        (¬ (e = true ∧ s.reports.queue.length < 8 ∧ ∃ r, (s.latch k).held = some r ∧ r.place = .heldBack) →
          exec (.eventConfig tag (b8 k.index.val ++ mark e ++ b8 p.val)) s =
            .next ((s.cleared.setLatch k { s.latch k with enabled := e, priority := p }).withReply
              ⟨0x51, tag, .ok, mark e ++ b8 p.val ++ b8 (s.latch k).stateCode⟩)) ∧
        (∀ r : Held, e = true → s.reports.queue.length < 8 → (s.latch k).held = some r → r.place = .heldBack →
          exec (.eventConfig tag (b8 k.index.val ++ mark e ++ b8 p.val)) s =
            .next (State.withReply
              { s.cleared with reports :=
                  { latches := s.reports.latches.set k.index ⟨true, p, some { r with place := .queued }⟩
                    queue := s.reports.queue ++ [k] } }
              ⟨0x51, tag, .ok, b8 1 ++ b8 p.val ++ b8 2⟩))) ∧
      (∀ k e p : Nat, k < 256 → e < 256 → p < 256 → 14 ≤ k ∨ 2 ≤ e ∨ 8 ≤ p →
        exec (.eventConfig tag (b8 k ++ b8 e ++ b8 p)) s = .next (s.cleared.withReply ⟨0x51, tag, .badField, []⟩))) ∧
  (∀ (ks : List EventKind) (k : EventKind), ks.Nodup →
    maskOf ks < 16384 ∧ ((maskOf ks).testBit k.index = true ↔ k ∈ ks)) ∧
  (∀ (s : State) (tag : Byte) (m : Nat), s.Ready → m < 65536 →
      (m < 16384 →
        ∃ u : State, exec (.eventAck tag (b16 m)) s =
            .next (u.fill.withReply ⟨0x52, tag, .ok, b16 (maskOf (EventKind.all.filter
              (fun k => m.testBit k.index && (s.latch k).held.isSome)))⟩) ∧
          u = { s.cleared with reports := u.reports } ∧
          (∀ k, u.latch k = if m.testBit k.index then { s.latch k with held := none } else s.latch k) ∧
          u.reports.queue = s.reports.queue.filter (fun k => !m.testBit k.index)) ∧
      (16384 ≤ m →
        exec (.eventAck tag (b16 m)) s = .next (s.cleared.withReply ⟨0x52, tag, .badField, []⟩)))

/-! ## Resets (R23, R29, R69, R98, R123, R139, R161, R173, R187, R188) -/

/-- R23, R29, R38, R69, R98, R123, R139, R161, R173, R187. The values after cold start that the manual states, block by
block; that STATION_STARTED stands QUEUED with the transmitter still idle is the model's choice (log entry 8).
R173, R174, R187. COLD_START, in any state, leaves the reset state with the line rate the two pins select; that the
commands waiting outside the part stay waiting is the model's choice (log entry 17). -/
def Obligations.ColdStartResets : Prop :=
  (State.reset.table.joints = [] ∧ State.reset.table.currentPass = none ∧
      (∀ z : Zone, State.reset.table.datum[z] = 0) ∧ (∀ h, State.reset.claim h = none) ∧
      (∀ k : Fin 4, State.reset.dispatcher.flags[k] = false) ∧
      (∀ h, State.reset.head h =
        { state := .parked, subPhase := none, held := none, position := none, target := none, outcome := none,
          active := ⟨0, 0⟩, buffered := none, deepest := 0, peckStart := 0, peckCounter := 0, rate := none,
          phaseTimer := none, rivetWait := .stopped, fault := none, order := none }) ∧
      (∀ c, (State.reset.channel c).holder = none ∧ (State.reset.channel c).lastHolder = none ∧
        (State.reset.channel c).joint = none ∧ (∀ k : Fin 16, (State.reset.channel c).ring[k] = 0) ∧
        (State.reset.channel c).writeIndex = 0 ∧ (State.reset.channel c).sampleCount = 0 ∧
        (State.reset.channel c).accumulator = 0 ∧ (State.reset.channel c).mv = false ∧
        (State.reset.channel c).ev = false ∧ (State.reset.channel c).machine = .waiting ∧
        (State.reset.channel c).runCount = 0 ∧ (State.reset.channel c).boundaries = []) ∧
      State.reset.signature.drillQueue = [] ∧ (∀ p, State.reset.pocket p = .empty) ∧
      State.reset.heater.orders = [] ∧ State.reset.heater.table = [] ∧
      (∀ c : RivetCode, State.reset.heater.classes[c] = none) ∧
      (∀ c : RivetCode, State.reset.heater.magazines[c] = 0) ∧ (∀ k, State.reset.permit k = none) ∧
      State.reset.arbiter.queue = [] ∧ State.reset.mode = .setup ∧ State.reset.control.inProgress = none ∧
      State.reset.control.pendingSet = [] ∧ State.reset.control.stationMark = false ∧
      State.reset.control.restartMark = false ∧
      (State.reset.latch .stationStarted).held = some ⟨.queued, 0, 0, .setup, 1⟩ ∧
      State.reset.reports.queue = [.stationStarted] ∧ State.reset.link.assembler = .hunting ∧
      State.reset.link.requests = [] ∧ State.reset.link.fifo = [] ∧ State.reset.link.slot = none ∧
      State.reset.link.sending = none ∧ State.reset.link.frameErrors = 0 ∧ State.reset.link.overruns = 0 ∧
      State.reset.link.settings = none ∧ State.reset.time = 0) ∧
  (∀ (pin1 pin2 : Bool) (s : State), exec (.coldStart pin1 pin2) s =
      .next { State.reset with
        link := { State.reset.link with
          lineRate := if pin1 then (if pin2 then .bps460800 else .bps115200)
            else (if pin2 then .bps38400 else .bps9600) }
        pending := s.pending })

/-- R159, R23, R70, R123, R139, R161, R173, R188. When the frame of the OK reply to RESTART ends, the warm restart is
taken: the program, its results, the settings, the claims, the channels' contents and the rivet data are kept, and
everything else takes its warm-restart value. STATION_STARTED stands QUEUED with the transmitter still idle (the
model's choice, log entry 8). -/
def Obligations.WarmRestartTaken : Prop :=
  ∀ (s : State) (tag : Byte), s.control.restartMark = true →
    s.link.sending = some ⟨0x80, tag, [0x15, 0x00]⟩ →
      ∃ t, exec .transmitDone s = .next t ∧
        t.table.joints = s.table.joints.map (fun j =>
          { j with state := if j.state = .locked then .rejected else j.state, corrected := none, pocket := none }) ∧
        t.table.currentPass = currentPassOf t.table.joints ∧ t.table.datum = s.table.datum ∧
        t.dispatcher = s.dispatcher ∧ t.signature = s.signature ∧
        (∀ h, (t.head h).state = (if (s.head h).state = .stopped ∨ (s.head h).state = .fault ∨
            (s.head h).state = .idle ∨ (s.head h).state = .homing then .parked else (s.head h).state) ∧
          (t.head h).phaseTimer = none ∧ (t.head h).rivetWait = .stopped ∧ (t.head h).subPhase = none ∧
          (t.head h).target = none ∧ (t.head h).rate = none ∧ (t.head h).outcome = none ∧
          (t.head h).position = (s.head h).position ∧ (t.head h).active = (s.head h).active ∧
          (t.head h).buffered = (s.head h).buffered ∧ (t.head h).fault = (s.head h).fault) ∧
        t.heater.orders = [] ∧ t.heater.table = s.heater.table ∧ t.heater.classes = s.heater.classes ∧
        t.heater.magazines = s.heater.magazines ∧
        (∀ p, t.pocket p = if s.pocket p = .disabled then .empty else s.pocket p) ∧
        (∀ k, t.permit k = none) ∧ t.arbiter.queue = [] ∧
        t.control = { mode := .setup, inProgress := none, pendingSet := [], stationMark := s.control.stationMark,
                      restartMark := false } ∧
        (∀ k, (t.latch k).enabled = (s.latch k).enabled ∧ (t.latch k).priority = (s.latch k).priority ∧
          (t.latch k).held = (if k = .stationStarted then
            some ⟨if (s.latch k).enabled then .queued else .heldBack, 1, 0, .setup, 1⟩ else none)) ∧
        t.reports.queue = (if (s.latch .stationStarted).enabled then [.stationStarted] else []) ∧
        t.link = { settings := s.link.settings, lineRate := s.link.lineRate, assembler := .hunting, requests := [],
                   fifo := [], slot := none, sending := none, frameErrors := 0, overruns := 0 } ∧
        t.time = 0 ∧
        t.outgoing = (headNos.filter (fun h => (s.head h).state == .homing)).map (fun h => .drive h .stop)

/-! ## Frames and bytes (R175 to R178, R190) -/

/-- R175 to R177, R190. The bytes of a frame, sent from HUNTING, reach the sorter as that frame: a request's frame is
that request's command and a directive's that directive's. A KIND the host may not send is answered UNKNOWN_KIND, and a
directive with a payload BAD_LENGTH, at the sorter. -/
def Obligations.FrameRoundTrip : Prop :=
  ∀ (s : State) (tag : Byte), s.link.assembler = .hunting →
    (∀ (k : RequestKind) (p : List Byte), p.length ≤ 240 →
      exec (.frameReceive (Frame.bytes ⟨k.code, tag, p⟩)) s = exec (k.command tag p) s) ∧
    (∀ d : Directive,
      exec (.frameReceive (Frame.bytes ⟨BitVec.ofNat 8 d.kindCode, tag, []⟩)) s = exec (d.command tag) s) ∧
    (∀ p : List Byte, p.length ≤ 240 →
      exec (.frameReceive (Frame.bytes ⟨0x6F, tag, p⟩)) s = exec (.linkFlush tag p) s) ∧
    (s.Ready → exec (.frameReceive (Frame.bytes ⟨0x14, tag, []⟩)) s =
      .next (s.cleared.withReply ⟨0x14, tag, .ok, s.statusContent⟩)) ∧
    (∀ (kind : Byte) (p : List Byte), s.Settled → s.link.fifo.length < 4 → p.length ≤ 240 →
      (∀ k : RequestKind, k.code ≠ kind) → (∀ d : Directive, d.kindCode ≠ kind.toNat) → kind ≠ 0x6F →
      exec (.frameReceive (Frame.bytes ⟨kind, tag, p⟩)) s =
        .next (s.cleared.withImmediate ⟨kind, tag, .unknownKind, []⟩)) ∧
    (∀ (d : Directive) (p : List Byte), s.Settled → s.link.fifo.length < 4 → p.length ≤ 240 → p ≠ [] →
      exec (.frameReceive (Frame.bytes ⟨BitVec.ofNat 8 d.kindCode, tag, p⟩)) s =
        .next (s.cleared.withImmediate (d.reply tag .badLength)))

/-- R175, R176. A frame with another check than its bytes call for is discarded and counted, the count held at 65,535;
so is a frame whose LEN lies outside 2 to 242, and its bytes from KIND on are hunted through.
R175. A byte that completes no frame moves the assembler alone: a start byte opens a frame and any other byte is
passed over in HUNTING; LEN in range is followed by that many bytes; a byte without its stop bit, or 20 ms of silence,
abandons a frame in progress, which is counted.
R189. A gap expiry that is taken after a byte has started the gap again, so that fewer than 20 ms of silence stand
counted, changes nothing (that FRAME_GAP_TIMEOUT is judged by the milliseconds counted is log entry 4).
R176. The check is the CRC-16 of polynomial 0x1021 from 0xFFFF: each bit, the most significant of each byte first, shifts
the register left by one, and the polynomial is added where the bit differs from the one shifted out; nothing is inverted
at the end. It covers LEN, KIND, TAG and the payload, and follows them high byte first, so that the check over a frame and
its own check is 0. -/
def Obligations.AssemblerTakesBytes : Prop :=
  (∀ s : State, s.link.assembler = .hunting →
      (∀ (len a b : Byte) (body : List Byte), body.length = len.toNat → 2 ≤ len.toNat → len.toNat ≤ 242 →
        crc16 (len :: body) ≠ a ++ b →
        exec (.frameReceive (0x5A :: len :: body ++ [a, b])) s =
          .next { s.cleared with link := { s.link with frameErrors := min 65535 (s.link.frameErrors + 1) } }) ∧
      (∀ (len : Byte) (body : List Byte), len.toNat < 2 ∨ 242 < len.toNat → (∀ b ∈ body, b ≠ 0x5A) →
        exec (.frameReceive (0x5A :: len :: body)) s =
          .next { s.cleared with link := { s.link with frameErrors := min 65535 (s.link.frameErrors + 1) } })) ∧
  (∀ (s : State) (b : Byte), s.Settled →
      (s.link.assembler = .hunting →
        exec (.byteArrival b true) s = .next { s.cleared with link := { s.link with
          assembler := if b = 0x5A then .length 0 else .hunting } } ∧
        exec (.byteArrival b false) s = .next s.cleared ∧ exec .frameGapTimeout s = .next s.cleared) ∧
      (∀ gap, s.link.assembler = .length gap → 2 ≤ b.toNat → b.toNat ≤ 242 →
        exec (.byteArrival b true) s = .next { s.cleared with link := { s.link with assembler := .body b [] 0 } }) ∧
      (∀ len got gap, s.link.assembler = .body len got gap →
        exec (.byteArrival b true) s = .next { s.cleared with link := { s.link with
          assembler := if got.length + 1 < len.toNat then .body len (got ++ [b]) 0
            else .check len (got ++ [b]) none 0 } }) ∧
      (∀ len got gap, s.link.assembler = .check len got none gap →
        exec (.byteArrival b true) s =
          .next { s.cleared with link := { s.link with assembler := .check len got (some b) 0 } }) ∧
      (s.link.assembler ≠ .hunting →
        exec (.byteArrival b false) s = .next { s.cleared with link := { s.link with
          assembler := .hunting, frameErrors := min 65535 (s.link.frameErrors + 1) } } ∧
        (20 ≤ s.link.assembler.gap → exec .frameGapTimeout s = .next { s.cleared with link := { s.link with
          assembler := .hunting, frameErrors := min 65535 (s.link.frameErrors + 1) } }) ∧
        (s.link.assembler.gap < 20 → exec .frameGapTimeout s = .next s.cleared))) ∧
  (∀ bytes : List Byte, crc16 bytes =
    (bytes.flatMap (fun b => [b.getLsbD 7, b.getLsbD 6, b.getLsbD 5, b.getLsbD 4, b.getLsbD 3, b.getLsbD 2, b.getLsbD 1,
      b.getLsbD 0])).foldl (fun (r : BitVec 16) bit => (r <<< 1) ^^^ (if r.msb = bit then 0 else 0x1021)) 0xFFFF) ∧
  ∀ f : Frame, f.payload.length ≤ 240 → ∃ high low : Byte,
    f.bytes = 0x5A :: (b8 (f.payload.length + 2) ++ (f.kind :: f.tag :: f.payload)) ++ [high, low] ∧
      high ++ low = crc16 (b8 (f.payload.length + 2) ++ (f.kind :: f.tag :: f.payload)) ∧
      crc16 (f.bytes.drop 1) = 0

/-- R177, R178, R179. A request that finds four requests waiting is answered BUSY, and a frame that needs a place in a
full immediate reply FIFO is lost and counted; a request that finds the reply slot full waits in the queue.
R183. LINK_FLUSH removes the waiting requests, the waiting report records or both, by its selector, and replies
with how many of each it removed; the latches of removed records stand as SENT, and the freed room is filled (R168). Another length is answered BAD_LENGTH and
another selector BAD_FIELD. -/
def Obligations.HoldingPlacesKept : Prop :=
  (∀ (s : State) (tag : Byte), s.Settled →
      (∀ (k : RequestKind) (p : List Byte), s.link.requests.length = 4 → s.link.fifo.length < 4 →
        exec (k.command tag p) s = .next (s.cleared.withImmediate ⟨k.code, tag, .busy, []⟩)) ∧
      (∀ (k : RequestKind) (p : List Byte), s.link.requests.length = 4 → s.link.fifo.length = 4 →
        exec (k.command tag p) s =
          .next { s.cleared with link := { s.link with overruns := min 65535 (s.link.overruns + 1) } }) ∧
      (∀ d : Directive, s.link.fifo.length = 4 →
        exec (d.command tag) s =
          .next { s.cleared with link := { s.link with overruns := min 65535 (s.link.overruns + 1) } }) ∧
      (∀ p : List Byte, s.link.fifo.length = 4 →
        exec (.linkFlush tag p) s =
          .next { s.cleared with link := { s.link with overruns := min 65535 (s.link.overruns + 1) } }) ∧
      (∀ (k : RequestKind) (p : List Byte), s.link.requests.length < 4 →
        s.link.slot ≠ none ∨ s.control.restartMark = true →
        exec (k.command tag p) s =
          .next { s.cleared with link := { s.link with requests := s.link.requests ++ [⟨k.code, tag, p⟩] } })) ∧
  (∀ (s : State) (tag : Byte), s.Settled → s.link.fifo.length < 4 →
      (∀ n : Nat, 1 ≤ n → n ≤ 3 →
        ∃ u : State, exec (.linkFlush tag (b8 n)) s =
            .next ((if 2 ≤ n then u.fill else u).withImmediate ⟨0x6F, tag, .ok, b8 (if n % 2 = 1 then s.link.requests.length else 0) ++
              b8 (if 2 ≤ n then s.reports.queue.length else 0)⟩) ∧
          u = { s.cleared with
            link := { s.link with requests := if n % 2 = 1 then [] else s.link.requests }
            reports := u.reports } ∧
          u.reports.queue = (if 2 ≤ n then [] else s.reports.queue) ∧
          ∀ k, u.latch k = if 2 ≤ n ∧ k ∈ s.reports.queue then
            { s.latch k with held := (s.latch k).held.map (fun r => { r with place := .sent }) } else s.latch k) ∧
      (∀ p : List Byte, p.length ≠ 1 →
        exec (.linkFlush tag p) s = .next (s.cleared.withImmediate ⟨0x6F, tag, .badLength, []⟩)) ∧
      (∀ n : Nat, n < 256 → n = 0 ∨ 4 ≤ n →
        exec (.linkFlush tag (b8 n)) s = .next (s.cleared.withImmediate ⟨0x6F, tag, .badField, []⟩)))

/-- R181, R166, R167. When a frame has been sent, the transmitter starts the reply at the front of the immediate reply
FIFO, or else the reply in the slot, or else the report first in rank order, whose latch then stands as SENT, the freed
room being filled; with nothing waiting it is idle. An idle transmitter makes the same choice at the end of every event.
R180. Where the slot empties, the request at the front of the queue is executed as if it had just arrived; a STATUS_READ
counts the requests left.
R168. Freed room is filled by the held-back enabled kinds, the first in rank order first, as long as there is room. -/
def Obligations.TransmitterChooses : Prop :=
  (∀ (s : State) (f : Frame), s.Settled → s.control.restartMark = false → s.link.sending = some f →
    (∀ r rest, s.link.fifo = r :: rest → exec .transmitDone s =
      .next { s.cleared with link := { s.link with fifo := rest, sending := some r.frame } }) ∧
    (∀ r, s.link.fifo = [] → s.link.slot = some r →
      (s.link.requests = [] → exec .transmitDone s =
        .next { s.cleared with link := { s.link with slot := none, sending := some r.frame } }) ∧
      (∀ (g : Frame) (rest : List Frame) (k : RequestKind), s.link.requests = g :: rest → g.kind = k.code →
        (∀ u t : State, rest = [] ∨ k ≠ .statusRead →
          u = { s.cleared with link := { s.link with slot := none, sending := some r.frame, requests := [] } } →
          exec (k.command g.tag g.payload) u = .next t →
          exec .transmitDone s = .next { t with link := { t.link with requests := rest } }) ∧
        (∀ u : State, k = .statusRead → g.payload = [] →
          u = { s.cleared with link := { s.link with slot := none, sending := some r.frame, requests := rest } } →
          exec .transmitDone s = .next { u with link := { u.link with
            slot := some ⟨0x14, g.tag, .ok, u.statusContent⟩ } }))) ∧
    (∀ k r, s.link.fifo = [] → s.link.slot = none → k ∈ s.reports.queue → (s.latch k).held = some r →
      (∀ k' ∈ s.reports.queue, k' ≠ k → s.RanksBefore k k') →
      exec .transmitDone s = .next { State.fill { s.cleared with
        reports := { latches := s.reports.latches.set k.index { s.latch k with held := some { r with place := .sent } }
                     queue := s.reports.queue.filter (· ≠ k) } } with
        link := { s.link with sending := some ⟨0x81, 0, b8 k.index.val ++ b16 r.subject ++ b32 r.first.toNat ++
          b8 r.mode.code ++ b8 r.count⟩ } }) ∧
    (s.link.fifo = [] → s.link.slot = none → s.reports.queue = [] → exec .transmitDone s =
      .next { s.cleared with link := { s.link with sending := none } })) ∧
  (∀ r : Reply, r.frame = ⟨0x80, r.tag, r.kind :: (b8 r.status.code ++ r.content)⟩) ∧
  (∀ s : State, s.link.sending ≠ none ∨ (s.link.fifo = [] ∧ s.link.slot = none ∧ s.reports.queue = []) →
    s.transmitTurn = s) ∧
  (∀ s : State, s.link.sending = none →
    (∀ r rest, s.link.fifo = r :: rest →
      s.transmitTurn = { s with link := { s.link with fifo := rest, sending := some r.frame } }) ∧
    (∀ r, s.link.fifo = [] → s.link.slot = some r →
      s.transmitTurn = { s with link := { s.link with slot := none, sending := some r.frame } }) ∧
    (∀ k r, s.link.fifo = [] → s.link.slot = none → k ∈ s.reports.queue → (s.latch k).held = some r →
      (∀ k' ∈ s.reports.queue, k' ≠ k → s.RanksBefore k k') →
      s.transmitTurn = { State.fill { s with
        reports := { latches := s.reports.latches.set k.index { s.latch k with held := some { r with place := .sent } }
                     queue := s.reports.queue.filter (· ≠ k) } } with
        link := { s.link with sending := some ⟨0x81, 0, b8 k.index.val ++ b16 r.subject ++ b32 r.first.toNat ++
          b8 r.mode.code ++ b8 r.count⟩ } })) ∧
  (∀ s : State, 8 ≤ s.reports.queue.length ∨ s.NoneWaits → s.fill = s) ∧
  (∀ (s : State) (k : EventKind) (r : Held), s.reports.queue.length < 8 → (s.latch k).enabled = true →
    (s.latch k).held = some r → r.place = .heldBack →
    (∀ k', (s.latch k').enabled = true → (∃ r', (s.latch k').held = some r' ∧ r'.place = .heldBack) → k' ≠ k →
      s.RanksBefore k k') →
    s.fill = State.fill { s with reports :=
      { latches := s.reports.latches.set k.index { s.latch k with held := some { r with place := .queued } }
        queue := s.reports.queue ++ [k] } })

/-! ## Reports (R164 to R168) -/

/-- R164, R165. An occurrence that finds its latch CLEAR writes the record with its subject, the station time, the mode
and a count of 1, and joins the report queue where the kind is enabled and the queue has room; any other is counted,
up to 255, and changes nothing else. -/
def Obligations.OccurrencePosted : Prop :=
  ∀ (s : State) (k : EventKind) (n : Nat),
    ((s.latch k).held = none → (s.latch k).enabled = true → s.reports.queue.length < 8 →
      s.post k n = { s with reports :=
        { latches := s.reports.latches.set k.index
            { s.latch k with held := some ⟨.queued, n, s.time, s.mode, 1⟩ }
          queue := s.reports.queue ++ [k] } }) ∧
    ((s.latch k).held = none → (s.latch k).enabled = false ∨ 8 ≤ s.reports.queue.length →
      s.post k n = { s with reports := { s.reports with
        latches := s.reports.latches.set k.index
          { s.latch k with held := some ⟨.heldBack, n, s.time, s.mode, 1⟩ } } }) ∧
    (∀ r, (s.latch k).held = some r →
      s.post k n = { s with reports := { s.reports with
        latches := s.reports.latches.set k.index
          { s.latch k with held := some { r with count := min 255 (r.count + 1) } } } })

/-! ## Directives at their arrival (R142 to R146, R160) -/

/-- R142, R144, R145, R160. A directive whose kind is in the pending set already is answered ALREADY_PENDING and lost;
one that arrives in a busy mode it does not interrupt, or under a restart mark, is answered ACCEPTED and waits; one that
arrives while the controller is not busy and is not legal in the mode is answered ACCEPTED and refused, which posts
MODE_COMMAND_REFUSED with its KIND. Nothing else changes.
R145, R143. The controller takes the pending set by priority: the member named first among ABORT, RECOVER, DRAIN,
HOLD, RESUME, START, DISARM and ARM leaves the set first.
R145, R146. While it is not busy and no restart is ordered, the controller takes that member, executes it where it is
legal and refuses it with MODE_COMMAND_REFUSED where it is not, and goes on with the rest; a directive that is executed
first removes from the set the kinds it removes. Otherwise the controller takes nothing.
R140, R143, R144. The busy modes, the modes in which each directive is legal and those it interrupts are those the manual
lists. -/
def Obligations.DirectivesWait : Prop :=
  (∀ (s : State) (d : Directive) (tag : Byte), s.Settled → s.link.fifo.length < 4 →
      (d ∈ s.control.pendingSet → s.mode.busy = true ∨ s.control.restartMark = true →
        exec (d.command tag) s = .next (s.cleared.withImmediate (d.reply tag .alreadyPending))) ∧
      (d ∉ s.control.pendingSet →
        (s.mode.busy = true ∧ d.interrupts s.mode = false) ∨ s.control.restartMark = true →
        exec (d.command tag) s =
          .next (State.withImmediate { s.cleared with control := { s.control with
            pendingSet := Directive.all.filter (fun x => x == d || x ∈ s.control.pendingSet) } }
            (d.reply tag .accepted))) ∧
      (s.control.pendingSet = [] → s.mode.busy = false → s.control.restartMark = false → d.legal s.mode = false →
        exec (d.command tag) s =
          .next ((s.cleared.post .modeCommandRefused d.kindCode).withImmediate (d.reply tag .accepted)))) ∧
  (∀ (s : State) (d : Directive), s.nextDirective = some d ↔
      d ∈ s.control.pendingSet ∧ ∀ e ∈ s.control.pendingSet, d.kindCode ≤ e.kindCode) ∧
  (∀ s : State, s.mode.busy = true ∨ s.control.restartMark = true ∨ s.control.pendingSet = [] →
      s.controllerTurn = s) ∧
  (∀ (s u : State) (d : Directive), s.mode.busy = false → s.control.restartMark = false → d ∈ s.control.pendingSet →
      (∀ e ∈ s.control.pendingSet, d.kindCode ≤ e.kindCode) →
      u = { s with control := { s.control with pendingSet := s.control.pendingSet.filter (· ≠ d) } } →
        (d.legal s.mode = true → s.controllerTurn = (u.execute d).controllerTurn) ∧
        (d.legal s.mode = false →
          s.controllerTurn = (u.post .modeCommandRefused d.kindCode).controllerTurn)) ∧
  (∀ (s : State) (d : Directive), s.execute d =
      State.perform { s with control := { s.control with pendingSet := s.control.pendingSet.filter (fun e =>
        e ∉ (match d with
          | .abort => [.recover, .drain, .hold, .resume, .start, .disarm, .arm]
          | .drain => [.hold, .resume, .start]
          | .hold => [.resume, .drain]
          | .resume => [.hold]
          | .recover => []
          | .start => []
          | .disarm => []
          | .arm => [] : List Directive)) } } d) ∧
  ∀ m : Mode, (m.busy = true ↔ m = .arming ∨ m = .holding ∨ m = .draining) ∧
    (Directive.legal .abort m = true ↔ m ≠ .aborted) ∧ (Directive.legal .recover m = true ↔ m = .aborted) ∧
    (Directive.legal .drain m = true ↔ m = .running ∨ m = .holding ∨ m = .held) ∧
    (Directive.legal .hold m = true ↔ m = .running ∨ m = .draining) ∧
    (Directive.legal .resume m = true ↔ m = .holding ∨ m = .held) ∧
    (Directive.legal .start m = true ↔ m = .armed) ∧ (Directive.legal .disarm m = true ↔ m = .armed) ∧
    (Directive.legal .arm m = true ↔ m = .setup) ∧
    (Directive.interrupts .abort m = true ↔ m = .arming ∨ m = .holding ∨ m = .draining) ∧
    (Directive.interrupts .drain m = true ↔ m = .holding) ∧ (Directive.interrupts .hold m = true ↔ m = .draining) ∧
    (Directive.interrupts .resume m = true ↔ m = .holding) ∧
    ∀ d : Directive, d ∈ [Directive.recover, .start, .disarm, .arm] → d.interrupts m = false

/-! ## The directives (R147 to R158) -/

/-- R147, R191. An ARM that fails its validation, by the first of its three checks, leaves the mode SETUP, posts
ARM_FAILED with the reason, and changes no joint, head, claim or heater. The mode its record carries is SETUP, the mode
after the change (the model's choice, log entry 16).
R147, R18, R63, R28. An ARM that passes its validation enters ARMING, corrects the position of every joint,
rejecting a PENDING joint that lies off the rail with OUT_OF_TRAVEL, and sends every head that is not OFFLINE home. -/
def Obligations.ArmTaken : Prop :=
  (∀ (s : State) (tag : Byte) (reason : Nat), s.Obeys .arm →
      ((reason = 0 ∧ ∀ h, (s.head h).state = .offline) ∨
        (reason = 1 ∧ (∃ h, (s.head h).state ≠ .offline) ∧
          ∃ e ∈ s.heater.table, s.heater.classes[e.code] = none) ∨
        (reason = 2 ∧ (∃ h, (s.head h).state ≠ .offline) ∧ (∀ e ∈ s.heater.table, s.heater.classes[e.code] ≠ none) ∧
          s.control.stationMark = false)) →
        ∃ t, exec (.arm tag) s = .next t ∧ t.control = { s.control with mode := .setup, inProgress := none } ∧
          t.table = s.table ∧ t.heads = s.heads ∧ t.dispatcher = s.dispatcher ∧ t.signature = s.signature ∧
          t.heater = s.heater ∧ t.arbiter = s.arbiter ∧ t.time = s.time ∧ t.outgoing = [] ∧
          s.Occurred t .armFailed reason .setup) ∧
  (∀ (s : State) (tag : Byte), s.Obeys .arm → (∃ h, (s.head h).state ≠ .offline) →
      (∀ e ∈ s.heater.table, s.heater.classes[e.code] ≠ none) → s.control.stationMark = true →
        ∃ t, exec (.arm tag) s = .next t ∧
          t.control = { s.control with mode := .arming, inProgress := some .arm } ∧
          t.table.joints = s.table.joints.map (fun j =>
            if 0 ≤ ((j.identity.zone.val * 65536 + j.identity.offset : Nat) : Int) + s.table.datum[j.identity.zone] ∧
                ((j.identity.zone.val * 65536 + j.identity.offset : Nat) : Int) + s.table.datum[j.identity.zone] ≤ s.station.railLength then
              { j with corrected := some (((j.identity.zone.val * 65536 + j.identity.offset : Nat) : Int) + s.table.datum[j.identity.zone]).toNat }
            else if j.state = .pending then
              { j with corrected := none, state := .rejected, rejection := some ⟨.outOfTravel, true⟩ }
            else { j with corrected := none }) ∧
          t.table.currentPass = currentPassOf t.table.joints ∧ t.table.datum = s.table.datum ∧
          (∀ h, t.head h = if (s.head h).state = .offline then s.head h
            else (s.head h).inHoming s.station.homeTime) ∧
          (∀ h, t.claim h = if (s.head h).state = .offline then s.claim h else some (s.claimHome h)) ∧
          t.dispatcher.flags = s.dispatcher.flags ∧ t.signature = s.signature ∧ t.heater = s.heater ∧
          t.arbiter = s.arbiter ∧ t.time = s.time ∧
          t.outgoing = (headNos.filter (fun h => (s.head h).state != .offline)).map (fun h => .drive h .home) ∧
          s.Occurred t .modeChanged 1 .arming)

/-- R150, R155. START enters RUNNING, runs a dispatch round and tests the blocked condition; where no joint holds the
program, it passes on to ARMED with PROGRAM_COMPLETE, whose record carries ARMED, the mode after the change (the
model's choice, log entry 16), and changes nothing else.
R153, R53, R128. RESUME enters RUNNING, every rivet wait timer counts on from its time left, the waiting heads ask
for their permits again, a dispatch round is run and the blocked condition tested. With no head idle and no hot rivet
waited for, nothing else changes. Where no joint holds the program then, the last having been released in HOLDING or HELD,
the station passes on to ARMED with PROGRAM_COMPLETE (R155), recorded as for START. A RESUME that interrupts HOLDING removes a pending HOLD, and the controller, no longer
busy, goes on to take what else waits (R145, R146). -/
def Obligations.RunningEntered : Prop :=
  (∀ (s : State) (tag : Byte), s.Obeys .start →
      (s.table.currentPass = none →
        ∃ t, exec (.start tag) s = .next t ∧ t.control = { s.control with mode := .armed, inProgress := none } ∧
          t.table = s.table ∧ t.heads = s.heads ∧ t.dispatcher = s.dispatcher ∧ t.signature = s.signature ∧
          t.heater = s.heater ∧ t.arbiter = s.arbiter ∧ t.time = s.time ∧ t.outgoing = [] ∧
          s.Occurred t .programComplete (s.table.joints.countP (fun j => j.state == .complete)) .armed) ∧
      (s.table.currentPass ≠ none → (∀ h, (s.head h).state ≠ .idle) →
        ∃ t, exec (.start tag) s = .next t ∧ t.control = { s.control with mode := .running, inProgress := none } ∧
          t.table = s.table ∧ t.heads = s.heads ∧ t.dispatcher = s.dispatcher ∧ t.signature = s.signature ∧
          t.heater = s.heater ∧ t.arbiter = s.arbiter ∧ t.time = s.time ∧ t.outgoing = [] ∧
          s.Occurred t .modeChanged 3 .running) ∧
      (∀ u w : State,
        u = { s.cleared with
          link := { s.link with fifo := s.link.fifo ++ [Directive.reply .start tag .accepted] }
          control := { s.control with mode := .running, inProgress := none } } →
        w = (u.post .modeChanged 3).round.postBlocked false →
        (w.table.currentPass ≠ none → exec (.start tag) s = .next w.transmitTurn) ∧
        (w.table.currentPass = none → exec (.start tag) s = .next (State.transmitTurn
          ((State.post { w with control := { w.control with mode := .armed, inProgress := none } } .modeChanged 2).post
            .programComplete (w.table.joints.countP (fun j => j.state == .complete))))))) ∧
  (∀ (s : State) (tag : Byte), s.Obeys .resume →
      (s.table.currentPass ≠ none → (∀ h, (s.head h).state ≠ .idle) →
        (∀ h, (s.head h).state = .awaitRivet → s.stampOf h = none) →
        s.arbiter.queue = [] → s.waitingBeside [.hold] = [] →
        ∃ t, exec (.resume tag) s = .next t ∧
          t.control = { s.control with mode := .running, inProgress := none, pendingSet := [] } ∧
          (∀ h, t.head h = { s.head h with rivetWait := (s.head h).rivetWait.resume }) ∧ t.table = s.table ∧
          t.dispatcher = s.dispatcher ∧ t.signature = s.signature ∧ t.heater = s.heater ∧ t.arbiter = s.arbiter ∧
          t.time = s.time ∧ t.outgoing = [] ∧ s.Occurred t .modeChanged 3 .running) ∧
      (s.table.currentPass = none → (∀ h, (s.head h).state = .awaitRivet → s.stampOf h = none) →
        s.arbiter.queue = [] → s.waitingBeside [.hold] = [] →
        ∃ t, exec (.resume tag) s = .next t ∧
          t.control = { s.control with mode := .armed, inProgress := none, pendingSet := [] } ∧
          (∀ h, t.head h = { s.head h with rivetWait := (s.head h).rivetWait.resume }) ∧ t.table = s.table ∧
          t.dispatcher = s.dispatcher ∧ t.signature = s.signature ∧ t.heater = s.heater ∧ t.arbiter = s.arbiter ∧
          t.time = s.time ∧ t.outgoing = [] ∧
          s.Occurred t .programComplete (s.table.joints.countP (fun j => j.state == .complete)) .armed) ∧
      (∀ u v w : State,
        u = { s.cleared with
          link := { s.link with fifo := s.link.fifo ++ [Directive.reply .resume tag .accepted] }
          control := { s.control with mode := .running, inProgress := none, pendingSet := s.waitingBeside [.hold] }
          heads := s.heads.map (fun x => { x with rivetWait := x.rivetWait.resume }) } →
        v = (u.post .modeChanged 3).reRaise → w = v.round.postBlocked false →
        (w.table.currentPass ≠ none → exec (.resume tag) s = .next w.controllerTurn.transmitTurn) ∧
        (w.table.currentPass = none → exec (.resume tag) s = .next (State.transmitTurn (State.controllerTurn
          ((State.post { w with control := { w.control with mode := .armed, inProgress := none } } .modeChanged 2).post
            .programComplete (w.table.joints.countP (fun j => j.state == .complete))))))))

/-- R151, R53, R128, R146. HOLD, in RUNNING or interrupting DRAINING, enters HOLDING: every rivet wait timer is paused
with its time left, the permit wait queue is emptied, and the pending RESUME and DRAIN are removed. Permits, channels,
joints and pockets stay. Where every head is at a hold point or out of service, HELD is entered at once, and the
controller then takes what else waits (R145). A timer paused keeps its time and counts on from it. The hold points and
the states out of service are IDLE, AWAIT_RIVET, FAULT, PARKED and OFFLINE. -/
def Obligations.HoldTakes : Prop :=
  (∀ n : Nat, (WaitTimer.counting n).pause = .paused n ∧ (WaitTimer.paused n).pause = .paused n ∧
    WaitTimer.stopped.pause = .stopped ∧ (WaitTimer.paused n).resume = .counting n ∧
    (WaitTimer.counting n).resume = .counting n ∧ WaitTimer.stopped.resume = .stopped) ∧
  (∀ x : HeadState, x.atRest = true ↔ x ∈ [HeadState.idle, .awaitRivet, .fault, .parked, .offline]) ∧
  ∀ (s : State) (tag : Byte), s.Obeys .hold →
    ((∃ h, (s.head h).state.atRest = false) ∨ s.waitingBeside [.resume, .drain] = [] →
      ∃ t, exec (.hold tag) s = .next t ∧
        t.control = { s.control with
          mode := if ∀ h, (s.head h).state.atRest = true then .held else .holding
          inProgress := if ∀ h, (s.head h).state.atRest = true then none else some .hold
          pendingSet := s.waitingBeside [.resume, .drain] } ∧
        (∀ h, t.head h = { s.head h with rivetWait := (s.head h).rivetWait.pause }) ∧
        t.arbiter = { s.arbiter with queue := [] } ∧ t.table = s.table ∧ t.dispatcher = s.dispatcher ∧
        t.signature = s.signature ∧ t.heater = s.heater ∧ t.time = s.time ∧ t.outgoing = []) ∧
    (∀ u v : State, (∀ h, (s.head h).state.atRest = true) →
      u = { s.cleared with
        link := { s.link with fifo := s.link.fifo ++ [Directive.reply .hold tag .accepted] }
        control := { s.control with
          mode := .holding, inProgress := some .hold, pendingSet := s.waitingBeside [.resume, .drain] }
        heads := s.heads.map (fun x => { x with rivetWait := x.rivetWait.pause })
        arbiter := { s.arbiter with queue := [] } } →
      v = u.post .modeChanged 4 →
      exec (.hold tag) s = .next (State.transmitTurn (State.controllerTurn (State.post
        { v with control := { v.control with mode := .held, inProgress := none } } .modeChanged 5))))

/-- R154, R146, R53, R128. DRAIN out of RUNNING enters DRAINING, or ARMED at once where no joint is in work, and touches
nothing else. Out of HOLDING or HELD the pending HOLD, RESUME and START are removed, the rivet wait timers count on and
the waiting heads ask for their permits again; with no joint in work then, ARMED is entered and the controller takes
what else waits (R145). With no hot rivet waited for, nothing else changes. -/
def Obligations.DrainTakes : Prop :=
  ∀ (s : State) (tag : Byte), s.Obeys .drain →
    (∀ m : Mode, m = (if ∃ j ∈ s.table.joints, j.state.inWork = true then .draining else .armed) →
      (s.mode = .running ∨
        (s.arbiter.queue = [] ∧ ∀ h, (s.head h).state = .awaitRivet → s.stampOf h = none)) →
      m = .draining ∨ s.waitingBeside [.hold, .resume, .start] = [] →
      ∃ t, exec (.drain tag) s = .next t ∧
        t.control = { s.control with
          mode := m, inProgress := m.progress, pendingSet := s.waitingBeside [.hold, .resume, .start] } ∧
        (∀ h, t.head h = { s.head h with
          rivetWait := if s.mode = .running then (s.head h).rivetWait else (s.head h).rivetWait.resume }) ∧
        t.table = s.table ∧ t.dispatcher = s.dispatcher ∧ t.signature = s.signature ∧ t.heater = s.heater ∧
        t.arbiter = s.arbiter ∧ t.time = s.time ∧ t.outgoing = []) ∧
    (∀ u v : State, s.mode = .holding ∨ s.mode = .held →
      u = { s.cleared with
        link := { s.link with fifo := s.link.fifo ++ [Directive.reply .drain tag .accepted] }
        control := { s.control with
          mode := .draining, inProgress := some .drain, pendingSet := s.waitingBeside [.hold, .resume, .start] }
        heads := s.heads.map (fun x => { x with rivetWait := x.rivetWait.resume }) } →
      v = (u.post .modeChanged 6).reRaise →
      ((∃ j ∈ v.table.joints, j.state.inWork = true) → exec (.drain tag) s = .next v.transmitTurn) ∧
      ((∀ j ∈ v.table.joints, j.state.inWork = false) →
        exec (.drain tag) s = .next (State.transmitTurn (State.controllerTurn (State.post
          { v with control := { v.control with mode := .armed, inProgress := none } } .modeChanged 2)))))

/-- R156, R19, R67, R121, R109. DISARM returns to SETUP: every corrected position becomes absent; every head in IDLE,
FAULT or HOMING is PARKED, a homing one being sent STOP, with its claim and position kept; every loaded pocket is
ejected, every DISABLED pocket becomes EMPTY, and the heat order queue is emptied. -/
def Obligations.DisarmReturns : Prop :=
  ∀ (s : State) (tag : Byte), s.Obeys .disarm →
    ∃ t, exec (.disarm tag) s = .next t ∧ t.control = { s.control with mode := .setup, inProgress := none } ∧
      t.table = { s.table with joints := s.table.joints.map (fun j => { j with corrected := none, pocket := none }) } ∧
      (∀ h, t.head h = if (s.head h).state = .idle ∨ (s.head h).state = .fault ∨ (s.head h).state = .homing then
        (s.head h).inPark else s.head h) ∧
      t.dispatcher = s.dispatcher ∧ t.signature = s.signature ∧ t.arbiter = s.arbiter ∧ t.time = s.time ∧
      t.heater.orders = [] ∧ t.heater.table = s.heater.table ∧ t.heater.classes = s.heater.classes ∧
      t.heater.magazines = s.heater.magazines ∧
      (∀ p, t.pocket p = match s.pocket p with
        | .loading c _ _ => .ejecting c s.station.ejectTime
        | .heating c _ _ => .ejecting c s.station.ejectTime
        | .ready c _ _ _ => .ejecting c s.station.ejectTime
        | .ejecting c n => .ejecting c n
        | .empty => .empty
        | .disabled => .empty) ∧
      t.outgoing = (headNos.filter (fun h => (s.head h).state == .homing)).map (fun h => .drive h .stop) ++
        (pocketNos.filter (fun p => (s.pocket p).stateCode == 1 || (s.pocket p).stateCode == 2 ||
          (s.pocket p).stateCode == 3)).map (fun p => .heater (.eject p)) ∧
      s.Occurred t .modeChanged 0 .setup

/-- R157, R146, R7, R66, R75, R120, R135. ABORT, in every mode but ABORTED, stops every head that is not OFFLINE, locks every
joint in work with its holder's phase and ABORTED, frees every channel and permit, empties the wait queues and the heat
order queue, ejects every loaded pocket, and empties the pending set. Claims, positions and profiles stay. -/
def Obligations.AbortStopsAll : Prop :=
  ∀ (s : State) (tag : Byte), s.Obeys .abort →
    ∃ t, exec (.abort tag) s = .next t ∧ t.control = { s.control with mode := .aborted, inProgress := none, pendingSet := [] } ∧
      t.table.joints = s.table.joints.mapIdx (fun i j =>
        if j.state.inWork then
          { j with state := .locked, rejection := some ⟨.aborted, j.state != .setting⟩,
                   phaseAtEnd := (s.holderOf i).map (fun h => (s.head h).state), pocket := none }
        else { j with pocket := none }) ∧
      t.table.currentPass = currentPassOf t.table.joints ∧ t.table.datum = s.table.datum ∧
      (∀ h, t.head h = if (s.head h).state = .offline then s.head h
        else { s.head h with state := .stopped, subPhase := none, held := none, target := none, outcome := none,
                             rate := none, phaseTimer := none, rivetWait := .stopped, order := some .stop }) ∧
      t.dispatcher = s.dispatcher ∧
      (∀ c, t.channel c = if (s.channel c).holder = none then s.channel c
        else if c.val < 2 then { s.channel c with holder := none, ending := some .cutShort }
        else { s.channel c with holder := none }) ∧
      t.signature.drillQueue = [] ∧ t.signature.filter = s.signature.filter ∧ (∀ k, t.permit k = none) ∧
      t.arbiter.queue = [] ∧ t.heater.orders = [] ∧ t.heater.table = s.heater.table ∧
      t.heater.classes = s.heater.classes ∧ t.heater.magazines = s.heater.magazines ∧
      (∀ p, t.pocket p = match s.pocket p with
        | .loading c _ _ => .ejecting c s.station.ejectTime
        | .heating c _ _ => .ejecting c s.station.ejectTime
        | .ready c _ _ _ => .ejecting c s.station.ejectTime
        | .ejecting c n => .ejecting c n
        | .empty => .empty
        | .disabled => .disabled) ∧
      t.time = s.time ∧ s.Occurred t .modeChanged 7 .aborted

/-- R158, R7, R19, R67, R109. RECOVER returns from ABORTED to SETUP: every LOCKED joint becomes REJECTED with its reason
kept, every corrected position becomes absent, every head in STOPPED is PARKED, and every DISABLED pocket becomes
EMPTY. That JOINT_REJECTED, where its latch was CLEAR, keeps the lowest index that was LOCKED is the model's choice
(log entry 6): R165 leaves the order of the posts open. -/
def Obligations.RecoverReturns : Prop :=
  ∀ (s : State) (tag : Byte), s.Obeys .recover →
    ∃ t, exec (.recover tag) s = .next t ∧ t.control = { s.control with mode := .setup, inProgress := none } ∧
      t.table.joints = s.table.joints.map (fun j =>
        { j with state := if j.state = .locked then .rejected else j.state, corrected := none }) ∧
      t.table.currentPass = currentPassOf t.table.joints ∧ t.table.datum = s.table.datum ∧
      (∀ h, t.head h = if (s.head h).state = .stopped then (s.head h).inPark else s.head h) ∧
      t.dispatcher = s.dispatcher ∧ t.signature = s.signature ∧ t.arbiter = s.arbiter ∧
      t.heater.orders = s.heater.orders ∧ t.heater.table = s.heater.table ∧ t.heater.classes = s.heater.classes ∧
      t.heater.magazines = s.heater.magazines ∧
      (∀ p, t.pocket p = if s.pocket p = .disabled then .empty else s.pocket p) ∧ t.time = s.time ∧
      t.outgoing = [] ∧
      ((s.latch .jointRejected).held = none → ∀ i j, s.joint? i = some j → j.state = .locked →
        (∀ i' j', i' < i → s.joint? i' = some j' → j'.state ≠ .locked) →
        ∃ place n, (t.latch .jointRejected).held = some ⟨place, i, s.time, .setup, n⟩)

/-! ## Homing and travel (R27, R28, R43, R63) -/

/-- R63, R28, R148. HOME_DONE in HOMING puts the head into IDLE at its home point, 0 or L, with its claim that point.
In RUNNING a dispatch round follows; the last head to leave HOMING ends ARMING in ARMED, with a serving step; and the
last head to reach a hold point ends HOLDING in HELD. In ARMED and HELD the controller takes the directives that have
waited (R145): a START sent while the station armed is executed at once (section 7.11), and passes on to ARMED with
PROGRAM_COMPLETE, recorded in ARMED (log entry 16), where no joint holds the program.
R43, R27, R31. TRAVEL_DONE in TRAVEL puts the head at its target, its claim shrunk to that point, and orders the
clamp with the clamp timeout; in RUNNING a dispatch round follows. -/
def Obligations.HomeAndTravelDone : Prop :=
  (∀ (s u : State) (h : HeadNo) (p : Nat), s.Quiet → (s.head h).state = .homing →
      p = (if h.val % 2 = 0 then 0 else s.station.railLength) →
      u = (s.cleared.setHead h { s.head h with
        state := .idle, phaseTimer := none, position := some p, order := none }).setClaim h (some ⟨p, p⟩) →
        (s.mode ≠ .arming → s.mode ≠ .holding → s.mode ≠ .running → exec (.homeDone h) s = .next u) ∧
        (s.mode = .running → exec (.homeDone h) s = .next u.round.transmitTurn) ∧
        (s.mode = .arming → (∃ g, g ≠ h ∧ (s.head g).state = .homing) → exec (.homeDone h) s = .next u) ∧
        (s.mode = .arming → (∀ g, g ≠ h → (s.head g).state ≠ .homing) →
          exec (.homeDone h) s = .next (State.transmitTurn (State.serve (State.post
            { u with control := { u.control with mode := .armed, inProgress := none } } .modeChanged 2)))) ∧
        (s.mode = .holding → (∃ g, g ≠ h ∧ (s.head g).state.atRest = false) →
          exec (.homeDone h) s = .next u) ∧
        (s.mode = .holding → (∀ g, g ≠ h → (s.head g).state.atRest = true) →
          exec (.homeDone h) s = .next (State.transmitTurn (State.post
            { u with control := { u.control with mode := .held, inProgress := none } } .modeChanged 5)))) ∧
  (∀ (s u v w x : State) (h : HeadNo) (p : Nat), s.LinkSettled → s.control.restartMark = false →
      (s.head h).state = .homing → p = (if h.val % 2 = 0 then 0 else s.station.railLength) →
      u = (s.cleared.setHead h { s.head h with
        state := .idle, phaseTimer := none, position := some p, order := none }).setClaim h (some ⟨p, p⟩) →
        (s.mode = .arming → (∀ g, g ≠ h → (s.head g).state ≠ .homing) →
          v = State.serve (State.post
            { u with control := { u.control with mode := .armed, inProgress := none } } .modeChanged 2) →
          exec (.homeDone h) s = .next v.controllerTurn.transmitTurn ∧
          (s.control.pendingSet = [.start] →
            w = State.post { v with control :=
              { v.control with mode := .running, inProgress := none, pendingSet := [] } } .modeChanged 3 →
            x = w.round.postBlocked false →
            (x.table.currentPass ≠ none → exec (.homeDone h) s = .next x.transmitTurn) ∧
            (x.table.currentPass = none → exec (.homeDone h) s = .next (State.transmitTurn
              ((State.post { x with control := { x.control with mode := .armed, inProgress := none } }
                .modeChanged 2).post .programComplete
                  (x.table.joints.countP (fun j => j.state == .complete))))))) ∧
        (s.mode = .holding → (∀ g, g ≠ h → (s.head g).state.atRest = true) →
          v = State.post { u with control := { u.control with mode := .held, inProgress := none } } .modeChanged 5 →
          exec (.homeDone h) s = .next v.controllerTurn.transmitTurn)) ∧
  (∀ (s u : State) (h : HeadNo) (t : Nat), s.Quiet → (s.head h).state = .travel → (s.head h).target = some t →
      u = { (s.cleared.setHead h { s.head h with
              state := .clamp, position := some t, target := none, phaseTimer := some s.station.clampTime,
              order := some .clamp }).setClaim h (some ⟨t, t⟩) with outgoing := [.drive h .clamp] } →
        (s.mode ≠ .running → exec (.travelDone h) s = .next u) ∧
        (s.mode = .running → exec (.travelDone h) s = .next u.round.transmitTurn))

/-! ## Drilling (R44 to R51, R72 to R74, R90 to R92) -/

/-- R44, R45, R47, R50, R72, R77. CLAMP_DONE in CLAMP asks for a drill channel. The lowest FREE one is granted and
initialised, and the head enters DRILL with its depths at 0, its buffered profile active, its joint DRILLING with peck
count 0, and FEED ordered; with neither FREE the head waits at the tail of the queue with no timer. -/
def Obligations.ClampDoneTaken : Prop :=
  ∀ (s : State) (h : HeadNo) (i : Nat) (j : Joint) (q : PeckProfile) (r : FeedRate), s.Quiet → s.PassRule →
    (s.head h).state = .clamp → (s.head h).held = some i → s.joint? i = some j → j.state.inWork = true →
    q = (s.head h).buffered.getD (s.head h).active →
    r = (if 0 < q.b ∧ 0 < q.a then .reEntry else .cutting) →
      (∀ c : ChannelNo, (s.channel c).holder = none → (c = 0 ∨ c = 1 ∧ (s.channel 0).holder ≠ none) →
        exec (.clampDone h) s = .next
          { (s.cleared.setHead h { s.head h with
              state := .drill, subPhase := some .cut, deepest := 0, peckStart := 0, peckCounter := 0, active := q,
              buffered := none, rate := some r, phaseTimer := some s.station.drillTime,
              order := some (.feed r) }).setChannel c
                { Channel.cold with holder := some h, lastHolder := some h, joint := some i } with
            table := { s.table with joints := s.table.joints.set i { j with
              state := .drilling, result := { j.result with peckCount := some 0 } } }
            outgoing := [.drive h (.feed r)] }) ∧
      ((s.channel 0).holder ≠ none → (s.channel 1).holder ≠ none →
        exec (.clampDone h) s = .next
          { s.cleared.setHead h { s.head h with state := .drillWait, phaseTimer := none, order := none } with
            signature := { s.signature with drillQueue := s.signature.drillQueue ++ [h] } })

/-- R46, R47, R48, R50, R79, R83, R88. A DRILL_SAMPLE beyond the deepest depth, taken in CUT or PECK_RETURN, passes through the
head's drill channel. Where the measurement goes on, a peck counter that has reached B orders a peck retract to A above
the new depth, with the peck count raised and a buffered profile made active; otherwise the head is in CUT and FEED is
ordered only for a rate that differs from the one ordered. The first sample of the joint that sets MV or EV marks its
result and posts SIGNAL_SATURATED, and the first that meets an interface too many posts LAYER_OVERFLOW. PECK_BACK starts the return at the rate R47 selects. -/
def Obligations.DrillSampleTaken : Prop :=
  ∀ (s : State) (h : HeadNo) (c : ChannelNo) (i : Nat) (j : Joint) (x : Head), s.Quiet → x = s.head h →
    x.state = .drill → s.drillChannelOf h = some c → x.held = some i → s.joint? i = some j →
      (∀ (depth thrust : Half) (ch ch' : Channel) (d : Nat) (sat full : Bool) (u : State) (res : JointResult),
        d = depth.toNat →
        x.subPhase = some .cut ∨ x.subPhase = some .peckReturn → x.deepest < d →
        ch = (s.channel c).filter s.signature.filter d thrust.toInt →
        ch' = (ch.measure s.signature.filter d).limit s.signature.filter d → ch'.ending = none →
        sat = (s.channel c).saturates s.signature.filter thrust.toInt → full = ch.overflows s.signature.filter d →
        u = (s.cleared.markOf .signalSaturated i j.result.saturated sat).markOf .layerOverflow i j.result.overflow full →
        res = { j.result with saturated := j.result.saturated || sat, overflow := j.result.overflow || full } →
          (0 < x.active.b → x.active.b ≤ d - x.peckStart →
            exec (.drillSample h depth thrust) s = .next (State.transmitTurn
              { (u.setChannel c ch').setHead h { x with
                  subPhase := some .peckRetract, deepest := d, peckStart := d - x.active.a, peckCounter := 0,
                  active := x.buffered.getD x.active, buffered := none,
                  order := some (.peckRetract (d - x.active.a)) } with
                table := { s.table with joints := s.table.joints.set i { j with
                  result := { res with peckCount := some (j.result.peckCount.getD 0 + 1) } } }
                outgoing := [.drive h (.peckRetract (d - x.active.a))] })) ∧
          (∀ r : FeedRate, x.active.b = 0 ∨ d - x.peckStart < x.active.b →
            r = (if ch'.machine = .dip then .breakthrough
              else if 0 < x.active.b ∧ d - x.peckStart < x.active.a then .reEntry else .cutting) →
            (x.rate = some r → exec (.drillSample h depth thrust) s = .next (State.transmitTurn
              { (u.setChannel c ch').setHead h { x with
                  subPhase := some .cut, deepest := d, peckCounter := d - x.peckStart } with
                table := { s.table with joints := s.table.joints.set i { j with result := res } } })) ∧
            (x.rate ≠ some r → exec (.drillSample h depth thrust) s = .next (State.transmitTurn
              { (u.setChannel c ch').setHead h { x with
                  subPhase := some .cut, deepest := d, peckCounter := d - x.peckStart, rate := some r,
                  order := some (.feed r) } with
                table := { s.table with joints := s.table.joints.set i { j with result := res } }
                outgoing := [.drive h (.feed r)] })))) ∧
      (∀ r : FeedRate, x.subPhase = some .peckRetract →
        r = (if (s.channel c).machine = .dip then .breakthrough
          else if 0 < x.active.b ∧ x.peckCounter < x.active.a then .reEntry else .cutting) →
        exec (.peckBack h) s = .next
          { s.cleared.setHead h { x with subPhase := some .peckReturn, rate := some r, order := some (.feed r) } with
            outgoing := [.drive h (.feed r)] })

/-- R51, R74, R83, R88, R89 to R92. A sample that ends the measurement releases the channel, records the outcome of its ending,
writes the joint's result and orders the retract; a RIVET joint that passes the drilling-end checks asks heater control
for its code first. The marks of the joint are made and
posted as for any sample. A waiting head is granted the released channel. -/
def Obligations.MeasurementEnds : Prop :=
  ∀ (s : State) (h : HeadNo) (c : ChannelNo) (i : Nat) (j : Joint) (x : Head) (depth thrust : Half) (ch ch' : Channel)
    (d : Nat) (e : Ending) (out : HeadOutcome) (code : Option RivetCode) (m res : JointResult)
    (sat full : Bool) (v : State), s.Quiet →
    x = s.head h → x.state = .drill → s.drillChannelOf h = some c → x.held = some i → s.joint? i = some j →
    d = depth.toNat → x.subPhase = some .cut ∨ x.subPhase = some .peckReturn → x.deepest < d →
    ch = (s.channel c).filter s.signature.filter d thrust.toInt →
    ch' = (ch.measure s.signature.filter d).limit s.signature.filter d → ch'.ending = some e →
    sat = (s.channel c).saturates s.signature.filter thrust.toInt → full = ch.overflows s.signature.filter d →
    v = (s.cleared.markOf .signalSaturated i j.result.saturated sat).markOf .layerOverflow i j.result.overflow full →
    m = { j.result with saturated := j.result.saturated || sat, overflow := j.result.overflow || full } →
    (e = .noMaterial ∧ out = .rejected .noMaterial ∧ code = none ∧ res = m ∨
      e = .depthLimit ∧ out = .rejected .depthLimit ∧ code = none ∧
        res = { m with entry := ch'.entry, layers := ch'.layers, boundaries := some ch'.boundaries } ∨
      ∃ a b, e = .finished ∧ ch'.entry = some a ∧ ch'.exit = some b ∧
        out = drillingChecks s.heater.table j.identity ch'.layers (b - a) ∧
        code = (if out = .good ∧ j.identity.kind = .rivet then
          lookupRivet s.heater.table j.identity.diameter (b - a) else none) ∧
        res = { m with
          entry := some a, exit := some b, grip := some (b - a), layers := ch'.layers,
          boundaries := some ch'.boundaries, code := code.or j.result.code }) →
      (s.signature.drillQueue = [] → ∀ u : State,
        u = { (v.setChannel c { ch' with holder := none }).setHead h { x with
                subPhase := some .cut, deepest := d, peckCounter := d - x.peckStart, phaseTimer := none,
                outcome := some out } with
              table := { s.table with joints := s.table.joints.set i { j with result := res } } } →
        (code = none → exec (.drillSample h depth thrust) s = .next (State.transmitTurn
          { u.setHead h { x with
              state := .retract, subPhase := none, deepest := d, peckCounter := d - x.peckStart, rate := none,
              outcome := some out, phaseTimer := some s.station.retractTime, order := some .retract } with
            outgoing := [.drive h .retract] })) ∧
        (∀ (k : RivetCode) (w : State), code = some k → w = u.drillingEndStep i k →
          exec (.drillSample h depth thrust) s = .next (State.transmitTurn
            { w.setHead h { w.head h with
                state := .retract, subPhase := none, rate := none, phaseTimer := some s.station.retractTime
                order := some .retract } with
              outgoing := w.outgoing ++ [.drive h .retract] }))) ∧
      (∀ g rest, s.signature.drillQueue = g :: rest → g ≠ h → code = none →
        ∃ t, exec (.drillSample h depth thrust) s = .next t ∧
          t.channel c =
            { Channel.cold with holder := some g, lastHolder := some g, joint := (s.head g).held } ∧
          (t.head g).state = .drill ∧ (t.head g).subPhase = some .cut ∧ t.signature.drillQueue = rest ∧
          (t.head h).state = .retract ∧ (t.head h).outcome = some out)

/-! ## Waiting for the rivet, feeding, setting and release (R52 to R57, R130 to R132) -/

/-- R52, R53, R54. RETRACT_DONE in RETRACT sends a joint with a rejection, or a HOLE joint, to RELEASE, and a RIVET
joint with outcome GOOD to AWAIT_RIVET, where the wait timer counts in RUNNING and DRAINING and is paused otherwise and
the head asks for a permit if its rivet is READY; the last head at a hold point ends HOLDING. When the wait timer
reaches 0 the outcome is RIVET_TIMEOUT, the head leaves the permit queue, its joint's use of the heater ends, and it
enters RELEASE. -/
def Obligations.RivetAwaited : Prop :=
  ∀ (s : State) (h : HeadNo) (i : Nat) (j : Joint) (x : Head), s.Quiet → s.PassRule → x = s.head h →
    x.held = some i → s.joint? i = some j → j.state.inWork = true →
      (x.state = .retract → x.outcome ≠ some .good ∨ j.identity.kind = .hole →
        exec (.retractDone h) s = .next
          { s.cleared.setHead h { x with
              state := .release, phaseTimer := some s.station.releaseTime, order := some .release } with
            table := { s.table with joints := s.table.joints.set i { j with state := .drilled } }
            outgoing := [.drive h .release] }) ∧
      (∀ u : State, x.state = .retract → x.outcome = some .good → j.identity.kind = .rivet →
        u = { s.cleared.setHead h { x with
                state := .awaitRivet, phaseTimer := none, order := none,
                rivetWait := if s.mode = .running ∨ s.mode = .draining then
                  .counting (s.station.rivetWaitLimit * 100) else .paused (s.station.rivetWaitLimit * 100) } with
              table := { s.table with joints := s.table.joints.set i { j with state := .drilled } } } →
        (s.mode = .running ∨ s.mode = .draining →
          exec (.retractDone h) s = .next (u.requestPermit h).transmitTurn) ∧
        (s.SharingRule → s.stampOf h = none ∨ s.mode = .held ∨ s.mode = .holding →
          (s.mode ≠ .holding ∨ ∃ g, g ≠ h ∧ (s.head g).state.atRest = false) →
          exec (.retractDone h) s = .next u) ∧
        (s.SharingRule → s.mode = .holding → (∀ g, g ≠ h → (s.head g).state.atRest = true) →
          exec (.retractDone h) s = .next (State.transmitTurn (State.post
            { u with control := { u.control with mode := .held, inProgress := none } } .modeChanged 5)))) ∧
      (∀ (n : Nat) (u : State), x.state = .awaitRivet → x.rivetWait = .counting n →
        u = { s.cleared.setHead h { x with
                state := .release, rivetWait := .stopped, outcome := some (.rejected .rivetTimeout),
                phaseTimer := some s.station.releaseTime, order := some .release } with
              arbiter := { s.arbiter with queue := s.arbiter.queue.filter (· ≠ h) }
              heater := { s.heater with orders := s.heater.orders.filter (fun o => o.joint ≠ i) }
              outgoing := [.drive h .release] } →
        (j.pocket = none → exec (.rivetWaitExpiry h) s = .next u) ∧
        (∀ p, j.pocket = some p → (∀ o ∈ s.heater.orders, (s.pocket p).code? ≠ some o.code) →
          exec (.rivetWaitExpiry h) s = .next
            { u.setPocket p ((s.pocket p).withOwner none) with
              table := { s.table with joints := s.table.joints.set i { j with pocket := none } } }))

/-- R130, R76, R77, R93, R56. FEED_DONE in FEED copies the class's force target into the permit, initialises the set
channel bound to it, and orders the set. Each SET_SAMPLE in SET writes the ring, the last stroke, the accumulator held
at its limits, and the peak force; the first that sets MV marks the joint and posts SIGNAL_SATURATED. -/
def Obligations.SetSamplesIntegrated : Prop :=
  ∀ (s : State) (h : HeadNo) (k : PermitNo) (g : PermitGrant) (i : Nat) (c : ChannelNo), s.Quiet →
    s.permitOf h = some k → s.permit k = some g → (s.head h).held = some i → c = (if k = 0 then 2 else 3) →
      (∀ cls : RivetClass, (s.head h).state = .feed → s.heater.classes[g.code] = some cls →
        exec (.feedDone h) s = .next
          { ((s.cleared.setHead h { s.head h with
                state := .set, phaseTimer := some s.station.setTime, order := some (.set cls.forceTarget) }).setChannel c
                  { Channel.cold with holder := some h, lastHolder := some h, joint := some i }).setPermit k
                    (some { g with forceTarget := some cls.forceTarget }) with
            outgoing := [.drive h (.set cls.forceTarget)] }) ∧
      (∀ (stroke force : Half) (j : Joint) (ch ch' : Channel) (a : Int), (s.head h).state = .set →
        s.joint? i = some j → ch = s.channel c →
        a = ch.accumulator + 2 * force.toInt * (s.signature.filter.setWeight : Int) →
        ch' = { ch with
          ring := ch.ring.set ch.writeIndex force.toInt, writeIndex := ch.writeIndex + 1,
          sampleCount := min 65535 (ch.sampleCount + 1), lastStroke := some stroke.toNat,
          accumulator := max (-34359738368) (min 34359738367 a),
          mv := ch.mv || decide (a < -34359738368 ∨ 34359738367 < a),
          peakForce := some ((ch.peakForce.map (max · force.toInt)).getD force.toInt) } →
        ((InAccumulator a ∨ j.result.saturated = true) →
          exec (.setSample h stroke force) s = .next (s.cleared.setChannel c ch')) ∧
        (¬ InAccumulator a → j.result.saturated = false →
          exec (.setSample h stroke force) s = .next (State.transmitTurn (State.post
            { s.cleared.setChannel c ch' with
              table := { s.table with joints := s.table.joints.set i { j with
                result := { j.result with saturated := true } } } } .signalSaturated i))))

/-- R131, R132, R94, R83, R134. SET_DONE in SET forms the set work from the accumulator and verifies the set by the first of three
checks that fails: the peak force against the force target, the work against the least and against the greatest. The
rivet code, the work and the peak are written into the joint, the permit and its channel become FREE, and the head
enters RELEASE with the outcome. A set whose MV or EV is set marks the joint, and posts SIGNAL_SATURATED where it is the
joint's first. The heads that wait are then granted the freed permit. -/
def Obligations.SetVerified : Prop :=
  ∀ (s : State) (h : HeadNo) (k : PermitNo) (g : PermitGrant) (c : ChannelNo) (j : Joint) (cls : RivetClass)
    (ch : Channel) (target work peak : Int) (outside : Prop) (out : HeadOutcome), s.Quiet → (s.head h).state = .set →
    s.permitOf h = some k → s.permit k = some g → (s.head h).held = some g.joint → s.joint? g.joint = some j →
    c = (if k = 0 then 2 else 3) → ch = s.channel c → g.forceTarget = some target →
    s.heater.classes[g.code] = some cls →
    outside = (ch.accumulator < -2147483648 ∨ 2147483647 < ch.accumulator) →
    (ch.accumulator < -2147483648 → work = -32768) → (2147483647 < ch.accumulator → work = 32767) →
    (¬ outside → work = min 32767 ((ch.accumulator + 32768) / 65536)) → peak = ch.peakForce.getD 0 →
    (peak < target ∧ out = .rejected .setForceShort ∨
      target ≤ peak ∧ work < cls.workMin ∧ out = .rejected .setWorkLow ∨
      target ≤ peak ∧ cls.workMin ≤ work ∧ cls.workMax < work ∧ out = .rejected .setWorkHigh ∨
      target ≤ peak ∧ cls.workMin ≤ work ∧ work ≤ cls.workMax ∧ out = .good) →
      ∀ (ev : Bool) (u v : State), (ev = true ↔ ch.ev = true ∨ outside) →
        u = s.cleared.markOf .signalSaturated g.joint j.result.saturated (ch.mv || ev) →
        v = { ((u.setHead h { s.head h with
                state := .release, outcome := some out, phaseTimer := some s.station.releaseTime,
                order := some .release }).setChannel c
                  { ch with setWork := some work, ev, machine := .finished, holder := none }).setPermit k none with
            table := { s.table with joints := s.table.joints.set g.joint { j with
              result := { j.result with
                code := some g.code, setWork := some work, peakForce := some peak
                saturated := j.result.saturated || ch.mv || ev } } }
            outgoing := [.drive h .release] } →
        exec (.setDone h) s = .next v.grantAll.transmitTurn ∧
          (s.arbiter.queue = [] → exec (.setDone h) s = .next v.transmitTurn)

/-- R57, R5, R20 to R22, R154, R155. RELEASE_DONE in RELEASE gives the joint the head's outcome, with the phase it was
decided in and whether the reason is reworkable, puts the head into IDLE and recomputes the current pass. In RUNNING
the reports of R21 and R22 and a dispatch round follow, or PROGRAM_COMPLETE in ARMED where no joint counts, its record
carrying ARMED (the model's choice, log entry 16); in DRAINING
the last joint in work ends the drain, and in HOLDING the last head at a hold point ends the hold. -/
def Obligations.ReleaseDoneTaken : Prop :=
  ∀ (s u v : State) (h : HeadNo) (i : Nat) (j j' : Joint) (x : Head) (out : HeadOutcome), s.Quiet → x = s.head h →
    x.state = .release → x.held = some i → s.joint? i = some j → j.state.inWork = true → j.pocket = none →
    (∀ o ∈ s.heater.orders, o.joint ≠ i) → x.outcome = some out →
    (out = .good ∧ j' = { j with state := .complete } ∨
      ∃ r, out = .rejected r ∧ j' = { j with
        state := .rejected
        rejection := some ⟨r, decide (r ≠ .setForceShort ∧ r ≠ .setWorkLow ∧ r ≠ .setWorkHigh)⟩
        phaseAtEnd := some (if r = .rivetTimeout then .awaitRivet
          else if r = .setForceShort ∨ r = .setWorkLow ∨ r = .setWorkHigh then .set else .drill) }) →
    u = { s.cleared.setHead h { x with
            state := .idle, phaseTimer := none, held := none, outcome := none, target := none, order := none } with
          table := { s.table with
            joints := s.table.joints.set i j', currentPass := currentPassOf (s.table.joints.set i j') } } →
    v = (if out = .good then u else u.post .jointRejected i) →
      (s.mode = .running → u.table.currentPass ≠ none →
        exec (.releaseDone h) s = .next (State.transmitTurn
          ((v.postAdvance s.table.currentPass).postBlocked false).round)) ∧
      (s.mode = .running → u.table.currentPass = none → s.table.currentPass ≠ none →
        exec (.releaseDone h) s = .next (State.transmitTurn
          ((State.post { v with control := { v.control with mode := .armed, inProgress := none } } .modeChanged 2).post
            .programComplete (u.table.joints.countP (fun y => y.state == .complete))))) ∧
      (s.mode = .draining →
        exec (.releaseDone h) s = .next (State.transmitTurn
          (if ∃ y ∈ u.table.joints, y.state.inWork = true then v else
            State.post { v with control := { v.control with mode := .armed, inProgress := none } } .modeChanged 2))) ∧
      (s.mode = .holding →
        exec (.releaseDone h) s = .next (State.transmitTurn
          (if ∃ g, g ≠ h ∧ (s.head g).state.atRest = false then v else
            State.post { v with control := { v.control with mode := .held, inProgress := none } } .modeChanged 5)))

/-! ## Faults and events that are not taken (R41, R42, R58, R61) -/

/-- R42, R58, R61, R6, R75, R149. A DRIVE_FAULT, or a phase timer that runs out, puts a head that is homing, idle or in
a joint's phases into FAULT with its fault record and sends STOP; its claim and position stay, the joint it held is
REJECTED with HEAD_FAULT, marked reworkable unless it was SETTING, and HEAD_FAULT is posted. In ARMING a homing fault
ends ARM in SETUP with ARM_FAILED, whose record carries SETUP, the mode after the change (the model's choice, log entry
16). A DRIVE_FAULT in FAULT posts HEAD_FAULT alone. -/
def Obligations.HeadFaults : Prop :=
  ∀ (s : State) (h : HeadNo) (code : Byte) (c : Instr) (cause : FaultCause) (x : Head), s.Quiet → x = s.head h →
    (c = .driveFault h code ∧ cause = .drive code ∨
      c = .phaseTimeout h ∧ x.phaseTimer ≠ none ∧ cause = .timeout x.state) →
      (x.state ≠ .parked → x.state ≠ .stopped → x.state ≠ .fault → x.state ≠ .offline →
        (s.drillChannelOf h = none ∨ h ∉ s.signature.drillQueue) →
        (s.permitOf h = none ∨ h ∉ s.arbiter.queue) →
        ∃ t, exec c s = .next t ∧
          t.head h = { x with
            state := .fault, subPhase := none, held := none, target := none, outcome := none, rate := none,
            phaseTimer := none, rivetWait := .stopped, fault := some ⟨cause, x.state, x.held, s.time⟩,
            order := some .stop } ∧
          t.claim h = s.claim h ∧ s.Occurred t .headFault h.val s.mode ∧
          (∀ i j, x.held = some i → s.joint? i = some j → (∀ g, g ≠ h → (s.head g).held ≠ some i) →
            j.pocket = none → (s.permitOf h = none ∨ ∀ o ∈ s.heater.orders, o.joint ≠ i) →
            (s.mode ≠ .arming ∨ x.state ≠ .homing) →
            t.joint? i = some { j with
              state := .rejected, rejection := some ⟨.headFault, decide (j.state ∈
                [JointState.assigned, .drilling, .drilled])⟩, phaseAtEnd := some x.state } ∧
              (∀ o ∈ t.heater.orders, o.joint ≠ i) ∧ s.Occurred t .jointRejected i s.mode) ∧
          (∀ d, s.drillChannelOf h = some d → s.signature.drillQueue = [] →
            t.channel d = { s.channel d with holder := none, ending := some .cutShort }) ∧
          (s.mode = .arming → x.state = .homing →
            t.mode = .setup ∧ s.Occurred t .armFailed 3 .setup ∧ ∀ j ∈ t.table.joints, j.corrected = none) ∧
          (s.mode ≠ .running → s.mode ≠ .arming → s.signature.drillQueue = [] → s.arbiter.queue = [] →
            (∀ i ∈ x.held, ∀ j, s.joint? i = some j → j.pocket = none) →
            (∀ g, g ≠ h → t.head g = s.head g) ∧ t.dispatcher = s.dispatcher ∧
              t.heater = { s.heater with orders := t.heater.orders } ∧
              (∀ i, x.held ≠ some i → t.joint? i = s.joint? i) ∧ t.table.datum = s.table.datum ∧ t.time = s.time ∧
              t.outgoing = [.drive h .stop])) ∧
      (x.state = .fault → exec (.driveFault h code) s = .next (s.cleared.post .headFault h.val).transmitTurn)

/-- R41, R42, R46, R56, R58, R104 to R108. An event that finds its head or its pocket in another state than the one it
ends changes nothing; nor does an event of a pocket above 5. -/
def Obligations.EventsIgnored : Prop :=
  ∀ (s : State) (h : HeadNo) (p : PocketNo) (code : Byte) (a b : Half), s.Settled →
    ((s.head h).state ≠ .homing → exec (.homeDone h) s = .next s.cleared) ∧
    ((s.head h).state ≠ .travel → exec (.travelDone h) s = .next s.cleared) ∧
    ((s.head h).state ≠ .clamp → exec (.clampDone h) s = .next s.cleared) ∧
    ((s.head h).state ≠ .drill ∨ (s.head h).subPhase = some .peckRetract ∨ a.toNat ≤ (s.head h).deepest →
      exec (.drillSample h a b) s = .next s.cleared) ∧
    ((s.head h).state ≠ .drill ∨ (s.head h).subPhase ≠ some .peckRetract → exec (.peckBack h) s = .next s.cleared) ∧
    ((s.head h).state ≠ .retract → exec (.retractDone h) s = .next s.cleared) ∧
    ((s.head h).state ≠ .feed → exec (.feedDone h) s = .next s.cleared) ∧
    ((s.head h).state ≠ .set →
      exec (.setSample h a b) s = .next s.cleared ∧ exec (.setDone h) s = .next s.cleared) ∧
    ((s.head h).state ≠ .release → exec (.releaseDone h) s = .next s.cleared) ∧
    ((s.head h).state ≠ .awaitRivet → exec (.rivetWaitExpiry h) s = .next s.cleared) ∧
    ((s.head h).state = .parked ∨ (s.head h).state = .stopped ∨ (s.head h).state = .offline →
      exec (.driveFault h code) s = .next s.cleared) ∧
    ((s.head h).phaseTimer = none → exec (.phaseTimeout h) s = .next s.cleared) ∧
    ((∀ c o t, s.pocket p ≠ .loading c o t) → exec (.loadDone (BitVec.ofNat 8 p.val)) s = .next s.cleared) ∧
    ((∀ c o t, s.pocket p ≠ .heating c o t) → exec (.heatTimeExpiry p) s = .next s.cleared) ∧
    ((∀ c o t st, s.pocket p ≠ .ready c o t st) → exec (.holdWindowExpiry p) s = .next s.cleared) ∧
    ((∀ c t, s.pocket p ≠ .ejecting c t) →
      exec (.ejectDone (BitVec.ofNat 8 p.val)) s = .next s.cleared ∧
        ((∀ c o t, s.pocket p ≠ .loading c o t) → exec (.portTimerExpiry p) s = .next s.cleared)) ∧
    (6 ≤ code.toNat → exec (.loadDone code) s = .next s.cleared ∧ exec (.ejectDone code) s = .next s.cleared)

/-! ## The heater (R105 to R108, R117, R118) -/

/-- R105 to R108. LOAD_DONE starts the heat timer with the class's heat time; at its end the pocket is READY with its
hold window and ready stamp, and the head that holds its owner is told. At the end of the hold window the rivet is
ejected and RIVET_SCRAPPED posted, and an owner seeks another. EJECT_DONE empties the pocket, and a serving step
follows. A port timer that runs out disables the pocket and posts HEATER_FAULT, and an owner seeks another at the front
of its class. -/
def Obligations.PocketsTimed : Prop :=
  ∀ (s : State) (p : PocketNo) (c : RivetCode) (o : Option Nat) (n : Nat), s.Quiet →
    (∀ cls : RivetClass, s.heater.classes[c] = some cls →
      (s.pocket p = .loading c o n → exec (.loadDone (BitVec.ofNat 8 p.val)) s =
        .next (s.cleared.setPocket p (.heating c o (cls.heatTime * 100)))) ∧
      (∀ u : State, s.pocket p = .heating c o n →
        u = s.cleared.setPocket p (.ready c o (cls.holdWindow * 100) s.time) →
        (o = none → exec (.heatTimeExpiry p) s = .next u) ∧
        (∀ i, o = some i → s.holderOf i = none → exec (.heatTimeExpiry p) s = .next u) ∧
        (∀ i h, o = some i → s.holderOf i = some h →
          exec (.heatTimeExpiry p) s = .next (u.requestPermit h).transmitTurn) ∧
        (∀ i h, o = some i → s.holderOf i = some h → s.SharingRule →
          ((s.head h).state ≠ .awaitRivet ∨ s.mode ≠ .running ∧ s.mode ≠ .draining) →
          exec (.heatTimeExpiry p) s = .next u))) ∧
    (∀ (st : Stamp) (u : State), s.pocket p = .ready c o n st →
      u = State.post { s.cleared.setPocket p (.ejecting c s.station.ejectTime) with
        outgoing := [.heater (.eject p)] } .rivetScrapped p.val →
      (o = none → exec (.holdWindowExpiry p) s = .next u.transmitTurn) ∧
      (∀ i, o = some i → s.holderOf i = none → exec (.holdWindowExpiry p) s =
        .next ((u.setJointPocket i none).seek i c false).transmitTurn) ∧
      (∀ i h, o = some i → s.holderOf i = some h → exec (.holdWindowExpiry p) s =
        .next (((u.setJointPocket i none).setPermitQueue (u.arbiter.queue.filter (· ≠ h))).seek i c false).transmitTurn)) ∧
    (s.pocket p = .ejecting c n →
      (s.heater.orders = [] → exec (.ejectDone (BitVec.ofNat 8 p.val)) s = .next (s.cleared.setPocket p .empty)) ∧
      exec (.ejectDone (BitVec.ofNat 8 p.val)) s = .next (s.cleared.setPocket p .empty).serve.transmitTurn ∧
      exec (.portTimerExpiry p) s =
        .next ((s.cleared.setPocket p .disabled).post .heaterFault p.val).transmitTurn) ∧
    (s.pocket p = .loading c o n →
      (o = none → exec (.portTimerExpiry p) s =
        .next ((s.cleared.setPocket p .disabled).post .heaterFault p.val).transmitTurn) ∧
      (∀ i, o = some i → exec (.portTimerExpiry p) s =
        .next ((((s.cleared.setPocket p .disabled).post .heaterFault p.val).setJointPocket i none).seek i c
          true).transmitTurn))

/-- R110, R112. A joint that seeks a rivet takes the best pocket that holds one of its code unowned, its head being told;
with none it places an order at the tail of its class, or at the front where the rule says so, DEMAND before PRE-HEAT
(R111), and a serving step follows. Its class is PRE-HEAT before drilling end and DEMAND after; a rejected joint does not
seek.
R114. At drilling end a joint keeps a pocket of the measured code and releases one of another code; then it takes the
best unowned pocket of the code, or places a DEMAND order at the tail of its class; an order it held before leaves its
place, also where it takes a pocket (the model's reading, log entry 14).
R115. A released pocket keeps its state, code and timer, and passes to the first order of its code, which leaves the
queue; with no such order it stays unowned. -/
def Obligations.RivetsSought : Prop :=
  (∀ (s u : State) (i : Nat) (j : Joint) (c : RivetCode) (p : PocketNo) (cls : OrderClass) (front : Bool),
    s.Best c p → s.joint? i = some j → u = s.owning p i j →
      (s.holderOf i = none → s.seekAs i c cls front = u) ∧
      (∀ h, s.holderOf i = some h → s.seekAs i c cls front = u.requestPermit h)) ∧
  (∀ (s : State) (i : Nat) (c : RivetCode) (ds ps q : List HeatOrder) (cls : OrderClass) (front : Bool),
    (∀ p, ¬ s.Takeable c p) → s.heater.orders = ds ++ ps → (∀ o ∈ ds, o.cls = .demand) →
    (∀ o ∈ ps, o.cls = .preHeat) →
    (cls = .demand ∧ front = false ∧ q = ds ++ ⟨.demand, c, i⟩ :: ps ∨
      cls = .demand ∧ front = true ∧ q = ⟨.demand, c, i⟩ :: ds ++ ps ∨
      cls = .preHeat ∧ front = false ∧ q = ds ++ ps ++ [⟨.preHeat, c, i⟩] ∨
      cls = .preHeat ∧ front = true ∧ q = ds ++ ⟨.preHeat, c, i⟩ :: ps) →
      s.seekAs i c cls front = State.serve { s with heater := { s.heater with orders := q } }) ∧
  (∀ (s : State) (i : Nat) (c : RivetCode) (front : Bool),
    ((∀ h, s.holderOf i = some h → (s.head h).outcome = none) → s.seek i c front = s.seekAs i c .preHeat front) ∧
    (∀ h, s.holderOf i = some h → (s.head h).outcome = some .good →
      s.seek i c front = s.seekAs i c .demand front) ∧
    (∀ h r, s.holderOf i = some h → (s.head h).outcome = some (.rejected r) → s.seek i c front = s)) ∧
  (∀ (s : State) (i : Nat) (j : Joint) (c : RivetCode), s.joint? i = some j →
    (∀ p, j.pocket = some p → (s.pocket p).code? = some c → s.drillingEndStep i c = s) ∧
    (∀ p, j.pocket = some p → (s.pocket p).code? ≠ some c → (∀ o ∈ s.heater.orders, o.joint ≠ i) →
      s.drillingEndStep i c = (s.releasePocket p i).drillingEndStep i c) ∧
    (j.pocket = none →
      (∀ (p : PocketNo) (u : State), s.Best c p →
        u = { s.owning p i j with heater := { (s.owning p i j).heater with
          orders := s.heater.orders.filter (fun o => o.joint ≠ i) } } →
        (s.holderOf i = none → s.drillingEndStep i c = u) ∧
        (∀ h, s.holderOf i = some h → s.drillingEndStep i c = u.requestPermit h)) ∧
      (∀ ds ps : List HeatOrder, (∀ p, ¬ s.Takeable c p) →
        s.heater.orders.filter (fun o => o.joint ≠ i) = ds ++ ps → (∀ o ∈ ds, o.cls = .demand) →
        (∀ o ∈ ps, o.cls = .preHeat) →
        s.drillingEndStep i c =
          State.serve { s with heater := { s.heater with orders := ds ++ ⟨.demand, c, i⟩ :: ps } }))) ∧
  (∀ (s v : State) (i : Nat) (j : Joint) (p : PocketNo) (d : RivetCode), s.joint? i = some j →
    (s.pocket p).code? = some d →
    v = { s with
      table := { s.table with joints := s.table.joints.set i { j with pocket := none } }
      heater := { s.heater with pockets := s.heater.pockets.set p ((s.pocket p).withOwner none) } } →
      ((∀ o ∈ s.heater.orders, o.code ≠ d) → s.releasePocket p i = v) ∧
      (∀ (first rest : List HeatOrder) (o : HeatOrder) (j' : Joint) (u : State),
        s.heater.orders = first ++ o :: rest → (∀ e ∈ first, e.code ≠ d) → o.code = d → o.joint ≠ i →
        s.joint? o.joint = some j' →
        u = { v.owning p o.joint j' with heater := { (v.owning p o.joint j').heater with orders := first ++ rest } } →
        (s.holderOf o.joint = none → s.releasePocket p i = u) ∧
        (∀ h, s.holderOf o.joint = some h → s.releasePocket p i = u.requestPermit h)))

/-- R117, R118. After a serving step no pocket is EMPTY or every order waits on an empty magazine. One that finds one
EMPTY pocket serves the first order whose magazine is not empty: it leaves the queue, the pocket enters LOADING with
the joint as owner and the load timeout, LOAD is sent and the count falls by 1; MAGAZINE_EMPTY is posted once for each
code left waiting. Outside the serving modes, or with no pocket EMPTY, nothing happens. -/
def Obligations.ServingStep : Prop :=
  ∀ s : State,
    (s.mode = .setup ∨ s.mode = .arming ∨ s.mode = .aborted ∨ (∀ p, s.pocket p ≠ .empty) → s.serve = s) ∧
    (s.mode ≠ .setup → s.mode ≠ .arming → s.mode ≠ .aborted →
      ((∀ p, s.serve.pocket p ≠ .empty) ∨
        ∀ o ∈ s.serve.heater.orders, s.serve.heater.magazines[o.code] = 0) ∧
      ∀ (p : PocketNo) (o : HeatOrder) (first rest : List HeatOrder) (j : Joint) (u : State),
        (∀ q, s.pocket q = .empty ↔ q = p) → s.heater.orders = first ++ o :: rest →
        (∀ e ∈ first, s.heater.magazines[e.code] = 0) → 0 < s.heater.magazines[o.code] →
        s.joint? o.joint = some j →
        u = { s with
          table := { s.table with joints := s.table.joints.set o.joint { j with pocket := some p } }
          heater := { s.heater with
            orders := first ++ rest
            magazines := s.heater.magazines.set o.code (s.heater.magazines[o.code] - 1)
            pockets := s.heater.pockets.set p (.loading o.code (some o.joint) s.station.loadTime) }
          outgoing := s.outgoing ++ [.heater (.load p o.code)] } →
        s.serve = u.starvedCodes.foldl (fun t c => t.post .magazineEmpty c.val) u) ∧
    s.starvedCodes.Nodup ∧
    ∀ c, c ∈ s.starvedCodes ↔ s.heater.magazines[c] = 0 ∧ ∃ o ∈ s.heater.orders, o.code = c

/-! ## Permits (R125 to R129) -/

/-- R125 to R129, R55, R134. A head in AWAIT_RIVET whose rivet is READY, in RUNNING or DRAINING, that asks while a permit
is FREE is granted the lowest: the permit records head, joint and code, the head takes the rivet and enters FEED, its
joint is SETTING, the pocket is EMPTY, and a serving step follows. With no permit FREE it takes its place in the queue,
behind every head whose rivet is hotter, that is, READY for longer. A head that does not ask, waits or holds a permit
joins nothing.
R127. While a permit is FREE the head at the front of the queue is granted the lowest in the same way, and then the next;
with no permit FREE, or nobody waiting, nothing is granted.
R128. Where requests are raised again with the queue empty, every head that asks is taken into it in one event, the
hottest rivet first and of equals the lower head, and permits are granted from the front. -/
def Obligations.PermitGranted : Prop :=
  (∀ (s : State) (h : HeadNo) (i : Nat) (j : Joint) (p : PocketNo) (c : RivetCode) (o : Option Nat) (n : Nat)
    (st : Stamp), (s.head h).held = some i → s.joint? i = some j → j.pocket = some p → s.pocket p = .ready c o n st →
      (∀ (k : PermitNo) (rest : List HeadNo) (u : State), s.PassRule → j.state.inWork = true → s.permit k = none →
        (k = 0 ∨ s.permit 0 ≠ none) →
        u = { (s.setHead h { s.head h with
                state := .feed, rivetWait := .stopped, phaseTimer := some s.station.feedTime,
                order := some (.takeRivet p) }).setPocket p .empty with
              arbiter := { permits := s.arbiter.permits.set k (some ⟨h, i, c, none⟩), queue := rest }
              table := { s.table with joints := s.table.joints.set i { j with state := .setting, pocket := none } }
              outgoing := s.outgoing ++ [.drive h (.takeRivet p)] } →
        (s.Asks h → s.permitOf h = none → s.arbiter.queue = [] → rest = [] → s.requestPermit h = u.serve) ∧
        (s.arbiter.queue = h :: rest → s.grantAll = u.serve.grantAll)) ∧
      (s.Asks h → s.permitOf h = none → h ∉ s.arbiter.queue → (∀ k, s.permit k ≠ none) →
        ∃ a b, s.arbiter.queue = a ++ b ∧
          s.requestPermit h = { s with arbiter := { s.arbiter with queue := a ++ h :: b } } ∧
          (∀ g ∈ a, s.readyFor h < s.readyFor g ∨ s.readyFor h = s.readyFor g ∧ g ≤ h) ∧
          ∀ g ∈ b.head?, s.readyFor g < s.readyFor h ∨ s.readyFor h = s.readyFor g ∧ h < g)) ∧
  (∀ (s : State) (h : HeadNo), ¬ s.Asks h ∨ s.permitOf h ≠ none ∨ h ∈ s.arbiter.queue →
    s.requestPermit h = s.grantAll) ∧
  (∀ (s : State) (h : HeadNo) (st : Stamp), s.stampOf h = some st ↔ ∃ i j p c o n, (s.head h).held = some i ∧
    s.joint? i = some j ∧ j.pocket = some p ∧ s.pocket p = .ready c o n st) ∧
  (∀ (s : State) (h : HeadNo) (st : Stamp), s.stampOf h = some st → s.readyFor h = (s.time - st).toNat) ∧
  (∀ s : State, s.arbiter.queue = [] ∨ (∀ k, s.permit k ≠ none) → s.grantAll = s) ∧
  (∀ s : State, s.arbiter.queue = [] →
    ∃ q, s.reRaise = State.grantAll { s with arbiter := { s.arbiter with queue := q } } ∧
      (∀ h, h ∈ q ↔ s.Asks h ∧ s.permitOf h = none) ∧
      q.Pairwise (fun g h => s.readyFor h < s.readyFor g ∨ s.readyFor h = s.readyFor g ∧ g < h))

/-! ## Dispatch (R26, R27, R33 to R36) -/

/-- R34, R26. A head's search takes the first joint, upward from index 0 for a lower head and downward from the last
index for an upper one, that meets the six conditions.
R33, R35, R27, R36. In RUNNING a round serves the heads in ascending number. An IDLE head whose search finds a joint
is given it: the joint is ASSIGNED to it, its claim is the travel span, it enters TRAVEL with the target and the travel
timeout, and a joint with an expected grip whose code the rivet table gives seeks a pre-heat; a head that is not IDLE,
or finds nothing, is passed over. Outside RUNNING no round is searched. -/
def Obligations.DispatchRound : Prop :=
  (∀ (s : State) (h : HeadNo) (p i : Nat),
      s.search h p = some i ↔ s.CanTake h p i ∧
        ∀ i', s.CanTake h p i' → if h.val % 2 = 0 then i ≤ i' else i' ≤ i) ∧
  (∀ s : State,
      (s.mode ≠ .running → s.round = s) ∧
      (s.mode = .running →
        s.round = (((s.serveHead 0).serveHead 1).serveHead 2).serveHead 3) ∧
      (∀ h, (s.head h).state ≠ .idle → s.serveHead h = s) ∧
      (∀ h p, (s.head h).position = some p → s.search h p = none → s.serveHead h = s) ∧
      ∀ (h : HeadNo) (p i t : Nat) (j : Joint) (u : State), s.PassRule → (s.head h).state = .idle →
        (s.head h).position = some p → s.search h p = some i → s.joint? i = some j → j.corrected = some t →
        u = { (s.setHead h { s.head h with
                state := .travel, held := some i, target := some t, phaseTimer := some s.station.travelTime,
                order := some (.move t) }).setClaim h (some ⟨min p t, max p t⟩) with
              table := { s.table with joints := s.table.joints.set i { j with
                state := .assigned, head := some h, pocket := none } }
              outgoing := s.outgoing ++ [.drive h (.move t)] } →
          ((j.identity.kind = .hole ∨ j.identity.expectedGrip = none ∨
            (∃ g, j.identity.expectedGrip = some g ∧ lookupRivet s.heater.table j.identity.diameter g = none)) →
            s.serveHead h = u) ∧
          (∀ g code, j.identity.kind = .rivet → j.identity.expectedGrip = some g →
            lookupRivet s.heater.table j.identity.diameter g = some code →
            s.serveHead h = u.seekAs i code .preHeat false))

/-! ## Signals and measurement (R78 to R91, R99) -/

/-- R78 to R81, R83, R84. The ring gives the newest sample first; a filter pass whose partial sums stay within 36 bits gives
twice the sum of taps and samples, and one step outside is held at the limit with MV; the output is the accumulator
over 65,536, rounded to nearest with halves up, held at sixteen bits, EV being set outside 32 bits alone. A drill
channel's sample goes through these, MV and EV staying set, and records its depth less N - 1; it
saturates where its own pass sets MV or EV.
R88, R90. A sample overflows where its output, taken at a recorded depth from 0, is a rebound in DIP beside eight layers.
The depth limit ends a measurement that is not FINISHED at a sample as deep as it: with NO_MATERIAL in WAITING and
DEPTH_LIMIT otherwise. -/
def Obligations.FilterComputed : Prop :=
  (∀ (c : Channel) (x : Int), ringRead (c.push x).ring (c.push x).writeIndex 0 = x ∧
    ∀ k, k < 15 → ringRead (c.push x).ring (c.push x).writeIndex (k + 1) = ringRead c.ring c.writeIndex k) ∧
  (∀ (ring : Vector Int 16) (w : Fin 16) (taps : List Int),
    (∀ n, n ≤ taps.length → InAccumulator
      (2 * ((List.range n).map (fun k => taps.getD k 0 * ringRead ring w k)).sum)) →
    filterPass ring w taps =
      (2 * ((List.range taps.length).map (fun k => taps.getD k 0 * ringRead ring w k)).sum, false)) ∧
  (∀ (a c x : Int) (m : Bool), addProduct (a, m) c x =
    (max (-34359738368) (min 34359738367 (a + 2 * c * x)),
      m || decide (a + 2 * c * x < -34359738368 ∨ 34359738367 < a + 2 * c * x))) ∧
  (∀ (c : Channel) (f : FilterSettings) (depth : Nat) (x : Int) (r : Int × Bool),
    r = filterPass (c.push x).ring (c.push x).writeIndex f.taps →
    c.filter f depth x = { c.push x with
      accumulator := r.1, mv := c.mv || r.2, ev := c.ev || (convert r.1).2, lastOutput := some (convert r.1).1,
      lastDepth := some ((depth : Int) - ((f.taps.length - 1 : Nat) : Int)) } ∧
    c.saturates f x = (r.2 || (convert r.1).2)) ∧
  (∀ (c : Channel) (f : FilterSettings) (depth : Nat), (c.overflows f depth = true ↔
      f.taps.length - 1 ≤ depth ∧ c.machine = .dip ∧
        (∃ v, c.valley = some v ∧ v + (f.rebound : Int) ≤ c.lastOutput.getD 0) ∧ ∃ n, c.layers = some n ∧ 8 ≤ n) ∧
    c.limit f depth = { c with ending :=
      if c.machine = .finished ∨ depth < f.depthLimit then c.ending
      else if c.machine = .waiting then some .noMaterial else some .depthLimit }) ∧
  ∀ a : Int, (-2147483648 ≤ a → a ≤ 2147483647 → convert a = (min 32767 ((a + 32768) / 65536), false)) ∧
    (2147483647 < a → convert a = (32767, true)) ∧ (a < -2147483648 → convert a = (-32768, true))

/-- R84. The machine takes the output at its recorded depth, the sample's depth less N - 1; below 0 it takes nothing.
R85. In WAITING the first output from T_e on is the entry, with one layer and itself as the peak, and CUTTING is entered.
R86. In CUTTING the peak rises with the output; below the peak times r over 32,768, rounded down, DIP is entered with the
output as the valley.
R87, R88. In DIP an output from the valley plus M on is a rebound: beside fewer than eight layers the valley's depth is a
boundary and the layers rise by one, and CUTTING is entered with the output as the peak. Another output may deepen the
valley; below T_x it lengthens the exit run, which starts at its own depth, and from T_x on it breaks it.
R89. When the run reaches K, the exit is the run's start and the measurement has FINISHED; nothing more is taken.
R85 to R89. Whatever outputs the machine takes from its initial state at rising depths, a measurement that ends
normally finds the stack in order: the entry lies above the first interface, the interfaces lie in ascending depth, the
last above the exit; there is one layer more than interfaces, and never more than eight; and every depth found is the
depth of an output taken. -/
def Obligations.StackMeasured : Prop :=
  (∀ (c : Channel) (f : FilterSettings) (depth : Nat) (y : Int), c.lastOutput = some y →
    (depth < f.taps.length - 1 → c.measure f depth = c) ∧
    (f.taps.length - 1 ≤ depth → c.measure f depth = c.take f y (depth - (f.taps.length - 1)))) ∧
  (∀ (c : Channel) (f : FilterSettings) (y : Int) (d : Nat),
    (c.machine = .waiting →
      ((f.engage : Int) ≤ y → c.take f y d = { c with
        entry := some d, layers := some 1, boundaries := [], peak := some y, machine := .cutting }) ∧
      (y < f.engage → c.take f y d = c)) ∧
    (∀ p q level : Int, c.machine = .cutting → c.peak = some p → q = max p y →
      32768 * level ≤ q * f.dropRatio → q * f.dropRatio < 32768 * (level + 1) →
      (y < level → c.take f y d = { c with
        peak := some q, valley := some y, valleyDepth := some d, runCount := 0, runStart := none, machine := .dip }) ∧
      (level ≤ y → c.take f y d = { c with peak := some q })) ∧
    (∀ v : Int, c.machine = .dip → c.valley = some v →
      (v + f.rebound ≤ y → ∀ n w, c.layers = some n → c.valleyDepth = some w →
        (n < 8 → c.take f y d = { c with
          boundaries := c.boundaries ++ [w], layers := some (n + 1), peak := some y, runCount := 0, runStart := none
          machine := .cutting }) ∧
        (8 ≤ n → c.take f y d = { c with peak := some y, runCount := 0, runStart := none, machine := .cutting })) ∧
      (∀ c' : Channel, y < v + f.rebound →
        c' = (if y < v then { c with valley := some y, valleyDepth := some d } else c) →
        ((f.exitLevel : Int) ≤ y → 1 ≤ f.confirm → c.take f y d = { c' with runCount := 0, runStart := none }) ∧
        (∀ start : Option Nat, y < f.exitLevel → start = (if c.runCount = 0 then some d else c.runStart) →
          (c.runCount + 1 < f.confirm →
            c.take f y d = { c' with runCount := c.runCount + 1, runStart := start }) ∧
          (f.confirm ≤ c.runCount + 1 → c.take f y d = { c' with
            runCount := c.runCount + 1, runStart := start, exit := start, machine := .finished
            ending := some .finished })))) ∧
    (c.machine = .finished → c.take f y d = c)) ∧
  (∀ (f : FilterSettings) (h : HeadNo) (i : Option Nat) (ys : List (Int × Nat)) (c : Channel), 1 ≤ f.confirm →
    (ys.map Prod.snd).Pairwise (· < ·) →
    c = ys.foldl (fun c y => c.take f y.1 y.2) (Channel.grantTo h i) → c.ending = some .finished →
      ∃ a b, c.entry = some a ∧ c.exit = some b ∧ (a :: c.boundaries ++ [b]).Pairwise (· < ·) ∧
        c.layers = some (c.boundaries.length + 1) ∧ c.boundaries.length ≤ 7 ∧ c.grip = some (b - a) ∧
        ∀ d ∈ a :: c.boundaries ++ [b], d ∈ ys.map Prod.snd)

/-- R91, R99. The drilling-end checks in their order: a layer count other than the expected one, a grip off the expected
one by more than the tolerance, a RIVET joint whose class and grip no table entry holds; the lookup gives the code of the
first entry that holds them. -/
def Obligations.DrillingEndChecked : Prop :=
  ∀ (table : List RivetEntry) (d : JointIdentity) (layers : Option Nat) (grip : Nat) (mismatch out norivet : Prop),
    mismatch = (∃ n, d.expectedLayers = some n ∧ layers ≠ some n) →
    out = (∃ g t, d.expectedGrip = some g ∧ d.tolerance = some t ∧ (grip + t < g ∨ g + t < grip)) →
    norivet = (d.kind = .rivet ∧
      ∀ e ∈ table, e.diameter = d.diameter → grip < e.gripMin ∨ e.gripMax < grip) →
    d.tolerance.isSome = d.expectedGrip.isSome →
      (mismatch → drillingChecks table d layers grip = .rejected .layerMismatch) ∧
      (¬ mismatch → out → drillingChecks table d layers grip = .rejected .gripOutOfTolerance) ∧
      (¬ mismatch → ¬ out → norivet → drillingChecks table d layers grip = .rejected .noRivetForGrip) ∧
      (¬ mismatch → ¬ out → ¬ norivet → drillingChecks table d layers grip = .good) ∧
      ∀ code, lookupRivet table d.diameter grip = some code ↔
        ∃ first e rest, table = first ++ e :: rest ∧ e.diameter = d.diameter ∧ e.gripMin ≤ grip ∧ grip ≤ e.gripMax ∧
          e.code = code ∧ ∀ e' ∈ first, e'.diameter = d.diameter → grip < e'.gripMin ∨ e'.gripMax < grip

/-! ## The rules every step keeps -/

/-- R173, R178 to R181. Every step keeps the link's rule. -/
def Obligations.LinkRuleKept : Prop := ∀ s t : State, s.LinkRule → step s = .next t → t.LinkRule

/-- R163, R166, R168. Every step keeps the report queue's rule. -/
def Obligations.ReportRuleKept : Prop := ∀ s t : State, s.ReportRule → step s = .next t → t.ReportRule

/-- R1, R10, R15, R20. Every step keeps the current pass the lowest with a joint that counts, and the table within its
bounds.
R20. A joint counts that is PENDING, in work or LOCKED, or REJECTED with key set; the current pass of a table is the lowest
pass with a joint that counts, and absent where none does. -/
def Obligations.ProgramRulesKept : Prop :=
  (∀ s t : State, step s = .next t → (s.PassRule → t.PassRule) ∧ (s.TableRule → t.TableRule)) ∧
  ∀ js : List Joint,
    (∀ p, currentPassOf js = some p ↔
      (∃ j ∈ js, j.Counts ∧ j.identity.pass = p) ∧ ∀ j ∈ js, j.Counts → p ≤ j.identity.pass) ∧
    (currentPassOf js = none ↔ ∀ j ∈ js, ¬ j.Counts)

/-- R140, R145, R74, R127. Every step keeps the directive in progress that of the mode, no directive waiting without a
reason, and no head waiting beside a FREE permit or drill channel. -/
def Obligations.ModeAndSharingRulesKept : Prop :=
  ∀ s t : State, step s = .next t → (s.ModeRule → t.ModeRule) ∧ (s.SharingRule → t.SharingRule)

/-- R100 to R102, R111, R147. Every step keeps every code the rivet table can return defined while the station works,
the magazine counts within range, and DEMAND orders ahead of PRE-HEAT orders. -/
def Obligations.HeaterRulesKept : Prop :=
  ∀ s t : State, step s = .next t → (s.ClassRule → t.ClassRule) ∧ (s.HeaterRule → t.HeaterRule)

/-- R71, R80, R81, R87 to R89, R95. Every step keeps every figure of every channel record within its range, and the
filter settings: the accumulator, counts, samples, outputs, peak, valley, run count, layers, boundary count, peak force
and set work, with the fields that are present or absent by the machine's state, the run and the ending.
R71, R84. A step that takes a well-formed command, or none, also keeps every depth and the last stroke within reach. (A
sample that no drive sends is taken as it is, the model's choice, log entry 15.) -/
def Obligations.ChannelRuleKept : Prop :=
  ∀ s t : State, s.ChannelRule → step s = .next t →
    t.ChannelRule ∧ ((∀ c ∈ s.pending.head?, c.wellFormed = true) → s.DepthRule → t.DepthRule)

/-- R26. On each rail the heads keep clear of each other, whatever happens: every step keeps the claims of the two heads
compatible, every claim and position on the rail, and every travelling head's target within its claim. -/
def Obligations.RailRuleKept : Prop := ∀ s t : State, s.RailRule → step s = .next t → t.RailRule

/-- The state after reset meets every rule that steps keep. -/
def Obligations.ResetMeetsRules : Prop :=
  State.reset.LinkRule ∧ State.reset.ReportRule ∧ State.reset.PassRule ∧ State.reset.TableRule ∧
    State.reset.ModeRule ∧ State.reset.SharingRule ∧ State.reset.ClassRule ∧ State.reset.HeaterRule ∧
    State.reset.ChannelRule ∧ State.reset.DepthRule ∧ State.reset.RailRule

end Statements
end

