-- ==== Sys2Proof/Laws/State.lean ====
section
/-! SUPPORT. Laws/State.lean: for every update of the state, the fields it leaves as they are, and what reading gives
back what writing put. -/

namespace Sys2Proof.Machine

/-! ### setHead -/

@[simp] theorem State.setHead_table (s : State) (h : HeadNo) (x : Head) : (s.setHead h x).table = s.table := rfl
@[simp] theorem State.setHead_dispatcher (s : State) (h : HeadNo) (x : Head) : (s.setHead h x).dispatcher = s.dispatcher := rfl
@[simp] theorem State.setHead_signature (s : State) (h : HeadNo) (x : Head) : (s.setHead h x).signature = s.signature := rfl
@[simp] theorem State.setHead_heater (s : State) (h : HeadNo) (x : Head) : (s.setHead h x).heater = s.heater := rfl
@[simp] theorem State.setHead_arbiter (s : State) (h : HeadNo) (x : Head) : (s.setHead h x).arbiter = s.arbiter := rfl
@[simp] theorem State.setHead_control (s : State) (h : HeadNo) (x : Head) : (s.setHead h x).control = s.control := rfl
@[simp] theorem State.setHead_reports (s : State) (h : HeadNo) (x : Head) : (s.setHead h x).reports = s.reports := rfl
@[simp] theorem State.setHead_link (s : State) (h : HeadNo) (x : Head) : (s.setHead h x).link = s.link := rfl
@[simp] theorem State.setHead_time (s : State) (h : HeadNo) (x : Head) : (s.setHead h x).time = s.time := rfl
@[simp] theorem State.setHead_outgoing (s : State) (h : HeadNo) (x : Head) : (s.setHead h x).outgoing = s.outgoing := rfl
@[simp] theorem State.setHead_pending (s : State) (h : HeadNo) (x : Head) : (s.setHead h x).pending = s.pending := rfl

/-! ### modHead -/

@[simp] theorem State.modHead_table (s : State) (h : HeadNo) (f : Head → Head) : (s.modHead h f).table = s.table := rfl
@[simp] theorem State.modHead_dispatcher (s : State) (h : HeadNo) (f : Head → Head) : (s.modHead h f).dispatcher = s.dispatcher := rfl
@[simp] theorem State.modHead_signature (s : State) (h : HeadNo) (f : Head → Head) : (s.modHead h f).signature = s.signature := rfl
@[simp] theorem State.modHead_heater (s : State) (h : HeadNo) (f : Head → Head) : (s.modHead h f).heater = s.heater := rfl
@[simp] theorem State.modHead_arbiter (s : State) (h : HeadNo) (f : Head → Head) : (s.modHead h f).arbiter = s.arbiter := rfl
@[simp] theorem State.modHead_control (s : State) (h : HeadNo) (f : Head → Head) : (s.modHead h f).control = s.control := rfl
@[simp] theorem State.modHead_reports (s : State) (h : HeadNo) (f : Head → Head) : (s.modHead h f).reports = s.reports := rfl
@[simp] theorem State.modHead_link (s : State) (h : HeadNo) (f : Head → Head) : (s.modHead h f).link = s.link := rfl
@[simp] theorem State.modHead_time (s : State) (h : HeadNo) (f : Head → Head) : (s.modHead h f).time = s.time := rfl
@[simp] theorem State.modHead_outgoing (s : State) (h : HeadNo) (f : Head → Head) : (s.modHead h f).outgoing = s.outgoing := rfl
@[simp] theorem State.modHead_pending (s : State) (h : HeadNo) (f : Head → Head) : (s.modHead h f).pending = s.pending := rfl

/-! ### setClaim -/

@[simp] theorem State.setClaim_table (s : State) (h : HeadNo) (c : Option Claim) : (s.setClaim h c).table = s.table := rfl
@[simp] theorem State.setClaim_heads (s : State) (h : HeadNo) (c : Option Claim) : (s.setClaim h c).heads = s.heads := rfl
@[simp] theorem State.setClaim_signature (s : State) (h : HeadNo) (c : Option Claim) : (s.setClaim h c).signature = s.signature := rfl
@[simp] theorem State.setClaim_heater (s : State) (h : HeadNo) (c : Option Claim) : (s.setClaim h c).heater = s.heater := rfl
@[simp] theorem State.setClaim_arbiter (s : State) (h : HeadNo) (c : Option Claim) : (s.setClaim h c).arbiter = s.arbiter := rfl
@[simp] theorem State.setClaim_control (s : State) (h : HeadNo) (c : Option Claim) : (s.setClaim h c).control = s.control := rfl
@[simp] theorem State.setClaim_reports (s : State) (h : HeadNo) (c : Option Claim) : (s.setClaim h c).reports = s.reports := rfl
@[simp] theorem State.setClaim_link (s : State) (h : HeadNo) (c : Option Claim) : (s.setClaim h c).link = s.link := rfl
@[simp] theorem State.setClaim_time (s : State) (h : HeadNo) (c : Option Claim) : (s.setClaim h c).time = s.time := rfl
@[simp] theorem State.setClaim_outgoing (s : State) (h : HeadNo) (c : Option Claim) : (s.setClaim h c).outgoing = s.outgoing := rfl
@[simp] theorem State.setClaim_pending (s : State) (h : HeadNo) (c : Option Claim) : (s.setClaim h c).pending = s.pending := rfl

/-! ### sendDrive -/

@[simp] theorem State.sendDrive_table (s : State) (h : HeadNo) (o : DriveOrder) : (s.sendDrive h o).table = s.table := rfl
@[simp] theorem State.sendDrive_dispatcher (s : State) (h : HeadNo) (o : DriveOrder) : (s.sendDrive h o).dispatcher = s.dispatcher := rfl
@[simp] theorem State.sendDrive_signature (s : State) (h : HeadNo) (o : DriveOrder) : (s.sendDrive h o).signature = s.signature := rfl
@[simp] theorem State.sendDrive_heater (s : State) (h : HeadNo) (o : DriveOrder) : (s.sendDrive h o).heater = s.heater := rfl
@[simp] theorem State.sendDrive_arbiter (s : State) (h : HeadNo) (o : DriveOrder) : (s.sendDrive h o).arbiter = s.arbiter := rfl
@[simp] theorem State.sendDrive_control (s : State) (h : HeadNo) (o : DriveOrder) : (s.sendDrive h o).control = s.control := rfl
@[simp] theorem State.sendDrive_reports (s : State) (h : HeadNo) (o : DriveOrder) : (s.sendDrive h o).reports = s.reports := rfl
@[simp] theorem State.sendDrive_link (s : State) (h : HeadNo) (o : DriveOrder) : (s.sendDrive h o).link = s.link := rfl
@[simp] theorem State.sendDrive_time (s : State) (h : HeadNo) (o : DriveOrder) : (s.sendDrive h o).time = s.time := rfl
@[simp] theorem State.sendDrive_pending (s : State) (h : HeadNo) (o : DriveOrder) : (s.sendDrive h o).pending = s.pending := rfl

/-! ### sendHeater -/

@[simp] theorem State.sendHeater_table (s : State) (o : HeaterOrder) : (s.sendHeater o).table = s.table := rfl
@[simp] theorem State.sendHeater_dispatcher (s : State) (o : HeaterOrder) : (s.sendHeater o).dispatcher = s.dispatcher := rfl
@[simp] theorem State.sendHeater_heads (s : State) (o : HeaterOrder) : (s.sendHeater o).heads = s.heads := rfl
@[simp] theorem State.sendHeater_signature (s : State) (o : HeaterOrder) : (s.sendHeater o).signature = s.signature := rfl
@[simp] theorem State.sendHeater_heater (s : State) (o : HeaterOrder) : (s.sendHeater o).heater = s.heater := rfl
@[simp] theorem State.sendHeater_arbiter (s : State) (o : HeaterOrder) : (s.sendHeater o).arbiter = s.arbiter := rfl
@[simp] theorem State.sendHeater_control (s : State) (o : HeaterOrder) : (s.sendHeater o).control = s.control := rfl
@[simp] theorem State.sendHeater_reports (s : State) (o : HeaterOrder) : (s.sendHeater o).reports = s.reports := rfl
@[simp] theorem State.sendHeater_link (s : State) (o : HeaterOrder) : (s.sendHeater o).link = s.link := rfl
@[simp] theorem State.sendHeater_time (s : State) (o : HeaterOrder) : (s.sendHeater o).time = s.time := rfl
@[simp] theorem State.sendHeater_pending (s : State) (o : HeaterOrder) : (s.sendHeater o).pending = s.pending := rfl

/-! ### enterPhase -/

@[simp] theorem State.enterPhase_table (s : State) (h : HeadNo) (ph : HeadState) (n : Nat) (o : DriveOrder) : (s.enterPhase h ph n o).table = s.table := rfl
@[simp] theorem State.enterPhase_dispatcher (s : State) (h : HeadNo) (ph : HeadState) (n : Nat) (o : DriveOrder) : (s.enterPhase h ph n o).dispatcher = s.dispatcher := rfl
@[simp] theorem State.enterPhase_signature (s : State) (h : HeadNo) (ph : HeadState) (n : Nat) (o : DriveOrder) : (s.enterPhase h ph n o).signature = s.signature := rfl
@[simp] theorem State.enterPhase_heater (s : State) (h : HeadNo) (ph : HeadState) (n : Nat) (o : DriveOrder) : (s.enterPhase h ph n o).heater = s.heater := rfl
@[simp] theorem State.enterPhase_arbiter (s : State) (h : HeadNo) (ph : HeadState) (n : Nat) (o : DriveOrder) : (s.enterPhase h ph n o).arbiter = s.arbiter := rfl
@[simp] theorem State.enterPhase_control (s : State) (h : HeadNo) (ph : HeadState) (n : Nat) (o : DriveOrder) : (s.enterPhase h ph n o).control = s.control := rfl
@[simp] theorem State.enterPhase_reports (s : State) (h : HeadNo) (ph : HeadState) (n : Nat) (o : DriveOrder) : (s.enterPhase h ph n o).reports = s.reports := rfl
@[simp] theorem State.enterPhase_link (s : State) (h : HeadNo) (ph : HeadState) (n : Nat) (o : DriveOrder) : (s.enterPhase h ph n o).link = s.link := rfl
@[simp] theorem State.enterPhase_time (s : State) (h : HeadNo) (ph : HeadState) (n : Nat) (o : DriveOrder) : (s.enterPhase h ph n o).time = s.time := rfl
@[simp] theorem State.enterPhase_pending (s : State) (h : HeadNo) (ph : HeadState) (n : Nat) (o : DriveOrder) : (s.enterPhase h ph n o).pending = s.pending := rfl

/-! ### modJoint -/

@[simp] theorem State.modJoint_dispatcher (s : State) (i : Nat) (f : Joint → Joint) : (s.modJoint i f).dispatcher = s.dispatcher := rfl
@[simp] theorem State.modJoint_heads (s : State) (i : Nat) (f : Joint → Joint) : (s.modJoint i f).heads = s.heads := rfl
@[simp] theorem State.modJoint_signature (s : State) (i : Nat) (f : Joint → Joint) : (s.modJoint i f).signature = s.signature := rfl
@[simp] theorem State.modJoint_heater (s : State) (i : Nat) (f : Joint → Joint) : (s.modJoint i f).heater = s.heater := rfl
@[simp] theorem State.modJoint_arbiter (s : State) (i : Nat) (f : Joint → Joint) : (s.modJoint i f).arbiter = s.arbiter := rfl
@[simp] theorem State.modJoint_control (s : State) (i : Nat) (f : Joint → Joint) : (s.modJoint i f).control = s.control := rfl
@[simp] theorem State.modJoint_reports (s : State) (i : Nat) (f : Joint → Joint) : (s.modJoint i f).reports = s.reports := rfl
@[simp] theorem State.modJoint_link (s : State) (i : Nat) (f : Joint → Joint) : (s.modJoint i f).link = s.link := rfl
@[simp] theorem State.modJoint_time (s : State) (i : Nat) (f : Joint → Joint) : (s.modJoint i f).time = s.time := rfl
@[simp] theorem State.modJoint_outgoing (s : State) (i : Nat) (f : Joint → Joint) : (s.modJoint i f).outgoing = s.outgoing := rfl
@[simp] theorem State.modJoint_pending (s : State) (i : Nat) (f : Joint → Joint) : (s.modJoint i f).pending = s.pending := rfl

/-! ### mapJoints -/

@[simp] theorem State.mapJoints_dispatcher (s : State) (f : Joint → Joint) : (s.mapJoints f).dispatcher = s.dispatcher := rfl
@[simp] theorem State.mapJoints_heads (s : State) (f : Joint → Joint) : (s.mapJoints f).heads = s.heads := rfl
@[simp] theorem State.mapJoints_signature (s : State) (f : Joint → Joint) : (s.mapJoints f).signature = s.signature := rfl
@[simp] theorem State.mapJoints_heater (s : State) (f : Joint → Joint) : (s.mapJoints f).heater = s.heater := rfl
@[simp] theorem State.mapJoints_arbiter (s : State) (f : Joint → Joint) : (s.mapJoints f).arbiter = s.arbiter := rfl
@[simp] theorem State.mapJoints_control (s : State) (f : Joint → Joint) : (s.mapJoints f).control = s.control := rfl
@[simp] theorem State.mapJoints_reports (s : State) (f : Joint → Joint) : (s.mapJoints f).reports = s.reports := rfl
@[simp] theorem State.mapJoints_link (s : State) (f : Joint → Joint) : (s.mapJoints f).link = s.link := rfl
@[simp] theorem State.mapJoints_time (s : State) (f : Joint → Joint) : (s.mapJoints f).time = s.time := rfl
@[simp] theorem State.mapJoints_outgoing (s : State) (f : Joint → Joint) : (s.mapJoints f).outgoing = s.outgoing := rfl
@[simp] theorem State.mapJoints_pending (s : State) (f : Joint → Joint) : (s.mapJoints f).pending = s.pending := rfl

/-! ### dropCorrected -/

@[simp] theorem State.dropCorrected_dispatcher (s : State) : s.dropCorrected.dispatcher = s.dispatcher := rfl
@[simp] theorem State.dropCorrected_heads (s : State) : s.dropCorrected.heads = s.heads := rfl
@[simp] theorem State.dropCorrected_signature (s : State) : s.dropCorrected.signature = s.signature := rfl
@[simp] theorem State.dropCorrected_heater (s : State) : s.dropCorrected.heater = s.heater := rfl
@[simp] theorem State.dropCorrected_arbiter (s : State) : s.dropCorrected.arbiter = s.arbiter := rfl
@[simp] theorem State.dropCorrected_control (s : State) : s.dropCorrected.control = s.control := rfl
@[simp] theorem State.dropCorrected_reports (s : State) : s.dropCorrected.reports = s.reports := rfl
@[simp] theorem State.dropCorrected_link (s : State) : s.dropCorrected.link = s.link := rfl
@[simp] theorem State.dropCorrected_time (s : State) : s.dropCorrected.time = s.time := rfl
@[simp] theorem State.dropCorrected_outgoing (s : State) : s.dropCorrected.outgoing = s.outgoing := rfl
@[simp] theorem State.dropCorrected_pending (s : State) : s.dropCorrected.pending = s.pending := rfl

/-! ### setJointPocket -/

@[simp] theorem State.setJointPocket_dispatcher (s : State) (i : Nat) (p : Option PocketNo) : (s.setJointPocket i p).dispatcher = s.dispatcher := rfl
@[simp] theorem State.setJointPocket_heads (s : State) (i : Nat) (p : Option PocketNo) : (s.setJointPocket i p).heads = s.heads := rfl
@[simp] theorem State.setJointPocket_signature (s : State) (i : Nat) (p : Option PocketNo) : (s.setJointPocket i p).signature = s.signature := rfl
@[simp] theorem State.setJointPocket_heater (s : State) (i : Nat) (p : Option PocketNo) : (s.setJointPocket i p).heater = s.heater := rfl
@[simp] theorem State.setJointPocket_arbiter (s : State) (i : Nat) (p : Option PocketNo) : (s.setJointPocket i p).arbiter = s.arbiter := rfl
@[simp] theorem State.setJointPocket_control (s : State) (i : Nat) (p : Option PocketNo) : (s.setJointPocket i p).control = s.control := rfl
@[simp] theorem State.setJointPocket_reports (s : State) (i : Nat) (p : Option PocketNo) : (s.setJointPocket i p).reports = s.reports := rfl
@[simp] theorem State.setJointPocket_link (s : State) (i : Nat) (p : Option PocketNo) : (s.setJointPocket i p).link = s.link := rfl
@[simp] theorem State.setJointPocket_time (s : State) (i : Nat) (p : Option PocketNo) : (s.setJointPocket i p).time = s.time := rfl
@[simp] theorem State.setJointPocket_outgoing (s : State) (i : Nat) (p : Option PocketNo) : (s.setJointPocket i p).outgoing = s.outgoing := rfl
@[simp] theorem State.setJointPocket_pending (s : State) (i : Nat) (p : Option PocketNo) : (s.setJointPocket i p).pending = s.pending := rfl

/-! ### setChannel -/

@[simp] theorem State.setChannel_table (s : State) (c : ChannelNo) (x : Channel) : (s.setChannel c x).table = s.table := rfl
@[simp] theorem State.setChannel_dispatcher (s : State) (c : ChannelNo) (x : Channel) : (s.setChannel c x).dispatcher = s.dispatcher := rfl
@[simp] theorem State.setChannel_heads (s : State) (c : ChannelNo) (x : Channel) : (s.setChannel c x).heads = s.heads := rfl
@[simp] theorem State.setChannel_heater (s : State) (c : ChannelNo) (x : Channel) : (s.setChannel c x).heater = s.heater := rfl
@[simp] theorem State.setChannel_arbiter (s : State) (c : ChannelNo) (x : Channel) : (s.setChannel c x).arbiter = s.arbiter := rfl
@[simp] theorem State.setChannel_control (s : State) (c : ChannelNo) (x : Channel) : (s.setChannel c x).control = s.control := rfl
@[simp] theorem State.setChannel_reports (s : State) (c : ChannelNo) (x : Channel) : (s.setChannel c x).reports = s.reports := rfl
@[simp] theorem State.setChannel_link (s : State) (c : ChannelNo) (x : Channel) : (s.setChannel c x).link = s.link := rfl
@[simp] theorem State.setChannel_time (s : State) (c : ChannelNo) (x : Channel) : (s.setChannel c x).time = s.time := rfl
@[simp] theorem State.setChannel_outgoing (s : State) (c : ChannelNo) (x : Channel) : (s.setChannel c x).outgoing = s.outgoing := rfl
@[simp] theorem State.setChannel_pending (s : State) (c : ChannelNo) (x : Channel) : (s.setChannel c x).pending = s.pending := rfl

/-! ### modChannel -/

@[simp] theorem State.modChannel_table (s : State) (c : ChannelNo) (f : Channel → Channel) : (s.modChannel c f).table = s.table := rfl
@[simp] theorem State.modChannel_dispatcher (s : State) (c : ChannelNo) (f : Channel → Channel) : (s.modChannel c f).dispatcher = s.dispatcher := rfl
@[simp] theorem State.modChannel_heads (s : State) (c : ChannelNo) (f : Channel → Channel) : (s.modChannel c f).heads = s.heads := rfl
@[simp] theorem State.modChannel_heater (s : State) (c : ChannelNo) (f : Channel → Channel) : (s.modChannel c f).heater = s.heater := rfl
@[simp] theorem State.modChannel_arbiter (s : State) (c : ChannelNo) (f : Channel → Channel) : (s.modChannel c f).arbiter = s.arbiter := rfl
@[simp] theorem State.modChannel_control (s : State) (c : ChannelNo) (f : Channel → Channel) : (s.modChannel c f).control = s.control := rfl
@[simp] theorem State.modChannel_reports (s : State) (c : ChannelNo) (f : Channel → Channel) : (s.modChannel c f).reports = s.reports := rfl
@[simp] theorem State.modChannel_link (s : State) (c : ChannelNo) (f : Channel → Channel) : (s.modChannel c f).link = s.link := rfl
@[simp] theorem State.modChannel_time (s : State) (c : ChannelNo) (f : Channel → Channel) : (s.modChannel c f).time = s.time := rfl
@[simp] theorem State.modChannel_outgoing (s : State) (c : ChannelNo) (f : Channel → Channel) : (s.modChannel c f).outgoing = s.outgoing := rfl
@[simp] theorem State.modChannel_pending (s : State) (c : ChannelNo) (f : Channel → Channel) : (s.modChannel c f).pending = s.pending := rfl

/-! ### setDrillQueue -/

@[simp] theorem State.setDrillQueue_table (s : State) (q : List HeadNo) : (s.setDrillQueue q).table = s.table := rfl
@[simp] theorem State.setDrillQueue_dispatcher (s : State) (q : List HeadNo) : (s.setDrillQueue q).dispatcher = s.dispatcher := rfl
@[simp] theorem State.setDrillQueue_heads (s : State) (q : List HeadNo) : (s.setDrillQueue q).heads = s.heads := rfl
@[simp] theorem State.setDrillQueue_heater (s : State) (q : List HeadNo) : (s.setDrillQueue q).heater = s.heater := rfl
@[simp] theorem State.setDrillQueue_arbiter (s : State) (q : List HeadNo) : (s.setDrillQueue q).arbiter = s.arbiter := rfl
@[simp] theorem State.setDrillQueue_control (s : State) (q : List HeadNo) : (s.setDrillQueue q).control = s.control := rfl
@[simp] theorem State.setDrillQueue_reports (s : State) (q : List HeadNo) : (s.setDrillQueue q).reports = s.reports := rfl
@[simp] theorem State.setDrillQueue_link (s : State) (q : List HeadNo) : (s.setDrillQueue q).link = s.link := rfl
@[simp] theorem State.setDrillQueue_time (s : State) (q : List HeadNo) : (s.setDrillQueue q).time = s.time := rfl
@[simp] theorem State.setDrillQueue_outgoing (s : State) (q : List HeadNo) : (s.setDrillQueue q).outgoing = s.outgoing := rfl
@[simp] theorem State.setDrillQueue_pending (s : State) (q : List HeadNo) : (s.setDrillQueue q).pending = s.pending := rfl

/-! ### setFilter -/

@[simp] theorem State.setFilter_table (s : State) (f : FilterSettings) : (s.setFilter f).table = s.table := rfl
@[simp] theorem State.setFilter_dispatcher (s : State) (f : FilterSettings) : (s.setFilter f).dispatcher = s.dispatcher := rfl
@[simp] theorem State.setFilter_heads (s : State) (f : FilterSettings) : (s.setFilter f).heads = s.heads := rfl
@[simp] theorem State.setFilter_heater (s : State) (f : FilterSettings) : (s.setFilter f).heater = s.heater := rfl
@[simp] theorem State.setFilter_arbiter (s : State) (f : FilterSettings) : (s.setFilter f).arbiter = s.arbiter := rfl
@[simp] theorem State.setFilter_control (s : State) (f : FilterSettings) : (s.setFilter f).control = s.control := rfl
@[simp] theorem State.setFilter_reports (s : State) (f : FilterSettings) : (s.setFilter f).reports = s.reports := rfl
@[simp] theorem State.setFilter_link (s : State) (f : FilterSettings) : (s.setFilter f).link = s.link := rfl
@[simp] theorem State.setFilter_time (s : State) (f : FilterSettings) : (s.setFilter f).time = s.time := rfl
@[simp] theorem State.setFilter_outgoing (s : State) (f : FilterSettings) : (s.setFilter f).outgoing = s.outgoing := rfl
@[simp] theorem State.setFilter_pending (s : State) (f : FilterSettings) : (s.setFilter f).pending = s.pending := rfl

/-! ### setPocket -/

@[simp] theorem State.setPocket_table (s : State) (p : PocketNo) (x : Pocket) : (s.setPocket p x).table = s.table := rfl
@[simp] theorem State.setPocket_dispatcher (s : State) (p : PocketNo) (x : Pocket) : (s.setPocket p x).dispatcher = s.dispatcher := rfl
@[simp] theorem State.setPocket_heads (s : State) (p : PocketNo) (x : Pocket) : (s.setPocket p x).heads = s.heads := rfl
@[simp] theorem State.setPocket_signature (s : State) (p : PocketNo) (x : Pocket) : (s.setPocket p x).signature = s.signature := rfl
@[simp] theorem State.setPocket_arbiter (s : State) (p : PocketNo) (x : Pocket) : (s.setPocket p x).arbiter = s.arbiter := rfl
@[simp] theorem State.setPocket_control (s : State) (p : PocketNo) (x : Pocket) : (s.setPocket p x).control = s.control := rfl
@[simp] theorem State.setPocket_reports (s : State) (p : PocketNo) (x : Pocket) : (s.setPocket p x).reports = s.reports := rfl
@[simp] theorem State.setPocket_link (s : State) (p : PocketNo) (x : Pocket) : (s.setPocket p x).link = s.link := rfl
@[simp] theorem State.setPocket_time (s : State) (p : PocketNo) (x : Pocket) : (s.setPocket p x).time = s.time := rfl
@[simp] theorem State.setPocket_outgoing (s : State) (p : PocketNo) (x : Pocket) : (s.setPocket p x).outgoing = s.outgoing := rfl
@[simp] theorem State.setPocket_pending (s : State) (p : PocketNo) (x : Pocket) : (s.setPocket p x).pending = s.pending := rfl

/-! ### setOrders -/

@[simp] theorem State.setOrders_table (s : State) (q : List HeatOrder) : (s.setOrders q).table = s.table := rfl
@[simp] theorem State.setOrders_dispatcher (s : State) (q : List HeatOrder) : (s.setOrders q).dispatcher = s.dispatcher := rfl
@[simp] theorem State.setOrders_heads (s : State) (q : List HeatOrder) : (s.setOrders q).heads = s.heads := rfl
@[simp] theorem State.setOrders_signature (s : State) (q : List HeatOrder) : (s.setOrders q).signature = s.signature := rfl
@[simp] theorem State.setOrders_arbiter (s : State) (q : List HeatOrder) : (s.setOrders q).arbiter = s.arbiter := rfl
@[simp] theorem State.setOrders_control (s : State) (q : List HeatOrder) : (s.setOrders q).control = s.control := rfl
@[simp] theorem State.setOrders_reports (s : State) (q : List HeatOrder) : (s.setOrders q).reports = s.reports := rfl
@[simp] theorem State.setOrders_link (s : State) (q : List HeatOrder) : (s.setOrders q).link = s.link := rfl
@[simp] theorem State.setOrders_time (s : State) (q : List HeatOrder) : (s.setOrders q).time = s.time := rfl
@[simp] theorem State.setOrders_outgoing (s : State) (q : List HeatOrder) : (s.setOrders q).outgoing = s.outgoing := rfl
@[simp] theorem State.setOrders_pending (s : State) (q : List HeatOrder) : (s.setOrders q).pending = s.pending := rfl

/-! ### restorePockets -/

@[simp] theorem State.restorePockets_table (s : State) : s.restorePockets.table = s.table := rfl
@[simp] theorem State.restorePockets_dispatcher (s : State) : s.restorePockets.dispatcher = s.dispatcher := rfl
@[simp] theorem State.restorePockets_heads (s : State) : s.restorePockets.heads = s.heads := rfl
@[simp] theorem State.restorePockets_signature (s : State) : s.restorePockets.signature = s.signature := rfl
@[simp] theorem State.restorePockets_arbiter (s : State) : s.restorePockets.arbiter = s.arbiter := rfl
@[simp] theorem State.restorePockets_control (s : State) : s.restorePockets.control = s.control := rfl
@[simp] theorem State.restorePockets_reports (s : State) : s.restorePockets.reports = s.reports := rfl
@[simp] theorem State.restorePockets_link (s : State) : s.restorePockets.link = s.link := rfl
@[simp] theorem State.restorePockets_time (s : State) : s.restorePockets.time = s.time := rfl
@[simp] theorem State.restorePockets_outgoing (s : State) : s.restorePockets.outgoing = s.outgoing := rfl
@[simp] theorem State.restorePockets_pending (s : State) : s.restorePockets.pending = s.pending := rfl

/-! ### setRivetTable -/

@[simp] theorem State.setRivetTable_table (s : State) (es : List RivetEntry) : (s.setRivetTable es).table = s.table := rfl
@[simp] theorem State.setRivetTable_dispatcher (s : State) (es : List RivetEntry) : (s.setRivetTable es).dispatcher = s.dispatcher := rfl
@[simp] theorem State.setRivetTable_heads (s : State) (es : List RivetEntry) : (s.setRivetTable es).heads = s.heads := rfl
@[simp] theorem State.setRivetTable_signature (s : State) (es : List RivetEntry) : (s.setRivetTable es).signature = s.signature := rfl
@[simp] theorem State.setRivetTable_arbiter (s : State) (es : List RivetEntry) : (s.setRivetTable es).arbiter = s.arbiter := rfl
@[simp] theorem State.setRivetTable_control (s : State) (es : List RivetEntry) : (s.setRivetTable es).control = s.control := rfl
@[simp] theorem State.setRivetTable_reports (s : State) (es : List RivetEntry) : (s.setRivetTable es).reports = s.reports := rfl
@[simp] theorem State.setRivetTable_link (s : State) (es : List RivetEntry) : (s.setRivetTable es).link = s.link := rfl
@[simp] theorem State.setRivetTable_time (s : State) (es : List RivetEntry) : (s.setRivetTable es).time = s.time := rfl
@[simp] theorem State.setRivetTable_outgoing (s : State) (es : List RivetEntry) : (s.setRivetTable es).outgoing = s.outgoing := rfl
@[simp] theorem State.setRivetTable_pending (s : State) (es : List RivetEntry) : (s.setRivetTable es).pending = s.pending := rfl

/-! ### setClass -/

@[simp] theorem State.setClass_table (s : State) (c : RivetCode) (x : Option RivetClass) : (s.setClass c x).table = s.table := rfl
@[simp] theorem State.setClass_dispatcher (s : State) (c : RivetCode) (x : Option RivetClass) : (s.setClass c x).dispatcher = s.dispatcher := rfl
@[simp] theorem State.setClass_heads (s : State) (c : RivetCode) (x : Option RivetClass) : (s.setClass c x).heads = s.heads := rfl
@[simp] theorem State.setClass_signature (s : State) (c : RivetCode) (x : Option RivetClass) : (s.setClass c x).signature = s.signature := rfl
@[simp] theorem State.setClass_arbiter (s : State) (c : RivetCode) (x : Option RivetClass) : (s.setClass c x).arbiter = s.arbiter := rfl
@[simp] theorem State.setClass_control (s : State) (c : RivetCode) (x : Option RivetClass) : (s.setClass c x).control = s.control := rfl
@[simp] theorem State.setClass_reports (s : State) (c : RivetCode) (x : Option RivetClass) : (s.setClass c x).reports = s.reports := rfl
@[simp] theorem State.setClass_link (s : State) (c : RivetCode) (x : Option RivetClass) : (s.setClass c x).link = s.link := rfl
@[simp] theorem State.setClass_time (s : State) (c : RivetCode) (x : Option RivetClass) : (s.setClass c x).time = s.time := rfl
@[simp] theorem State.setClass_outgoing (s : State) (c : RivetCode) (x : Option RivetClass) : (s.setClass c x).outgoing = s.outgoing := rfl
@[simp] theorem State.setClass_pending (s : State) (c : RivetCode) (x : Option RivetClass) : (s.setClass c x).pending = s.pending := rfl

/-! ### setMagazine -/

@[simp] theorem State.setMagazine_table (s : State) (c : RivetCode) (n : Nat) : (s.setMagazine c n).table = s.table := rfl
@[simp] theorem State.setMagazine_dispatcher (s : State) (c : RivetCode) (n : Nat) : (s.setMagazine c n).dispatcher = s.dispatcher := rfl
@[simp] theorem State.setMagazine_heads (s : State) (c : RivetCode) (n : Nat) : (s.setMagazine c n).heads = s.heads := rfl
@[simp] theorem State.setMagazine_signature (s : State) (c : RivetCode) (n : Nat) : (s.setMagazine c n).signature = s.signature := rfl
@[simp] theorem State.setMagazine_arbiter (s : State) (c : RivetCode) (n : Nat) : (s.setMagazine c n).arbiter = s.arbiter := rfl
@[simp] theorem State.setMagazine_control (s : State) (c : RivetCode) (n : Nat) : (s.setMagazine c n).control = s.control := rfl
@[simp] theorem State.setMagazine_reports (s : State) (c : RivetCode) (n : Nat) : (s.setMagazine c n).reports = s.reports := rfl
@[simp] theorem State.setMagazine_link (s : State) (c : RivetCode) (n : Nat) : (s.setMagazine c n).link = s.link := rfl
@[simp] theorem State.setMagazine_time (s : State) (c : RivetCode) (n : Nat) : (s.setMagazine c n).time = s.time := rfl
@[simp] theorem State.setMagazine_outgoing (s : State) (c : RivetCode) (n : Nat) : (s.setMagazine c n).outgoing = s.outgoing := rfl
@[simp] theorem State.setMagazine_pending (s : State) (c : RivetCode) (n : Nat) : (s.setMagazine c n).pending = s.pending := rfl

/-! ### setPermit -/

@[simp] theorem State.setPermit_table (s : State) (k : PermitNo) (g : Option PermitGrant) : (s.setPermit k g).table = s.table := rfl
@[simp] theorem State.setPermit_dispatcher (s : State) (k : PermitNo) (g : Option PermitGrant) : (s.setPermit k g).dispatcher = s.dispatcher := rfl
@[simp] theorem State.setPermit_heads (s : State) (k : PermitNo) (g : Option PermitGrant) : (s.setPermit k g).heads = s.heads := rfl
@[simp] theorem State.setPermit_signature (s : State) (k : PermitNo) (g : Option PermitGrant) : (s.setPermit k g).signature = s.signature := rfl
@[simp] theorem State.setPermit_heater (s : State) (k : PermitNo) (g : Option PermitGrant) : (s.setPermit k g).heater = s.heater := rfl
@[simp] theorem State.setPermit_control (s : State) (k : PermitNo) (g : Option PermitGrant) : (s.setPermit k g).control = s.control := rfl
@[simp] theorem State.setPermit_reports (s : State) (k : PermitNo) (g : Option PermitGrant) : (s.setPermit k g).reports = s.reports := rfl
@[simp] theorem State.setPermit_link (s : State) (k : PermitNo) (g : Option PermitGrant) : (s.setPermit k g).link = s.link := rfl
@[simp] theorem State.setPermit_time (s : State) (k : PermitNo) (g : Option PermitGrant) : (s.setPermit k g).time = s.time := rfl
@[simp] theorem State.setPermit_outgoing (s : State) (k : PermitNo) (g : Option PermitGrant) : (s.setPermit k g).outgoing = s.outgoing := rfl
@[simp] theorem State.setPermit_pending (s : State) (k : PermitNo) (g : Option PermitGrant) : (s.setPermit k g).pending = s.pending := rfl

/-! ### setPermitQueue -/

@[simp] theorem State.setPermitQueue_table (s : State) (q : List HeadNo) : (s.setPermitQueue q).table = s.table := rfl
@[simp] theorem State.setPermitQueue_dispatcher (s : State) (q : List HeadNo) : (s.setPermitQueue q).dispatcher = s.dispatcher := rfl
@[simp] theorem State.setPermitQueue_heads (s : State) (q : List HeadNo) : (s.setPermitQueue q).heads = s.heads := rfl
@[simp] theorem State.setPermitQueue_signature (s : State) (q : List HeadNo) : (s.setPermitQueue q).signature = s.signature := rfl
@[simp] theorem State.setPermitQueue_heater (s : State) (q : List HeadNo) : (s.setPermitQueue q).heater = s.heater := rfl
@[simp] theorem State.setPermitQueue_control (s : State) (q : List HeadNo) : (s.setPermitQueue q).control = s.control := rfl
@[simp] theorem State.setPermitQueue_reports (s : State) (q : List HeadNo) : (s.setPermitQueue q).reports = s.reports := rfl
@[simp] theorem State.setPermitQueue_link (s : State) (q : List HeadNo) : (s.setPermitQueue q).link = s.link := rfl
@[simp] theorem State.setPermitQueue_time (s : State) (q : List HeadNo) : (s.setPermitQueue q).time = s.time := rfl
@[simp] theorem State.setPermitQueue_outgoing (s : State) (q : List HeadNo) : (s.setPermitQueue q).outgoing = s.outgoing := rfl
@[simp] theorem State.setPermitQueue_pending (s : State) (q : List HeadNo) : (s.setPermitQueue q).pending = s.pending := rfl

/-! ### withdraw -/

@[simp] theorem State.withdraw_table (s : State) (h : HeadNo) : (s.withdraw h).table = s.table := rfl
@[simp] theorem State.withdraw_dispatcher (s : State) (h : HeadNo) : (s.withdraw h).dispatcher = s.dispatcher := rfl
@[simp] theorem State.withdraw_heads (s : State) (h : HeadNo) : (s.withdraw h).heads = s.heads := rfl
@[simp] theorem State.withdraw_signature (s : State) (h : HeadNo) : (s.withdraw h).signature = s.signature := rfl
@[simp] theorem State.withdraw_heater (s : State) (h : HeadNo) : (s.withdraw h).heater = s.heater := rfl
@[simp] theorem State.withdraw_control (s : State) (h : HeadNo) : (s.withdraw h).control = s.control := rfl
@[simp] theorem State.withdraw_reports (s : State) (h : HeadNo) : (s.withdraw h).reports = s.reports := rfl
@[simp] theorem State.withdraw_link (s : State) (h : HeadNo) : (s.withdraw h).link = s.link := rfl
@[simp] theorem State.withdraw_time (s : State) (h : HeadNo) : (s.withdraw h).time = s.time := rfl
@[simp] theorem State.withdraw_outgoing (s : State) (h : HeadNo) : (s.withdraw h).outgoing = s.outgoing := rfl
@[simp] theorem State.withdraw_pending (s : State) (h : HeadNo) : (s.withdraw h).pending = s.pending := rfl

/-! ### abortPermits -/

@[simp] theorem State.abortPermits_table (s : State) : s.abortPermits.table = s.table := rfl
@[simp] theorem State.abortPermits_dispatcher (s : State) : s.abortPermits.dispatcher = s.dispatcher := rfl
@[simp] theorem State.abortPermits_heads (s : State) : s.abortPermits.heads = s.heads := rfl
@[simp] theorem State.abortPermits_signature (s : State) : s.abortPermits.signature = s.signature := rfl
@[simp] theorem State.abortPermits_heater (s : State) : s.abortPermits.heater = s.heater := rfl
@[simp] theorem State.abortPermits_control (s : State) : s.abortPermits.control = s.control := rfl
@[simp] theorem State.abortPermits_reports (s : State) : s.abortPermits.reports = s.reports := rfl
@[simp] theorem State.abortPermits_link (s : State) : s.abortPermits.link = s.link := rfl
@[simp] theorem State.abortPermits_time (s : State) : s.abortPermits.time = s.time := rfl
@[simp] theorem State.abortPermits_outgoing (s : State) : s.abortPermits.outgoing = s.outgoing := rfl
@[simp] theorem State.abortPermits_pending (s : State) : s.abortPermits.pending = s.pending := rfl

/-! ### setLatch -/

@[simp] theorem State.setLatch_table (s : State) (k : EventKind) (l : Latch) : (s.setLatch k l).table = s.table := rfl
@[simp] theorem State.setLatch_dispatcher (s : State) (k : EventKind) (l : Latch) : (s.setLatch k l).dispatcher = s.dispatcher := rfl
@[simp] theorem State.setLatch_heads (s : State) (k : EventKind) (l : Latch) : (s.setLatch k l).heads = s.heads := rfl
@[simp] theorem State.setLatch_signature (s : State) (k : EventKind) (l : Latch) : (s.setLatch k l).signature = s.signature := rfl
@[simp] theorem State.setLatch_heater (s : State) (k : EventKind) (l : Latch) : (s.setLatch k l).heater = s.heater := rfl
@[simp] theorem State.setLatch_arbiter (s : State) (k : EventKind) (l : Latch) : (s.setLatch k l).arbiter = s.arbiter := rfl
@[simp] theorem State.setLatch_control (s : State) (k : EventKind) (l : Latch) : (s.setLatch k l).control = s.control := rfl
@[simp] theorem State.setLatch_link (s : State) (k : EventKind) (l : Latch) : (s.setLatch k l).link = s.link := rfl
@[simp] theorem State.setLatch_time (s : State) (k : EventKind) (l : Latch) : (s.setLatch k l).time = s.time := rfl
@[simp] theorem State.setLatch_outgoing (s : State) (k : EventKind) (l : Latch) : (s.setLatch k l).outgoing = s.outgoing := rfl
@[simp] theorem State.setLatch_pending (s : State) (k : EventKind) (l : Latch) : (s.setLatch k l).pending = s.pending := rfl

/-! ### enqueueReport -/

@[simp] theorem State.enqueueReport_table (s : State) (k : EventKind) (r : Held) : (s.enqueueReport k r).table = s.table := rfl
@[simp] theorem State.enqueueReport_dispatcher (s : State) (k : EventKind) (r : Held) : (s.enqueueReport k r).dispatcher = s.dispatcher := rfl
@[simp] theorem State.enqueueReport_heads (s : State) (k : EventKind) (r : Held) : (s.enqueueReport k r).heads = s.heads := rfl
@[simp] theorem State.enqueueReport_signature (s : State) (k : EventKind) (r : Held) : (s.enqueueReport k r).signature = s.signature := rfl
@[simp] theorem State.enqueueReport_heater (s : State) (k : EventKind) (r : Held) : (s.enqueueReport k r).heater = s.heater := rfl
@[simp] theorem State.enqueueReport_arbiter (s : State) (k : EventKind) (r : Held) : (s.enqueueReport k r).arbiter = s.arbiter := rfl
@[simp] theorem State.enqueueReport_control (s : State) (k : EventKind) (r : Held) : (s.enqueueReport k r).control = s.control := rfl
@[simp] theorem State.enqueueReport_link (s : State) (k : EventKind) (r : Held) : (s.enqueueReport k r).link = s.link := rfl
@[simp] theorem State.enqueueReport_time (s : State) (k : EventKind) (r : Held) : (s.enqueueReport k r).time = s.time := rfl
@[simp] theorem State.enqueueReport_outgoing (s : State) (k : EventKind) (r : Held) : (s.enqueueReport k r).outgoing = s.outgoing := rfl
@[simp] theorem State.enqueueReport_pending (s : State) (k : EventKind) (r : Held) : (s.enqueueReport k r).pending = s.pending := rfl

/-! ### holdReport -/

@[simp] theorem State.holdReport_table (s : State) (k : EventKind) (r : Held) : (s.holdReport k r).table = s.table := rfl
@[simp] theorem State.holdReport_dispatcher (s : State) (k : EventKind) (r : Held) : (s.holdReport k r).dispatcher = s.dispatcher := rfl
@[simp] theorem State.holdReport_heads (s : State) (k : EventKind) (r : Held) : (s.holdReport k r).heads = s.heads := rfl
@[simp] theorem State.holdReport_signature (s : State) (k : EventKind) (r : Held) : (s.holdReport k r).signature = s.signature := rfl
@[simp] theorem State.holdReport_heater (s : State) (k : EventKind) (r : Held) : (s.holdReport k r).heater = s.heater := rfl
@[simp] theorem State.holdReport_arbiter (s : State) (k : EventKind) (r : Held) : (s.holdReport k r).arbiter = s.arbiter := rfl
@[simp] theorem State.holdReport_control (s : State) (k : EventKind) (r : Held) : (s.holdReport k r).control = s.control := rfl
@[simp] theorem State.holdReport_link (s : State) (k : EventKind) (r : Held) : (s.holdReport k r).link = s.link := rfl
@[simp] theorem State.holdReport_time (s : State) (k : EventKind) (r : Held) : (s.holdReport k r).time = s.time := rfl
@[simp] theorem State.holdReport_outgoing (s : State) (k : EventKind) (r : Held) : (s.holdReport k r).outgoing = s.outgoing := rfl
@[simp] theorem State.holdReport_pending (s : State) (k : EventKind) (r : Held) : (s.holdReport k r).pending = s.pending := rfl

/-! ### clearLatch -/

@[simp] theorem State.clearLatch_table (s : State) (k : EventKind) : (s.clearLatch k).table = s.table := rfl
@[simp] theorem State.clearLatch_dispatcher (s : State) (k : EventKind) : (s.clearLatch k).dispatcher = s.dispatcher := rfl
@[simp] theorem State.clearLatch_heads (s : State) (k : EventKind) : (s.clearLatch k).heads = s.heads := rfl
@[simp] theorem State.clearLatch_signature (s : State) (k : EventKind) : (s.clearLatch k).signature = s.signature := rfl
@[simp] theorem State.clearLatch_heater (s : State) (k : EventKind) : (s.clearLatch k).heater = s.heater := rfl
@[simp] theorem State.clearLatch_arbiter (s : State) (k : EventKind) : (s.clearLatch k).arbiter = s.arbiter := rfl
@[simp] theorem State.clearLatch_control (s : State) (k : EventKind) : (s.clearLatch k).control = s.control := rfl
@[simp] theorem State.clearLatch_link (s : State) (k : EventKind) : (s.clearLatch k).link = s.link := rfl
@[simp] theorem State.clearLatch_time (s : State) (k : EventKind) : (s.clearLatch k).time = s.time := rfl
@[simp] theorem State.clearLatch_outgoing (s : State) (k : EventKind) : (s.clearLatch k).outgoing = s.outgoing := rfl
@[simp] theorem State.clearLatch_pending (s : State) (k : EventKind) : (s.clearLatch k).pending = s.pending := rfl

/-! ### removePending -/

@[simp] theorem State.removePending_table (s : State) (ds : List Directive) : (s.removePending ds).table = s.table := rfl
@[simp] theorem State.removePending_dispatcher (s : State) (ds : List Directive) : (s.removePending ds).dispatcher = s.dispatcher := rfl
@[simp] theorem State.removePending_heads (s : State) (ds : List Directive) : (s.removePending ds).heads = s.heads := rfl
@[simp] theorem State.removePending_signature (s : State) (ds : List Directive) : (s.removePending ds).signature = s.signature := rfl
@[simp] theorem State.removePending_heater (s : State) (ds : List Directive) : (s.removePending ds).heater = s.heater := rfl
@[simp] theorem State.removePending_arbiter (s : State) (ds : List Directive) : (s.removePending ds).arbiter = s.arbiter := rfl
@[simp] theorem State.removePending_reports (s : State) (ds : List Directive) : (s.removePending ds).reports = s.reports := rfl
@[simp] theorem State.removePending_link (s : State) (ds : List Directive) : (s.removePending ds).link = s.link := rfl
@[simp] theorem State.removePending_time (s : State) (ds : List Directive) : (s.removePending ds).time = s.time := rfl
@[simp] theorem State.removePending_outgoing (s : State) (ds : List Directive) : (s.removePending ds).outgoing = s.outgoing := rfl
@[simp] theorem State.removePending_pending (s : State) (ds : List Directive) : (s.removePending ds).pending = s.pending := rfl
@[simp] theorem State.removePending_marks (s : State) (ds : List Directive) :
    (s.removePending ds).control.mode = s.control.mode ∧
      (s.removePending ds).control.restartMark = s.control.restartMark ∧
      (s.removePending ds).control.stationMark = s.control.stationMark ∧
      (s.removePending ds).control.pendingSet = s.waitingBeside ds := ⟨rfl, rfl, rfl, rfl⟩

/-! ### joinPending -/

@[simp] theorem State.joinPending_table (s : State) (d : Directive) : (s.joinPending d).table = s.table := rfl
@[simp] theorem State.joinPending_dispatcher (s : State) (d : Directive) : (s.joinPending d).dispatcher = s.dispatcher := rfl
@[simp] theorem State.joinPending_heads (s : State) (d : Directive) : (s.joinPending d).heads = s.heads := rfl
@[simp] theorem State.joinPending_signature (s : State) (d : Directive) : (s.joinPending d).signature = s.signature := rfl
@[simp] theorem State.joinPending_heater (s : State) (d : Directive) : (s.joinPending d).heater = s.heater := rfl
@[simp] theorem State.joinPending_arbiter (s : State) (d : Directive) : (s.joinPending d).arbiter = s.arbiter := rfl
@[simp] theorem State.joinPending_reports (s : State) (d : Directive) : (s.joinPending d).reports = s.reports := rfl
@[simp] theorem State.joinPending_link (s : State) (d : Directive) : (s.joinPending d).link = s.link := rfl
@[simp] theorem State.joinPending_time (s : State) (d : Directive) : (s.joinPending d).time = s.time := rfl
@[simp] theorem State.joinPending_outgoing (s : State) (d : Directive) : (s.joinPending d).outgoing = s.outgoing := rfl
@[simp] theorem State.joinPending_pending (s : State) (d : Directive) : (s.joinPending d).pending = s.pending := rfl

/-! ### markRestart -/

@[simp] theorem State.markRestart_table (s : State) : s.markRestart.table = s.table := rfl
@[simp] theorem State.markRestart_dispatcher (s : State) : s.markRestart.dispatcher = s.dispatcher := rfl
@[simp] theorem State.markRestart_heads (s : State) : s.markRestart.heads = s.heads := rfl
@[simp] theorem State.markRestart_signature (s : State) : s.markRestart.signature = s.signature := rfl
@[simp] theorem State.markRestart_heater (s : State) : s.markRestart.heater = s.heater := rfl
@[simp] theorem State.markRestart_arbiter (s : State) : s.markRestart.arbiter = s.arbiter := rfl
@[simp] theorem State.markRestart_reports (s : State) : s.markRestart.reports = s.reports := rfl
@[simp] theorem State.markRestart_link (s : State) : s.markRestart.link = s.link := rfl
@[simp] theorem State.markRestart_time (s : State) : s.markRestart.time = s.time := rfl
@[simp] theorem State.markRestart_outgoing (s : State) : s.markRestart.outgoing = s.outgoing := rfl
@[simp] theorem State.markRestart_pending (s : State) : s.markRestart.pending = s.pending := rfl

/-! ### setDatum -/

@[simp] theorem State.setDatum_dispatcher (s : State) (z : Zone) (x : Int) : (s.setDatum z x).dispatcher = s.dispatcher := rfl
@[simp] theorem State.setDatum_heads (s : State) (z : Zone) (x : Int) : (s.setDatum z x).heads = s.heads := rfl
@[simp] theorem State.setDatum_signature (s : State) (z : Zone) (x : Int) : (s.setDatum z x).signature = s.signature := rfl
@[simp] theorem State.setDatum_heater (s : State) (z : Zone) (x : Int) : (s.setDatum z x).heater = s.heater := rfl
@[simp] theorem State.setDatum_arbiter (s : State) (z : Zone) (x : Int) : (s.setDatum z x).arbiter = s.arbiter := rfl
@[simp] theorem State.setDatum_control (s : State) (z : Zone) (x : Int) : (s.setDatum z x).control = s.control := rfl
@[simp] theorem State.setDatum_reports (s : State) (z : Zone) (x : Int) : (s.setDatum z x).reports = s.reports := rfl
@[simp] theorem State.setDatum_link (s : State) (z : Zone) (x : Int) : (s.setDatum z x).link = s.link := rfl
@[simp] theorem State.setDatum_time (s : State) (z : Zone) (x : Int) : (s.setDatum z x).time = s.time := rfl
@[simp] theorem State.setDatum_outgoing (s : State) (z : Zone) (x : Int) : (s.setDatum z x).outgoing = s.outgoing := rfl
@[simp] theorem State.setDatum_pending (s : State) (z : Zone) (x : Int) : (s.setDatum z x).pending = s.pending := rfl

/-! ### setFlags -/

@[simp] theorem State.setFlags_table (s : State) (f : Vector Bool 4) : (s.setFlags f).table = s.table := rfl
@[simp] theorem State.setFlags_heads (s : State) (f : Vector Bool 4) : (s.setFlags f).heads = s.heads := rfl
@[simp] theorem State.setFlags_signature (s : State) (f : Vector Bool 4) : (s.setFlags f).signature = s.signature := rfl
@[simp] theorem State.setFlags_heater (s : State) (f : Vector Bool 4) : (s.setFlags f).heater = s.heater := rfl
@[simp] theorem State.setFlags_arbiter (s : State) (f : Vector Bool 4) : (s.setFlags f).arbiter = s.arbiter := rfl
@[simp] theorem State.setFlags_control (s : State) (f : Vector Bool 4) : (s.setFlags f).control = s.control := rfl
@[simp] theorem State.setFlags_reports (s : State) (f : Vector Bool 4) : (s.setFlags f).reports = s.reports := rfl
@[simp] theorem State.setFlags_link (s : State) (f : Vector Bool 4) : (s.setFlags f).link = s.link := rfl
@[simp] theorem State.setFlags_time (s : State) (f : Vector Bool 4) : (s.setFlags f).time = s.time := rfl
@[simp] theorem State.setFlags_outgoing (s : State) (f : Vector Bool 4) : (s.setFlags f).outgoing = s.outgoing := rfl
@[simp] theorem State.setFlags_pending (s : State) (f : Vector Bool 4) : (s.setFlags f).pending = s.pending := rfl

/-! ### dropClaims -/

@[simp] theorem State.dropClaims_table (s : State) : s.dropClaims.table = s.table := rfl
@[simp] theorem State.dropClaims_heads (s : State) : s.dropClaims.heads = s.heads := rfl
@[simp] theorem State.dropClaims_signature (s : State) : s.dropClaims.signature = s.signature := rfl
@[simp] theorem State.dropClaims_heater (s : State) : s.dropClaims.heater = s.heater := rfl
@[simp] theorem State.dropClaims_arbiter (s : State) : s.dropClaims.arbiter = s.arbiter := rfl
@[simp] theorem State.dropClaims_control (s : State) : s.dropClaims.control = s.control := rfl
@[simp] theorem State.dropClaims_reports (s : State) : s.dropClaims.reports = s.reports := rfl
@[simp] theorem State.dropClaims_link (s : State) : s.dropClaims.link = s.link := rfl
@[simp] theorem State.dropClaims_time (s : State) : s.dropClaims.time = s.time := rfl
@[simp] theorem State.dropClaims_outgoing (s : State) : s.dropClaims.outgoing = s.outgoing := rfl
@[simp] theorem State.dropClaims_pending (s : State) : s.dropClaims.pending = s.pending := rfl

/-! ### mapWaits -/

@[simp] theorem State.mapWaits_table (s : State) (f : WaitTimer → WaitTimer) : (s.mapWaits f).table = s.table := rfl
@[simp] theorem State.mapWaits_dispatcher (s : State) (f : WaitTimer → WaitTimer) : (s.mapWaits f).dispatcher = s.dispatcher := rfl
@[simp] theorem State.mapWaits_signature (s : State) (f : WaitTimer → WaitTimer) : (s.mapWaits f).signature = s.signature := rfl
@[simp] theorem State.mapWaits_heater (s : State) (f : WaitTimer → WaitTimer) : (s.mapWaits f).heater = s.heater := rfl
@[simp] theorem State.mapWaits_arbiter (s : State) (f : WaitTimer → WaitTimer) : (s.mapWaits f).arbiter = s.arbiter := rfl
@[simp] theorem State.mapWaits_control (s : State) (f : WaitTimer → WaitTimer) : (s.mapWaits f).control = s.control := rfl
@[simp] theorem State.mapWaits_reports (s : State) (f : WaitTimer → WaitTimer) : (s.mapWaits f).reports = s.reports := rfl
@[simp] theorem State.mapWaits_link (s : State) (f : WaitTimer → WaitTimer) : (s.mapWaits f).link = s.link := rfl
@[simp] theorem State.mapWaits_time (s : State) (f : WaitTimer → WaitTimer) : (s.mapWaits f).time = s.time := rfl
@[simp] theorem State.mapWaits_outgoing (s : State) (f : WaitTimer → WaitTimer) : (s.mapWaits f).outgoing = s.outgoing := rfl
@[simp] theorem State.mapWaits_pending (s : State) (f : WaitTimer → WaitTimer) : (s.mapWaits f).pending = s.pending := rfl

/-! ### dropPositions -/

@[simp] theorem State.dropPositions_table (s : State) : s.dropPositions.table = s.table := rfl
@[simp] theorem State.dropPositions_dispatcher (s : State) : s.dropPositions.dispatcher = s.dispatcher := rfl
@[simp] theorem State.dropPositions_signature (s : State) : s.dropPositions.signature = s.signature := rfl
@[simp] theorem State.dropPositions_heater (s : State) : s.dropPositions.heater = s.heater := rfl
@[simp] theorem State.dropPositions_arbiter (s : State) : s.dropPositions.arbiter = s.arbiter := rfl
@[simp] theorem State.dropPositions_control (s : State) : s.dropPositions.control = s.control := rfl
@[simp] theorem State.dropPositions_reports (s : State) : s.dropPositions.reports = s.reports := rfl
@[simp] theorem State.dropPositions_link (s : State) : s.dropPositions.link = s.link := rfl
@[simp] theorem State.dropPositions_time (s : State) : s.dropPositions.time = s.time := rfl
@[simp] theorem State.dropPositions_outgoing (s : State) : s.dropPositions.outgoing = s.outgoing := rfl
@[simp] theorem State.dropPositions_pending (s : State) : s.dropPositions.pending = s.pending := rfl

/-! ### takeOffline -/

@[simp] theorem State.takeOffline_table (s : State) (h : HeadNo) : (s.takeOffline h).table = s.table := rfl
@[simp] theorem State.takeOffline_dispatcher (s : State) (h : HeadNo) : (s.takeOffline h).dispatcher = s.dispatcher := rfl
@[simp] theorem State.takeOffline_signature (s : State) (h : HeadNo) : (s.takeOffline h).signature = s.signature := rfl
@[simp] theorem State.takeOffline_heater (s : State) (h : HeadNo) : (s.takeOffline h).heater = s.heater := rfl
@[simp] theorem State.takeOffline_arbiter (s : State) (h : HeadNo) : (s.takeOffline h).arbiter = s.arbiter := rfl
@[simp] theorem State.takeOffline_control (s : State) (h : HeadNo) : (s.takeOffline h).control = s.control := rfl
@[simp] theorem State.takeOffline_reports (s : State) (h : HeadNo) : (s.takeOffline h).reports = s.reports := rfl
@[simp] theorem State.takeOffline_link (s : State) (h : HeadNo) : (s.takeOffline h).link = s.link := rfl
@[simp] theorem State.takeOffline_time (s : State) (h : HeadNo) : (s.takeOffline h).time = s.time := rfl
@[simp] theorem State.takeOffline_outgoing (s : State) (h : HeadNo) : (s.takeOffline h).outgoing = s.outgoing := rfl
@[simp] theorem State.takeOffline_pending (s : State) (h : HeadNo) : (s.takeOffline h).pending = s.pending := rfl

/-! ### takeSettings -/

@[simp] theorem State.takeSettings_table (s : State) (t : StationSettings) : (s.takeSettings t).table = s.table := rfl
@[simp] theorem State.takeSettings_dispatcher (s : State) (t : StationSettings) : (s.takeSettings t).dispatcher = s.dispatcher := rfl
@[simp] theorem State.takeSettings_heads (s : State) (t : StationSettings) : (s.takeSettings t).heads = s.heads := rfl
@[simp] theorem State.takeSettings_signature (s : State) (t : StationSettings) : (s.takeSettings t).signature = s.signature := rfl
@[simp] theorem State.takeSettings_heater (s : State) (t : StationSettings) : (s.takeSettings t).heater = s.heater := rfl
@[simp] theorem State.takeSettings_arbiter (s : State) (t : StationSettings) : (s.takeSettings t).arbiter = s.arbiter := rfl
@[simp] theorem State.takeSettings_reports (s : State) (t : StationSettings) : (s.takeSettings t).reports = s.reports := rfl
@[simp] theorem State.takeSettings_time (s : State) (t : StationSettings) : (s.takeSettings t).time = s.time := rfl
@[simp] theorem State.takeSettings_outgoing (s : State) (t : StationSettings) : (s.takeSettings t).outgoing = s.outgoing := rfl
@[simp] theorem State.takeSettings_pending (s : State) (t : StationSettings) : (s.takeSettings t).pending = s.pending := rfl

/-! ### startFrame -/

@[simp] theorem State.startFrame_table (s : State) (f : Frame) : (s.startFrame f).table = s.table := rfl
@[simp] theorem State.startFrame_dispatcher (s : State) (f : Frame) : (s.startFrame f).dispatcher = s.dispatcher := rfl
@[simp] theorem State.startFrame_heads (s : State) (f : Frame) : (s.startFrame f).heads = s.heads := rfl
@[simp] theorem State.startFrame_signature (s : State) (f : Frame) : (s.startFrame f).signature = s.signature := rfl
@[simp] theorem State.startFrame_heater (s : State) (f : Frame) : (s.startFrame f).heater = s.heater := rfl
@[simp] theorem State.startFrame_arbiter (s : State) (f : Frame) : (s.startFrame f).arbiter = s.arbiter := rfl
@[simp] theorem State.startFrame_control (s : State) (f : Frame) : (s.startFrame f).control = s.control := rfl
@[simp] theorem State.startFrame_reports (s : State) (f : Frame) : (s.startFrame f).reports = s.reports := rfl
@[simp] theorem State.startFrame_time (s : State) (f : Frame) : (s.startFrame f).time = s.time := rfl
@[simp] theorem State.startFrame_outgoing (s : State) (f : Frame) : (s.startFrame f).outgoing = s.outgoing := rfl
@[simp] theorem State.startFrame_pending (s : State) (f : Frame) : (s.startFrame f).pending = s.pending := rfl

/-! ### replyNow -/

@[simp] theorem State.replyNow_table (s : State) (f : Frame) (st : Status) (c : List Byte) : (s.replyNow f st c).table = s.table := rfl
@[simp] theorem State.replyNow_dispatcher (s : State) (f : Frame) (st : Status) (c : List Byte) : (s.replyNow f st c).dispatcher = s.dispatcher := rfl
@[simp] theorem State.replyNow_heads (s : State) (f : Frame) (st : Status) (c : List Byte) : (s.replyNow f st c).heads = s.heads := rfl
@[simp] theorem State.replyNow_signature (s : State) (f : Frame) (st : Status) (c : List Byte) : (s.replyNow f st c).signature = s.signature := rfl
@[simp] theorem State.replyNow_heater (s : State) (f : Frame) (st : Status) (c : List Byte) : (s.replyNow f st c).heater = s.heater := rfl
@[simp] theorem State.replyNow_arbiter (s : State) (f : Frame) (st : Status) (c : List Byte) : (s.replyNow f st c).arbiter = s.arbiter := rfl
@[simp] theorem State.replyNow_control (s : State) (f : Frame) (st : Status) (c : List Byte) : (s.replyNow f st c).control = s.control := rfl
@[simp] theorem State.replyNow_reports (s : State) (f : Frame) (st : Status) (c : List Byte) : (s.replyNow f st c).reports = s.reports := rfl
@[simp] theorem State.replyNow_time (s : State) (f : Frame) (st : Status) (c : List Byte) : (s.replyNow f st c).time = s.time := rfl
@[simp] theorem State.replyNow_outgoing (s : State) (f : Frame) (st : Status) (c : List Byte) : (s.replyNow f st c).outgoing = s.outgoing := rfl
@[simp] theorem State.replyNow_pending (s : State) (f : Frame) (st : Status) (c : List Byte) : (s.replyNow f st c).pending = s.pending := rfl

/-! ### overrun -/

@[simp] theorem State.overrun_table (s : State) : s.overrun.table = s.table := rfl
@[simp] theorem State.overrun_dispatcher (s : State) : s.overrun.dispatcher = s.dispatcher := rfl
@[simp] theorem State.overrun_heads (s : State) : s.overrun.heads = s.heads := rfl
@[simp] theorem State.overrun_signature (s : State) : s.overrun.signature = s.signature := rfl
@[simp] theorem State.overrun_heater (s : State) : s.overrun.heater = s.heater := rfl
@[simp] theorem State.overrun_arbiter (s : State) : s.overrun.arbiter = s.arbiter := rfl
@[simp] theorem State.overrun_control (s : State) : s.overrun.control = s.control := rfl
@[simp] theorem State.overrun_reports (s : State) : s.overrun.reports = s.reports := rfl
@[simp] theorem State.overrun_time (s : State) : s.overrun.time = s.time := rfl
@[simp] theorem State.overrun_outgoing (s : State) : s.overrun.outgoing = s.outgoing := rfl
@[simp] theorem State.overrun_pending (s : State) : s.overrun.pending = s.pending := rfl

/-! ### queueRequest -/

@[simp] theorem State.queueRequest_table (s : State) (f : Frame) : (s.queueRequest f).table = s.table := rfl
@[simp] theorem State.queueRequest_dispatcher (s : State) (f : Frame) : (s.queueRequest f).dispatcher = s.dispatcher := rfl
@[simp] theorem State.queueRequest_heads (s : State) (f : Frame) : (s.queueRequest f).heads = s.heads := rfl
@[simp] theorem State.queueRequest_signature (s : State) (f : Frame) : (s.queueRequest f).signature = s.signature := rfl
@[simp] theorem State.queueRequest_heater (s : State) (f : Frame) : (s.queueRequest f).heater = s.heater := rfl
@[simp] theorem State.queueRequest_arbiter (s : State) (f : Frame) : (s.queueRequest f).arbiter = s.arbiter := rfl
@[simp] theorem State.queueRequest_control (s : State) (f : Frame) : (s.queueRequest f).control = s.control := rfl
@[simp] theorem State.queueRequest_reports (s : State) (f : Frame) : (s.queueRequest f).reports = s.reports := rfl
@[simp] theorem State.queueRequest_time (s : State) (f : Frame) : (s.queueRequest f).time = s.time := rfl
@[simp] theorem State.queueRequest_outgoing (s : State) (f : Frame) : (s.queueRequest f).outgoing = s.outgoing := rfl
@[simp] theorem State.queueRequest_pending (s : State) (f : Frame) : (s.queueRequest f).pending = s.pending := rfl

/-! ### dropRequests -/

@[simp] theorem State.dropRequests_table (s : State) : s.dropRequests.table = s.table := rfl
@[simp] theorem State.dropRequests_dispatcher (s : State) : s.dropRequests.dispatcher = s.dispatcher := rfl
@[simp] theorem State.dropRequests_heads (s : State) : s.dropRequests.heads = s.heads := rfl
@[simp] theorem State.dropRequests_signature (s : State) : s.dropRequests.signature = s.signature := rfl
@[simp] theorem State.dropRequests_heater (s : State) : s.dropRequests.heater = s.heater := rfl
@[simp] theorem State.dropRequests_arbiter (s : State) : s.dropRequests.arbiter = s.arbiter := rfl
@[simp] theorem State.dropRequests_control (s : State) : s.dropRequests.control = s.control := rfl
@[simp] theorem State.dropRequests_reports (s : State) : s.dropRequests.reports = s.reports := rfl
@[simp] theorem State.dropRequests_time (s : State) : s.dropRequests.time = s.time := rfl
@[simp] theorem State.dropRequests_outgoing (s : State) : s.dropRequests.outgoing = s.outgoing := rfl
@[simp] theorem State.dropRequests_pending (s : State) : s.dropRequests.pending = s.pending := rfl

/-! ### gapExpired -/

@[simp] theorem State.gapExpired_table (s : State) : s.gapExpired.table = s.table := by
  unfold State.gapExpired; split <;> rfl
@[simp] theorem State.gapExpired_dispatcher (s : State) : s.gapExpired.dispatcher = s.dispatcher := by
  unfold State.gapExpired; split <;> rfl
@[simp] theorem State.gapExpired_heads (s : State) : s.gapExpired.heads = s.heads := by
  unfold State.gapExpired; split <;> rfl
@[simp] theorem State.gapExpired_signature (s : State) : s.gapExpired.signature = s.signature := by
  unfold State.gapExpired; split <;> rfl
@[simp] theorem State.gapExpired_heater (s : State) : s.gapExpired.heater = s.heater := by
  unfold State.gapExpired; split <;> rfl
@[simp] theorem State.gapExpired_arbiter (s : State) : s.gapExpired.arbiter = s.arbiter := by
  unfold State.gapExpired; split <;> rfl
@[simp] theorem State.gapExpired_control (s : State) : s.gapExpired.control = s.control := by
  unfold State.gapExpired; split <;> rfl
@[simp] theorem State.gapExpired_reports (s : State) : s.gapExpired.reports = s.reports := by
  unfold State.gapExpired; split <;> rfl
@[simp] theorem State.gapExpired_time (s : State) : s.gapExpired.time = s.time := by
  unfold State.gapExpired; split <;> rfl
@[simp] theorem State.gapExpired_outgoing (s : State) : s.gapExpired.outgoing = s.outgoing := by
  unfold State.gapExpired; split <;> rfl
@[simp] theorem State.gapExpired_pending (s : State) : s.gapExpired.pending = s.pending := by
  unfold State.gapExpired; split <;> rfl

/-! ### cleared -/

@[simp] theorem State.cleared_table (s : State) : s.cleared.table = s.table := rfl
@[simp] theorem State.cleared_dispatcher (s : State) : s.cleared.dispatcher = s.dispatcher := rfl
@[simp] theorem State.cleared_heads (s : State) : s.cleared.heads = s.heads := rfl
@[simp] theorem State.cleared_signature (s : State) : s.cleared.signature = s.signature := rfl
@[simp] theorem State.cleared_heater (s : State) : s.cleared.heater = s.heater := rfl
@[simp] theorem State.cleared_arbiter (s : State) : s.cleared.arbiter = s.arbiter := rfl
@[simp] theorem State.cleared_control (s : State) : s.cleared.control = s.control := rfl
@[simp] theorem State.cleared_reports (s : State) : s.cleared.reports = s.reports := rfl
@[simp] theorem State.cleared_link (s : State) : s.cleared.link = s.link := rfl
@[simp] theorem State.cleared_time (s : State) : s.cleared.time = s.time := rfl
@[simp] theorem State.cleared_pending (s : State) : s.cleared.pending = s.pending := rfl

/-! ### Reading a piece that an update leaves alone -/

@[simp] theorem State.setHead_claim (s : State) (h : HeadNo) (x : Head) (a : HeadNo) :
    (s.setHead h x).claim a = s.claim a := rfl
@[simp] theorem State.setHead_joint (s : State) (h : HeadNo) (x : Head) (a : Nat) :
    (s.setHead h x).joint? a = s.joint? a := rfl
@[simp] theorem State.setHead_channel (s : State) (h : HeadNo) (x : Head) (a : ChannelNo) :
    (s.setHead h x).channel a = s.channel a := rfl
@[simp] theorem State.setHead_pocket (s : State) (h : HeadNo) (x : Head) (a : PocketNo) :
    (s.setHead h x).pocket a = s.pocket a := rfl
@[simp] theorem State.setHead_permit (s : State) (h : HeadNo) (x : Head) (a : PermitNo) :
    (s.setHead h x).permit a = s.permit a := rfl
@[simp] theorem State.setHead_latch (s : State) (h : HeadNo) (x : Head) (a : EventKind) :
    (s.setHead h x).latch a = s.latch a := rfl
@[simp] theorem State.setHead_mode (s : State) (h : HeadNo) (x : Head) : (s.setHead h x).mode = s.mode := rfl
@[simp] theorem State.setHead_station (s : State) (h : HeadNo) (x : Head) : (s.setHead h x).station = s.station := rfl
@[simp] theorem State.modHead_claim (s : State) (h : HeadNo) (f : Head → Head) (a : HeadNo) :
    (s.modHead h f).claim a = s.claim a := rfl
@[simp] theorem State.modHead_joint (s : State) (h : HeadNo) (f : Head → Head) (a : Nat) :
    (s.modHead h f).joint? a = s.joint? a := rfl
@[simp] theorem State.modHead_channel (s : State) (h : HeadNo) (f : Head → Head) (a : ChannelNo) :
    (s.modHead h f).channel a = s.channel a := rfl
@[simp] theorem State.modHead_pocket (s : State) (h : HeadNo) (f : Head → Head) (a : PocketNo) :
    (s.modHead h f).pocket a = s.pocket a := rfl
@[simp] theorem State.modHead_permit (s : State) (h : HeadNo) (f : Head → Head) (a : PermitNo) :
    (s.modHead h f).permit a = s.permit a := rfl
@[simp] theorem State.modHead_latch (s : State) (h : HeadNo) (f : Head → Head) (a : EventKind) :
    (s.modHead h f).latch a = s.latch a := rfl
@[simp] theorem State.modHead_mode (s : State) (h : HeadNo) (f : Head → Head) : (s.modHead h f).mode = s.mode := rfl
@[simp] theorem State.modHead_station (s : State) (h : HeadNo) (f : Head → Head) :
    (s.modHead h f).station = s.station := rfl
@[simp] theorem State.setClaim_head (s : State) (h : HeadNo) (c : Option Claim) (a : HeadNo) :
    (s.setClaim h c).head a = s.head a := rfl
@[simp] theorem State.setClaim_joint (s : State) (h : HeadNo) (c : Option Claim) (a : Nat) :
    (s.setClaim h c).joint? a = s.joint? a := rfl
@[simp] theorem State.setClaim_channel (s : State) (h : HeadNo) (c : Option Claim) (a : ChannelNo) :
    (s.setClaim h c).channel a = s.channel a := rfl
@[simp] theorem State.setClaim_pocket (s : State) (h : HeadNo) (c : Option Claim) (a : PocketNo) :
    (s.setClaim h c).pocket a = s.pocket a := rfl
@[simp] theorem State.setClaim_permit (s : State) (h : HeadNo) (c : Option Claim) (a : PermitNo) :
    (s.setClaim h c).permit a = s.permit a := rfl
@[simp] theorem State.setClaim_latch (s : State) (h : HeadNo) (c : Option Claim) (a : EventKind) :
    (s.setClaim h c).latch a = s.latch a := rfl
@[simp] theorem State.setClaim_mode (s : State) (h : HeadNo) (c : Option Claim) : (s.setClaim h c).mode = s.mode := rfl
@[simp] theorem State.setClaim_station (s : State) (h : HeadNo) (c : Option Claim) :
    (s.setClaim h c).station = s.station := rfl
@[simp] theorem State.sendDrive_claim (s : State) (h : HeadNo) (o : DriveOrder) (a : HeadNo) :
    (s.sendDrive h o).claim a = s.claim a := rfl
@[simp] theorem State.sendDrive_joint (s : State) (h : HeadNo) (o : DriveOrder) (a : Nat) :
    (s.sendDrive h o).joint? a = s.joint? a := rfl
@[simp] theorem State.sendDrive_channel (s : State) (h : HeadNo) (o : DriveOrder) (a : ChannelNo) :
    (s.sendDrive h o).channel a = s.channel a := rfl
@[simp] theorem State.sendDrive_pocket (s : State) (h : HeadNo) (o : DriveOrder) (a : PocketNo) :
    (s.sendDrive h o).pocket a = s.pocket a := rfl
@[simp] theorem State.sendDrive_permit (s : State) (h : HeadNo) (o : DriveOrder) (a : PermitNo) :
    (s.sendDrive h o).permit a = s.permit a := rfl
@[simp] theorem State.sendDrive_latch (s : State) (h : HeadNo) (o : DriveOrder) (a : EventKind) :
    (s.sendDrive h o).latch a = s.latch a := rfl
@[simp] theorem State.sendDrive_mode (s : State) (h : HeadNo) (o : DriveOrder) : (s.sendDrive h o).mode = s.mode := rfl
@[simp] theorem State.sendDrive_station (s : State) (h : HeadNo) (o : DriveOrder) :
    (s.sendDrive h o).station = s.station := rfl
@[simp] theorem State.sendHeater_head (s : State) (o : HeaterOrder) (a : HeadNo) :
    (s.sendHeater o).head a = s.head a := rfl
@[simp] theorem State.sendHeater_claim (s : State) (o : HeaterOrder) (a : HeadNo) :
    (s.sendHeater o).claim a = s.claim a := rfl
@[simp] theorem State.sendHeater_joint (s : State) (o : HeaterOrder) (a : Nat) :
    (s.sendHeater o).joint? a = s.joint? a := rfl
@[simp] theorem State.sendHeater_channel (s : State) (o : HeaterOrder) (a : ChannelNo) :
    (s.sendHeater o).channel a = s.channel a := rfl
@[simp] theorem State.sendHeater_pocket (s : State) (o : HeaterOrder) (a : PocketNo) :
    (s.sendHeater o).pocket a = s.pocket a := rfl
@[simp] theorem State.sendHeater_permit (s : State) (o : HeaterOrder) (a : PermitNo) :
    (s.sendHeater o).permit a = s.permit a := rfl
@[simp] theorem State.sendHeater_latch (s : State) (o : HeaterOrder) (a : EventKind) :
    (s.sendHeater o).latch a = s.latch a := rfl
@[simp] theorem State.sendHeater_mode (s : State) (o : HeaterOrder) : (s.sendHeater o).mode = s.mode := rfl
@[simp] theorem State.sendHeater_station (s : State) (o : HeaterOrder) : (s.sendHeater o).station = s.station := rfl
@[simp] theorem State.enterPhase_claim (s : State) (h : HeadNo) (ph : HeadState) (n : Nat) (o : DriveOrder) (a : HeadNo) :
    (s.enterPhase h ph n o).claim a = s.claim a := rfl
@[simp] theorem State.enterPhase_joint (s : State) (h : HeadNo) (ph : HeadState) (n : Nat) (o : DriveOrder) (a : Nat) :
    (s.enterPhase h ph n o).joint? a = s.joint? a := rfl
@[simp] theorem State.enterPhase_channel (s : State) (h : HeadNo) (ph : HeadState) (n : Nat) (o : DriveOrder) (a : ChannelNo) :
    (s.enterPhase h ph n o).channel a = s.channel a := rfl
@[simp] theorem State.enterPhase_pocket (s : State) (h : HeadNo) (ph : HeadState) (n : Nat) (o : DriveOrder) (a : PocketNo) :
    (s.enterPhase h ph n o).pocket a = s.pocket a := rfl
@[simp] theorem State.enterPhase_permit (s : State) (h : HeadNo) (ph : HeadState) (n : Nat) (o : DriveOrder) (a : PermitNo) :
    (s.enterPhase h ph n o).permit a = s.permit a := rfl
@[simp] theorem State.enterPhase_latch (s : State) (h : HeadNo) (ph : HeadState) (n : Nat) (o : DriveOrder) (a : EventKind) :
    (s.enterPhase h ph n o).latch a = s.latch a := rfl
@[simp] theorem State.enterPhase_mode (s : State) (h : HeadNo) (ph : HeadState) (n : Nat) (o : DriveOrder) :
    (s.enterPhase h ph n o).mode = s.mode := rfl
@[simp] theorem State.enterPhase_station (s : State) (h : HeadNo) (ph : HeadState) (n : Nat) (o : DriveOrder) :
    (s.enterPhase h ph n o).station = s.station := rfl
@[simp] theorem State.modJoint_head (s : State) (i : Nat) (f : Joint → Joint) (a : HeadNo) :
    (s.modJoint i f).head a = s.head a := rfl
@[simp] theorem State.modJoint_claim (s : State) (i : Nat) (f : Joint → Joint) (a : HeadNo) :
    (s.modJoint i f).claim a = s.claim a := rfl
@[simp] theorem State.modJoint_channel (s : State) (i : Nat) (f : Joint → Joint) (a : ChannelNo) :
    (s.modJoint i f).channel a = s.channel a := rfl
@[simp] theorem State.modJoint_pocket (s : State) (i : Nat) (f : Joint → Joint) (a : PocketNo) :
    (s.modJoint i f).pocket a = s.pocket a := rfl
@[simp] theorem State.modJoint_permit (s : State) (i : Nat) (f : Joint → Joint) (a : PermitNo) :
    (s.modJoint i f).permit a = s.permit a := rfl
@[simp] theorem State.modJoint_latch (s : State) (i : Nat) (f : Joint → Joint) (a : EventKind) :
    (s.modJoint i f).latch a = s.latch a := rfl
@[simp] theorem State.modJoint_mode (s : State) (i : Nat) (f : Joint → Joint) : (s.modJoint i f).mode = s.mode := rfl
@[simp] theorem State.modJoint_station (s : State) (i : Nat) (f : Joint → Joint) :
    (s.modJoint i f).station = s.station := rfl
@[simp] theorem State.mapJoints_head (s : State) (f : Joint → Joint) (a : HeadNo) :
    (s.mapJoints f).head a = s.head a := rfl
@[simp] theorem State.mapJoints_claim (s : State) (f : Joint → Joint) (a : HeadNo) :
    (s.mapJoints f).claim a = s.claim a := rfl
@[simp] theorem State.mapJoints_channel (s : State) (f : Joint → Joint) (a : ChannelNo) :
    (s.mapJoints f).channel a = s.channel a := rfl
@[simp] theorem State.mapJoints_pocket (s : State) (f : Joint → Joint) (a : PocketNo) :
    (s.mapJoints f).pocket a = s.pocket a := rfl
@[simp] theorem State.mapJoints_permit (s : State) (f : Joint → Joint) (a : PermitNo) :
    (s.mapJoints f).permit a = s.permit a := rfl
@[simp] theorem State.mapJoints_latch (s : State) (f : Joint → Joint) (a : EventKind) :
    (s.mapJoints f).latch a = s.latch a := rfl
@[simp] theorem State.mapJoints_mode (s : State) (f : Joint → Joint) : (s.mapJoints f).mode = s.mode := rfl
@[simp] theorem State.mapJoints_station (s : State) (f : Joint → Joint) : (s.mapJoints f).station = s.station := rfl
@[simp] theorem State.setJointPocket_head (s : State) (i : Nat) (p : Option PocketNo) (a : HeadNo) :
    (s.setJointPocket i p).head a = s.head a := rfl
@[simp] theorem State.setJointPocket_claim (s : State) (i : Nat) (p : Option PocketNo) (a : HeadNo) :
    (s.setJointPocket i p).claim a = s.claim a := rfl
@[simp] theorem State.setJointPocket_channel (s : State) (i : Nat) (p : Option PocketNo) (a : ChannelNo) :
    (s.setJointPocket i p).channel a = s.channel a := rfl
@[simp] theorem State.setJointPocket_pocket (s : State) (i : Nat) (p : Option PocketNo) (a : PocketNo) :
    (s.setJointPocket i p).pocket a = s.pocket a := rfl
@[simp] theorem State.setJointPocket_permit (s : State) (i : Nat) (p : Option PocketNo) (a : PermitNo) :
    (s.setJointPocket i p).permit a = s.permit a := rfl
@[simp] theorem State.setJointPocket_latch (s : State) (i : Nat) (p : Option PocketNo) (a : EventKind) :
    (s.setJointPocket i p).latch a = s.latch a := rfl
@[simp] theorem State.setJointPocket_mode (s : State) (i : Nat) (p : Option PocketNo) :
    (s.setJointPocket i p).mode = s.mode := rfl
@[simp] theorem State.setJointPocket_station (s : State) (i : Nat) (p : Option PocketNo) :
    (s.setJointPocket i p).station = s.station := rfl
@[simp] theorem State.setChannel_head (s : State) (c : ChannelNo) (x : Channel) (a : HeadNo) :
    (s.setChannel c x).head a = s.head a := rfl
@[simp] theorem State.setChannel_claim (s : State) (c : ChannelNo) (x : Channel) (a : HeadNo) :
    (s.setChannel c x).claim a = s.claim a := rfl
@[simp] theorem State.setChannel_joint (s : State) (c : ChannelNo) (x : Channel) (a : Nat) :
    (s.setChannel c x).joint? a = s.joint? a := rfl
@[simp] theorem State.setChannel_pocket (s : State) (c : ChannelNo) (x : Channel) (a : PocketNo) :
    (s.setChannel c x).pocket a = s.pocket a := rfl
@[simp] theorem State.setChannel_permit (s : State) (c : ChannelNo) (x : Channel) (a : PermitNo) :
    (s.setChannel c x).permit a = s.permit a := rfl
@[simp] theorem State.setChannel_latch (s : State) (c : ChannelNo) (x : Channel) (a : EventKind) :
    (s.setChannel c x).latch a = s.latch a := rfl
@[simp] theorem State.setChannel_mode (s : State) (c : ChannelNo) (x : Channel) :
    (s.setChannel c x).mode = s.mode := rfl
@[simp] theorem State.setChannel_station (s : State) (c : ChannelNo) (x : Channel) :
    (s.setChannel c x).station = s.station := rfl
@[simp] theorem State.modChannel_head (s : State) (c : ChannelNo) (f : Channel → Channel) (a : HeadNo) :
    (s.modChannel c f).head a = s.head a := rfl
@[simp] theorem State.modChannel_claim (s : State) (c : ChannelNo) (f : Channel → Channel) (a : HeadNo) :
    (s.modChannel c f).claim a = s.claim a := rfl
@[simp] theorem State.modChannel_joint (s : State) (c : ChannelNo) (f : Channel → Channel) (a : Nat) :
    (s.modChannel c f).joint? a = s.joint? a := rfl
@[simp] theorem State.modChannel_pocket (s : State) (c : ChannelNo) (f : Channel → Channel) (a : PocketNo) :
    (s.modChannel c f).pocket a = s.pocket a := rfl
@[simp] theorem State.modChannel_permit (s : State) (c : ChannelNo) (f : Channel → Channel) (a : PermitNo) :
    (s.modChannel c f).permit a = s.permit a := rfl
@[simp] theorem State.modChannel_latch (s : State) (c : ChannelNo) (f : Channel → Channel) (a : EventKind) :
    (s.modChannel c f).latch a = s.latch a := rfl
@[simp] theorem State.modChannel_mode (s : State) (c : ChannelNo) (f : Channel → Channel) :
    (s.modChannel c f).mode = s.mode := rfl
@[simp] theorem State.modChannel_station (s : State) (c : ChannelNo) (f : Channel → Channel) :
    (s.modChannel c f).station = s.station := rfl
@[simp] theorem State.setDrillQueue_head (s : State) (q : List HeadNo) (a : HeadNo) :
    (s.setDrillQueue q).head a = s.head a := rfl
@[simp] theorem State.setDrillQueue_claim (s : State) (q : List HeadNo) (a : HeadNo) :
    (s.setDrillQueue q).claim a = s.claim a := rfl
@[simp] theorem State.setDrillQueue_joint (s : State) (q : List HeadNo) (a : Nat) :
    (s.setDrillQueue q).joint? a = s.joint? a := rfl
@[simp] theorem State.setDrillQueue_pocket (s : State) (q : List HeadNo) (a : PocketNo) :
    (s.setDrillQueue q).pocket a = s.pocket a := rfl
@[simp] theorem State.setDrillQueue_permit (s : State) (q : List HeadNo) (a : PermitNo) :
    (s.setDrillQueue q).permit a = s.permit a := rfl
@[simp] theorem State.setDrillQueue_latch (s : State) (q : List HeadNo) (a : EventKind) :
    (s.setDrillQueue q).latch a = s.latch a := rfl
@[simp] theorem State.setDrillQueue_mode (s : State) (q : List HeadNo) : (s.setDrillQueue q).mode = s.mode := rfl
@[simp] theorem State.setDrillQueue_station (s : State) (q : List HeadNo) :
    (s.setDrillQueue q).station = s.station := rfl
@[simp] theorem State.setPocket_head (s : State) (p : PocketNo) (x : Pocket) (a : HeadNo) :
    (s.setPocket p x).head a = s.head a := rfl
@[simp] theorem State.setPocket_claim (s : State) (p : PocketNo) (x : Pocket) (a : HeadNo) :
    (s.setPocket p x).claim a = s.claim a := rfl
@[simp] theorem State.setPocket_joint (s : State) (p : PocketNo) (x : Pocket) (a : Nat) :
    (s.setPocket p x).joint? a = s.joint? a := rfl
@[simp] theorem State.setPocket_channel (s : State) (p : PocketNo) (x : Pocket) (a : ChannelNo) :
    (s.setPocket p x).channel a = s.channel a := rfl
@[simp] theorem State.setPocket_permit (s : State) (p : PocketNo) (x : Pocket) (a : PermitNo) :
    (s.setPocket p x).permit a = s.permit a := rfl
@[simp] theorem State.setPocket_latch (s : State) (p : PocketNo) (x : Pocket) (a : EventKind) :
    (s.setPocket p x).latch a = s.latch a := rfl
@[simp] theorem State.setPocket_mode (s : State) (p : PocketNo) (x : Pocket) : (s.setPocket p x).mode = s.mode := rfl
@[simp] theorem State.setPocket_station (s : State) (p : PocketNo) (x : Pocket) :
    (s.setPocket p x).station = s.station := rfl
@[simp] theorem State.setOrders_head (s : State) (q : List HeatOrder) (a : HeadNo) :
    (s.setOrders q).head a = s.head a := rfl
@[simp] theorem State.setOrders_claim (s : State) (q : List HeatOrder) (a : HeadNo) :
    (s.setOrders q).claim a = s.claim a := rfl
@[simp] theorem State.setOrders_joint (s : State) (q : List HeatOrder) (a : Nat) :
    (s.setOrders q).joint? a = s.joint? a := rfl
@[simp] theorem State.setOrders_channel (s : State) (q : List HeatOrder) (a : ChannelNo) :
    (s.setOrders q).channel a = s.channel a := rfl
@[simp] theorem State.setOrders_permit (s : State) (q : List HeatOrder) (a : PermitNo) :
    (s.setOrders q).permit a = s.permit a := rfl
@[simp] theorem State.setOrders_latch (s : State) (q : List HeatOrder) (a : EventKind) :
    (s.setOrders q).latch a = s.latch a := rfl
@[simp] theorem State.setOrders_mode (s : State) (q : List HeatOrder) : (s.setOrders q).mode = s.mode := rfl
@[simp] theorem State.setOrders_station (s : State) (q : List HeatOrder) : (s.setOrders q).station = s.station := rfl
@[simp] theorem State.setPermit_head (s : State) (k : PermitNo) (g : Option PermitGrant) (a : HeadNo) :
    (s.setPermit k g).head a = s.head a := rfl
@[simp] theorem State.setPermit_claim (s : State) (k : PermitNo) (g : Option PermitGrant) (a : HeadNo) :
    (s.setPermit k g).claim a = s.claim a := rfl
@[simp] theorem State.setPermit_joint (s : State) (k : PermitNo) (g : Option PermitGrant) (a : Nat) :
    (s.setPermit k g).joint? a = s.joint? a := rfl
@[simp] theorem State.setPermit_channel (s : State) (k : PermitNo) (g : Option PermitGrant) (a : ChannelNo) :
    (s.setPermit k g).channel a = s.channel a := rfl
@[simp] theorem State.setPermit_pocket (s : State) (k : PermitNo) (g : Option PermitGrant) (a : PocketNo) :
    (s.setPermit k g).pocket a = s.pocket a := rfl
@[simp] theorem State.setPermit_latch (s : State) (k : PermitNo) (g : Option PermitGrant) (a : EventKind) :
    (s.setPermit k g).latch a = s.latch a := rfl
@[simp] theorem State.setPermit_mode (s : State) (k : PermitNo) (g : Option PermitGrant) :
    (s.setPermit k g).mode = s.mode := rfl
@[simp] theorem State.setPermit_station (s : State) (k : PermitNo) (g : Option PermitGrant) :
    (s.setPermit k g).station = s.station := rfl
@[simp] theorem State.setPermitQueue_head (s : State) (q : List HeadNo) (a : HeadNo) :
    (s.setPermitQueue q).head a = s.head a := rfl
@[simp] theorem State.setPermitQueue_claim (s : State) (q : List HeadNo) (a : HeadNo) :
    (s.setPermitQueue q).claim a = s.claim a := rfl
@[simp] theorem State.setPermitQueue_joint (s : State) (q : List HeadNo) (a : Nat) :
    (s.setPermitQueue q).joint? a = s.joint? a := rfl
@[simp] theorem State.setPermitQueue_channel (s : State) (q : List HeadNo) (a : ChannelNo) :
    (s.setPermitQueue q).channel a = s.channel a := rfl
@[simp] theorem State.setPermitQueue_pocket (s : State) (q : List HeadNo) (a : PocketNo) :
    (s.setPermitQueue q).pocket a = s.pocket a := rfl
@[simp] theorem State.setPermitQueue_latch (s : State) (q : List HeadNo) (a : EventKind) :
    (s.setPermitQueue q).latch a = s.latch a := rfl
@[simp] theorem State.setPermitQueue_mode (s : State) (q : List HeadNo) : (s.setPermitQueue q).mode = s.mode := rfl
@[simp] theorem State.setPermitQueue_station (s : State) (q : List HeadNo) :
    (s.setPermitQueue q).station = s.station := rfl
@[simp] theorem State.withdraw_head (s : State) (h : HeadNo) (a : HeadNo) : (s.withdraw h).head a = s.head a := rfl
@[simp] theorem State.withdraw_claim (s : State) (h : HeadNo) (a : HeadNo) : (s.withdraw h).claim a = s.claim a := rfl
@[simp] theorem State.withdraw_joint (s : State) (h : HeadNo) (a : Nat) : (s.withdraw h).joint? a = s.joint? a := rfl
@[simp] theorem State.withdraw_channel (s : State) (h : HeadNo) (a : ChannelNo) :
    (s.withdraw h).channel a = s.channel a := rfl
@[simp] theorem State.withdraw_pocket (s : State) (h : HeadNo) (a : PocketNo) :
    (s.withdraw h).pocket a = s.pocket a := rfl
@[simp] theorem State.withdraw_latch (s : State) (h : HeadNo) (a : EventKind) :
    (s.withdraw h).latch a = s.latch a := rfl
@[simp] theorem State.withdraw_mode (s : State) (h : HeadNo) : (s.withdraw h).mode = s.mode := rfl
@[simp] theorem State.withdraw_station (s : State) (h : HeadNo) : (s.withdraw h).station = s.station := rfl
@[simp] theorem State.setLatch_head (s : State) (k : EventKind) (l : Latch) (a : HeadNo) :
    (s.setLatch k l).head a = s.head a := rfl
@[simp] theorem State.setLatch_claim (s : State) (k : EventKind) (l : Latch) (a : HeadNo) :
    (s.setLatch k l).claim a = s.claim a := rfl
@[simp] theorem State.setLatch_joint (s : State) (k : EventKind) (l : Latch) (a : Nat) :
    (s.setLatch k l).joint? a = s.joint? a := rfl
@[simp] theorem State.setLatch_channel (s : State) (k : EventKind) (l : Latch) (a : ChannelNo) :
    (s.setLatch k l).channel a = s.channel a := rfl
@[simp] theorem State.setLatch_pocket (s : State) (k : EventKind) (l : Latch) (a : PocketNo) :
    (s.setLatch k l).pocket a = s.pocket a := rfl
@[simp] theorem State.setLatch_permit (s : State) (k : EventKind) (l : Latch) (a : PermitNo) :
    (s.setLatch k l).permit a = s.permit a := rfl
@[simp] theorem State.setLatch_mode (s : State) (k : EventKind) (l : Latch) : (s.setLatch k l).mode = s.mode := rfl
@[simp] theorem State.setLatch_station (s : State) (k : EventKind) (l : Latch) :
    (s.setLatch k l).station = s.station := rfl
@[simp] theorem State.enqueueReport_head (s : State) (k : EventKind) (r : Held) (a : HeadNo) :
    (s.enqueueReport k r).head a = s.head a := rfl
@[simp] theorem State.enqueueReport_claim (s : State) (k : EventKind) (r : Held) (a : HeadNo) :
    (s.enqueueReport k r).claim a = s.claim a := rfl
@[simp] theorem State.enqueueReport_joint (s : State) (k : EventKind) (r : Held) (a : Nat) :
    (s.enqueueReport k r).joint? a = s.joint? a := rfl
@[simp] theorem State.enqueueReport_channel (s : State) (k : EventKind) (r : Held) (a : ChannelNo) :
    (s.enqueueReport k r).channel a = s.channel a := rfl
@[simp] theorem State.enqueueReport_pocket (s : State) (k : EventKind) (r : Held) (a : PocketNo) :
    (s.enqueueReport k r).pocket a = s.pocket a := rfl
@[simp] theorem State.enqueueReport_permit (s : State) (k : EventKind) (r : Held) (a : PermitNo) :
    (s.enqueueReport k r).permit a = s.permit a := rfl
@[simp] theorem State.enqueueReport_mode (s : State) (k : EventKind) (r : Held) :
    (s.enqueueReport k r).mode = s.mode := rfl
@[simp] theorem State.enqueueReport_station (s : State) (k : EventKind) (r : Held) :
    (s.enqueueReport k r).station = s.station := rfl
@[simp] theorem State.holdReport_head (s : State) (k : EventKind) (r : Held) (a : HeadNo) :
    (s.holdReport k r).head a = s.head a := rfl
@[simp] theorem State.holdReport_claim (s : State) (k : EventKind) (r : Held) (a : HeadNo) :
    (s.holdReport k r).claim a = s.claim a := rfl
@[simp] theorem State.holdReport_joint (s : State) (k : EventKind) (r : Held) (a : Nat) :
    (s.holdReport k r).joint? a = s.joint? a := rfl
@[simp] theorem State.holdReport_channel (s : State) (k : EventKind) (r : Held) (a : ChannelNo) :
    (s.holdReport k r).channel a = s.channel a := rfl
@[simp] theorem State.holdReport_pocket (s : State) (k : EventKind) (r : Held) (a : PocketNo) :
    (s.holdReport k r).pocket a = s.pocket a := rfl
@[simp] theorem State.holdReport_permit (s : State) (k : EventKind) (r : Held) (a : PermitNo) :
    (s.holdReport k r).permit a = s.permit a := rfl
@[simp] theorem State.holdReport_mode (s : State) (k : EventKind) (r : Held) : (s.holdReport k r).mode = s.mode := rfl
@[simp] theorem State.holdReport_station (s : State) (k : EventKind) (r : Held) :
    (s.holdReport k r).station = s.station := rfl
@[simp] theorem State.removePending_head (s : State) (ds : List Directive) (a : HeadNo) :
    (s.removePending ds).head a = s.head a := rfl
@[simp] theorem State.removePending_claim (s : State) (ds : List Directive) (a : HeadNo) :
    (s.removePending ds).claim a = s.claim a := rfl
@[simp] theorem State.removePending_joint (s : State) (ds : List Directive) (a : Nat) :
    (s.removePending ds).joint? a = s.joint? a := rfl
@[simp] theorem State.removePending_channel (s : State) (ds : List Directive) (a : ChannelNo) :
    (s.removePending ds).channel a = s.channel a := rfl
@[simp] theorem State.removePending_pocket (s : State) (ds : List Directive) (a : PocketNo) :
    (s.removePending ds).pocket a = s.pocket a := rfl
@[simp] theorem State.removePending_permit (s : State) (ds : List Directive) (a : PermitNo) :
    (s.removePending ds).permit a = s.permit a := rfl
@[simp] theorem State.removePending_latch (s : State) (ds : List Directive) (a : EventKind) :
    (s.removePending ds).latch a = s.latch a := rfl
@[simp] theorem State.removePending_station (s : State) (ds : List Directive) :
    (s.removePending ds).station = s.station := rfl
@[simp] theorem State.joinPending_head (s : State) (d : Directive) (a : HeadNo) :
    (s.joinPending d).head a = s.head a := rfl
@[simp] theorem State.joinPending_claim (s : State) (d : Directive) (a : HeadNo) :
    (s.joinPending d).claim a = s.claim a := rfl
@[simp] theorem State.joinPending_joint (s : State) (d : Directive) (a : Nat) :
    (s.joinPending d).joint? a = s.joint? a := rfl
@[simp] theorem State.joinPending_channel (s : State) (d : Directive) (a : ChannelNo) :
    (s.joinPending d).channel a = s.channel a := rfl
@[simp] theorem State.joinPending_pocket (s : State) (d : Directive) (a : PocketNo) :
    (s.joinPending d).pocket a = s.pocket a := rfl
@[simp] theorem State.joinPending_permit (s : State) (d : Directive) (a : PermitNo) :
    (s.joinPending d).permit a = s.permit a := rfl
@[simp] theorem State.joinPending_latch (s : State) (d : Directive) (a : EventKind) :
    (s.joinPending d).latch a = s.latch a := rfl
@[simp] theorem State.joinPending_station (s : State) (d : Directive) : (s.joinPending d).station = s.station := rfl
@[simp] theorem State.mapWaits_claim (s : State) (f : WaitTimer → WaitTimer) (a : HeadNo) :
    (s.mapWaits f).claim a = s.claim a := rfl
@[simp] theorem State.mapWaits_joint (s : State) (f : WaitTimer → WaitTimer) (a : Nat) :
    (s.mapWaits f).joint? a = s.joint? a := rfl
@[simp] theorem State.mapWaits_channel (s : State) (f : WaitTimer → WaitTimer) (a : ChannelNo) :
    (s.mapWaits f).channel a = s.channel a := rfl
@[simp] theorem State.mapWaits_pocket (s : State) (f : WaitTimer → WaitTimer) (a : PocketNo) :
    (s.mapWaits f).pocket a = s.pocket a := rfl
@[simp] theorem State.mapWaits_permit (s : State) (f : WaitTimer → WaitTimer) (a : PermitNo) :
    (s.mapWaits f).permit a = s.permit a := rfl
@[simp] theorem State.mapWaits_latch (s : State) (f : WaitTimer → WaitTimer) (a : EventKind) :
    (s.mapWaits f).latch a = s.latch a := rfl
@[simp] theorem State.mapWaits_mode (s : State) (f : WaitTimer → WaitTimer) : (s.mapWaits f).mode = s.mode := rfl
@[simp] theorem State.mapWaits_station (s : State) (f : WaitTimer → WaitTimer) :
    (s.mapWaits f).station = s.station := rfl
@[simp] theorem State.startFrame_head (s : State) (f : Frame) (a : HeadNo) : (s.startFrame f).head a = s.head a := rfl
@[simp] theorem State.startFrame_claim (s : State) (f : Frame) (a : HeadNo) :
    (s.startFrame f).claim a = s.claim a := rfl
@[simp] theorem State.startFrame_joint (s : State) (f : Frame) (a : Nat) : (s.startFrame f).joint? a = s.joint? a := rfl
@[simp] theorem State.startFrame_channel (s : State) (f : Frame) (a : ChannelNo) :
    (s.startFrame f).channel a = s.channel a := rfl
@[simp] theorem State.startFrame_pocket (s : State) (f : Frame) (a : PocketNo) :
    (s.startFrame f).pocket a = s.pocket a := rfl
@[simp] theorem State.startFrame_permit (s : State) (f : Frame) (a : PermitNo) :
    (s.startFrame f).permit a = s.permit a := rfl
@[simp] theorem State.startFrame_latch (s : State) (f : Frame) (a : EventKind) :
    (s.startFrame f).latch a = s.latch a := rfl
@[simp] theorem State.startFrame_mode (s : State) (f : Frame) : (s.startFrame f).mode = s.mode := rfl
@[simp] theorem State.startFrame_station (s : State) (f : Frame) : (s.startFrame f).station = s.station := rfl
@[simp] theorem State.replyNow_head (s : State) (f : Frame) (st : Status) (c : List Byte) (a : HeadNo) :
    (s.replyNow f st c).head a = s.head a := rfl
@[simp] theorem State.replyNow_claim (s : State) (f : Frame) (st : Status) (c : List Byte) (a : HeadNo) :
    (s.replyNow f st c).claim a = s.claim a := rfl
@[simp] theorem State.replyNow_joint (s : State) (f : Frame) (st : Status) (c : List Byte) (a : Nat) :
    (s.replyNow f st c).joint? a = s.joint? a := rfl
@[simp] theorem State.replyNow_channel (s : State) (f : Frame) (st : Status) (c : List Byte) (a : ChannelNo) :
    (s.replyNow f st c).channel a = s.channel a := rfl
@[simp] theorem State.replyNow_pocket (s : State) (f : Frame) (st : Status) (c : List Byte) (a : PocketNo) :
    (s.replyNow f st c).pocket a = s.pocket a := rfl
@[simp] theorem State.replyNow_permit (s : State) (f : Frame) (st : Status) (c : List Byte) (a : PermitNo) :
    (s.replyNow f st c).permit a = s.permit a := rfl
@[simp] theorem State.replyNow_latch (s : State) (f : Frame) (st : Status) (c : List Byte) (a : EventKind) :
    (s.replyNow f st c).latch a = s.latch a := rfl
@[simp] theorem State.replyNow_mode (s : State) (f : Frame) (st : Status) (c : List Byte) :
    (s.replyNow f st c).mode = s.mode := rfl
@[simp] theorem State.replyNow_station (s : State) (f : Frame) (st : Status) (c : List Byte) :
    (s.replyNow f st c).station = s.station := rfl
@[simp] theorem State.cleared_head (s : State) (a : HeadNo) : s.cleared.head a = s.head a := rfl
@[simp] theorem State.cleared_claim (s : State) (a : HeadNo) : s.cleared.claim a = s.claim a := rfl
@[simp] theorem State.cleared_joint (s : State) (a : Nat) : s.cleared.joint? a = s.joint? a := rfl
@[simp] theorem State.cleared_channel (s : State) (a : ChannelNo) : s.cleared.channel a = s.channel a := rfl
@[simp] theorem State.cleared_pocket (s : State) (a : PocketNo) : s.cleared.pocket a = s.pocket a := rfl
@[simp] theorem State.cleared_permit (s : State) (a : PermitNo) : s.cleared.permit a = s.permit a := rfl
@[simp] theorem State.cleared_latch (s : State) (a : EventKind) : s.cleared.latch a = s.latch a := rfl
@[simp] theorem State.cleared_mode (s : State) : s.cleared.mode = s.mode := rfl
@[simp] theorem State.cleared_station (s : State) : s.cleared.station = s.station := rfl

/-! ### Reading back -/

@[simp] theorem State.head_setHead (s : State) (h g : HeadNo) (x : Head) :
    (s.setHead h x).head g = if h = g then x else s.head g := by
  simp only [State.head, State.setHead, Fin.getElem_fin, Vector.getElem_set, Fin.val_inj]

@[simp] theorem State.head_modHead (s : State) (h g : HeadNo) (f : Head → Head) :
    (s.modHead h f).head g = if h = g then f (s.head h) else s.head g := by
  simp only [State.modHead, State.head_setHead]

@[simp] theorem State.claim_setClaim (s : State) (h g : HeadNo) (c : Option Claim) :
    (s.setClaim h c).claim g = if h = g then c else s.claim g := by
  simp only [State.claim, State.setClaim, Fin.getElem_fin, Vector.getElem_set, Fin.val_inj]

@[simp] theorem State.head_sendDrive (s : State) (h g : HeadNo) (o : DriveOrder) :
    (s.sendDrive h o).head g = if h = g then { s.head h with order := some o } else s.head g := by
  show (s.modHead h (fun x => { x with order := some o })).head g = _
  simp

@[simp] theorem State.head_enterPhase (s : State) (h g : HeadNo) (ph : HeadState) (n : Nat) (o : DriveOrder) :
    (s.enterPhase h ph n o).head g =
      if h = g then { s.head h with state := ph, phaseTimer := some n, order := some o } else s.head g := by
  by_cases e : h = g <;> simp [State.enterPhase, e]

@[simp] theorem State.channel_setChannel (s : State) (c d : ChannelNo) (x : Channel) :
    (s.setChannel c x).channel d = if c = d then x else s.channel d := by
  simp only [State.channel, State.setChannel, Fin.getElem_fin, Vector.getElem_set, Fin.val_inj]

@[simp] theorem State.channel_modChannel (s : State) (c d : ChannelNo) (f : Channel → Channel) :
    (s.modChannel c f).channel d = if c = d then f (s.channel c) else s.channel d := by
  simp only [State.modChannel, State.channel_setChannel]

@[simp] theorem State.pocket_setPocket (s : State) (p q : PocketNo) (x : Pocket) :
    (s.setPocket p x).pocket q = if p = q then x else s.pocket q := by
  simp only [State.pocket, State.setPocket, Fin.getElem_fin, Vector.getElem_set, Fin.val_inj]

@[simp] theorem State.permit_setPermit (s : State) (k l : PermitNo) (g : Option PermitGrant) :
    (s.setPermit k g).permit l = if k = l then g else s.permit l := by
  simp only [State.permit, State.setPermit, Fin.getElem_fin, Vector.getElem_set, Fin.val_inj]

/-- The kinds' numbers tell them apart. -/
theorem EventKind.index_inj {a b : EventKind} (h : a.index = b.index) : a = b := by
  revert h; cases a <;> cases b <;> simp [EventKind.index]

@[simp] theorem State.latch_setLatch (s : State) (k l : EventKind) (x : Latch) :
    (s.setLatch k x).latch l = if k = l then x else s.latch l := by
  by_cases e : k = l
  · simp [State.latch, State.setLatch, e]
  · have : k.index ≠ l.index := fun h => e (EventKind.index_inj h)
    simp [State.latch, State.setLatch, e, Fin.val_inj, this]

@[simp] theorem State.joint_modJoint (s : State) (i k : Nat) (f : Joint → Joint) :
    (s.modJoint i f).joint? k = if i = k then (s.joint? k).map f else s.joint? k := by
  simp only [State.joint?, State.modJoint, List.getElem?_modify]
  split <;> simp_all

@[simp] theorem State.joint_mapJoints (s : State) (f : Joint → Joint) (k : Nat) :
    (s.mapJoints f).joint? k = (s.joint? k).map f := by
  simp [State.joint?, State.mapJoints]

@[simp] theorem State.setPermitQueue_queue (s : State) (q : List HeadNo) : (s.setPermitQueue q).arbiter.queue = q := rfl
@[simp] theorem State.setDrillQueue_queue (s : State) (q : List HeadNo) :
    (s.setDrillQueue q).signature.drillQueue = q := rfl
@[simp] theorem State.setOrders_orders (s : State) (q : List HeatOrder) : (s.setOrders q).heater.orders = q := rfl

/-- Clearing the port orders kept in the state twice is clearing them once. -/
@[simp] theorem State.cleared_cleared (s : State) : s.cleared.cleared = s.cleared := rfl

end Sys2Proof.Machine
end

