-- ==== Sys2Proof/Laws/Frames.lean ====
section
/-! SUPPORT. Laws/Frames.lean: for every operation of the part, the pieces of the state it leaves as they are. -/

namespace Sys2Proof.Machine

/-! ## Reports (chapter 8) -/

@[simp] theorem State.post_frame (s : State) (k : EventKind) (n : Nat) :
    (s.post k n).table = s.table ∧ (s.post k n).dispatcher = s.dispatcher ∧ (s.post k n).heads = s.heads ∧
      (s.post k n).signature = s.signature ∧ (s.post k n).heater = s.heater ∧ (s.post k n).arbiter = s.arbiter ∧
      (s.post k n).control = s.control ∧ (s.post k n).link = s.link ∧ (s.post k n).time = s.time ∧
      (s.post k n).outgoing = s.outgoing ∧ (s.post k n).pending = s.pending := by
  simp only [State.post]
  (repeat' split) <;> simp

@[simp] theorem State.fillOne_frame (s : State) :
    s.fillOne.table = s.table ∧ s.fillOne.dispatcher = s.dispatcher ∧ s.fillOne.heads = s.heads ∧
      s.fillOne.signature = s.signature ∧ s.fillOne.heater = s.heater ∧ s.fillOne.arbiter = s.arbiter ∧
      s.fillOne.control = s.control ∧ s.fillOne.link = s.link ∧ s.fillOne.time = s.time ∧
      s.fillOne.outgoing = s.outgoing ∧ s.fillOne.pending = s.pending := by
  simp only [State.fillOne]
  (repeat' split) <;> simp

@[simp] theorem State.fillTurns_frame (n : Nat) (s : State) :
    (s.fillTurns n).table = s.table ∧ (s.fillTurns n).dispatcher = s.dispatcher ∧ (s.fillTurns n).heads = s.heads ∧
      (s.fillTurns n).signature = s.signature ∧ (s.fillTurns n).heater = s.heater ∧
      (s.fillTurns n).arbiter = s.arbiter ∧ (s.fillTurns n).control = s.control ∧ (s.fillTurns n).link = s.link ∧
      (s.fillTurns n).time = s.time ∧ (s.fillTurns n).outgoing = s.outgoing ∧ (s.fillTurns n).pending = s.pending := by
  induction n generalizing s with
  | zero => simp [State.fillTurns]
  | succ n ih => simp [State.fillTurns, ih]

@[simp] theorem State.fill_frame (s : State) :
    s.fill.table = s.table ∧ s.fill.dispatcher = s.dispatcher ∧ s.fill.heads = s.heads ∧
      s.fill.signature = s.signature ∧ s.fill.heater = s.heater ∧ s.fill.arbiter = s.arbiter ∧
      s.fill.control = s.control ∧ s.fill.link = s.link ∧ s.fill.time = s.time ∧ s.fill.outgoing = s.outgoing ∧
      s.fill.pending = s.pending := by
  simp [State.fill]

@[simp] theorem State.sendRecord_frame (s : State) (k : EventKind) :
    (s.sendRecord k).table = s.table ∧ (s.sendRecord k).dispatcher = s.dispatcher ∧
      (s.sendRecord k).heads = s.heads ∧ (s.sendRecord k).signature = s.signature ∧
      (s.sendRecord k).heater = s.heater ∧ (s.sendRecord k).arbiter = s.arbiter ∧
      (s.sendRecord k).control = s.control ∧ (s.sendRecord k).link = s.link ∧ (s.sendRecord k).time = s.time ∧
      (s.sendRecord k).outgoing = s.outgoing ∧ (s.sendRecord k).pending = s.pending := by
  simp only [State.sendRecord]
  (repeat' split) <;> simp

@[simp] theorem State.acknowledge_frame (s : State) (ks : List EventKind) :
    (s.acknowledge ks).table = s.table ∧ (s.acknowledge ks).dispatcher = s.dispatcher ∧
      (s.acknowledge ks).heads = s.heads ∧ (s.acknowledge ks).signature = s.signature ∧
      (s.acknowledge ks).heater = s.heater ∧ (s.acknowledge ks).arbiter = s.arbiter ∧
      (s.acknowledge ks).control = s.control ∧ (s.acknowledge ks).link = s.link ∧ (s.acknowledge ks).time = s.time ∧
      (s.acknowledge ks).outgoing = s.outgoing ∧ (s.acknowledge ks).pending = s.pending := by
  have step := List.foldlRecOn (motive := fun t : State =>
      t.table = s.table ∧ t.dispatcher = s.dispatcher ∧ t.heads = s.heads ∧ t.signature = s.signature ∧
        t.heater = s.heater ∧ t.arbiter = s.arbiter ∧ t.control = s.control ∧ t.link = s.link ∧ t.time = s.time ∧
        t.outgoing = s.outgoing ∧ t.pending = s.pending)
    (ks) State.clearLatch (b := s) (by simp) (fun t e _ _ => by simp [e])
  simp [State.acknowledge, step]

@[simp] theorem State.configureKind_frame (s : State) (k : EventKind) (e : Bool) (p : Fin 8) :
    (s.configureKind k e p).table = s.table ∧ (s.configureKind k e p).dispatcher = s.dispatcher ∧
      (s.configureKind k e p).heads = s.heads ∧ (s.configureKind k e p).signature = s.signature ∧
      (s.configureKind k e p).heater = s.heater ∧ (s.configureKind k e p).arbiter = s.arbiter ∧
      (s.configureKind k e p).control = s.control ∧ (s.configureKind k e p).link = s.link ∧
      (s.configureKind k e p).time = s.time ∧ (s.configureKind k e p).outgoing = s.outgoing ∧
      (s.configureKind k e p).pending = s.pending := by
  simp only [State.configureKind]
  (repeat' split) <;> simp

@[simp] theorem State.flushReports_frame (s : State) :
    s.flushReports.table = s.table ∧ s.flushReports.dispatcher = s.dispatcher ∧ s.flushReports.heads = s.heads ∧
      s.flushReports.signature = s.signature ∧ s.flushReports.heater = s.heater ∧
      s.flushReports.arbiter = s.arbiter ∧ s.flushReports.control = s.control ∧ s.flushReports.link = s.link ∧
      s.flushReports.time = s.time ∧ s.flushReports.outgoing = s.outgoing ∧ s.flushReports.pending = s.pending := by
  have step := List.foldlRecOn (motive := fun t : State =>
      t.table = s.table ∧ t.dispatcher = s.dispatcher ∧ t.heads = s.heads ∧ t.signature = s.signature ∧
        t.heater = s.heater ∧ t.arbiter = s.arbiter ∧ t.control = s.control ∧ t.link = s.link ∧ t.time = s.time ∧
        t.outgoing = s.outgoing ∧ t.pending = s.pending)
    (s.reports.queue) State.sendRecord (b := s) (by simp) (fun t e _ _ => by simp [e])
  simp [State.flushReports, step]

/-! ## Joints (chapter 1) -/

@[simp] theorem State.postBlocked_frame (s : State) (was : Bool) :
    (s.postBlocked was).table = s.table ∧ (s.postBlocked was).dispatcher = s.dispatcher ∧
      (s.postBlocked was).heads = s.heads ∧ (s.postBlocked was).signature = s.signature ∧
      (s.postBlocked was).heater = s.heater ∧ (s.postBlocked was).arbiter = s.arbiter ∧
      (s.postBlocked was).control = s.control ∧ (s.postBlocked was).link = s.link ∧
      (s.postBlocked was).time = s.time ∧ (s.postBlocked was).outgoing = s.outgoing ∧
      (s.postBlocked was).pending = s.pending := by
  simp only [State.postBlocked]
  (repeat' split) <;> simp

@[simp] theorem State.postAdvance_frame (s : State) (old : Option Pass) :
    (s.postAdvance old).table = s.table ∧ (s.postAdvance old).dispatcher = s.dispatcher ∧
      (s.postAdvance old).heads = s.heads ∧ (s.postAdvance old).signature = s.signature ∧
      (s.postAdvance old).heater = s.heater ∧ (s.postAdvance old).arbiter = s.arbiter ∧
      (s.postAdvance old).control = s.control ∧ (s.postAdvance old).link = s.link ∧
      (s.postAdvance old).time = s.time ∧ (s.postAdvance old).outgoing = s.outgoing ∧
      (s.postAdvance old).pending = s.pending := by
  simp only [State.postAdvance]
  (repeat' split) <;> simp

@[simp] theorem State.recompute_frame (s : State) (was : Bool) :
    (s.recompute was).dispatcher = s.dispatcher ∧ (s.recompute was).heads = s.heads ∧
      (s.recompute was).signature = s.signature ∧ (s.recompute was).heater = s.heater ∧
      (s.recompute was).arbiter = s.arbiter ∧ (s.recompute was).control = s.control ∧
      (s.recompute was).link = s.link ∧ (s.recompute was).time = s.time ∧ (s.recompute was).outgoing = s.outgoing ∧
      (s.recompute was).pending = s.pending := by
  simp [State.recompute]

@[simp] theorem State.changeJoint_frame (s : State) (i : Nat) (f : Joint → Joint) :
    (s.changeJoint i f).dispatcher = s.dispatcher ∧ (s.changeJoint i f).heads = s.heads ∧
      (s.changeJoint i f).signature = s.signature ∧ (s.changeJoint i f).heater = s.heater ∧
      (s.changeJoint i f).arbiter = s.arbiter ∧ (s.changeJoint i f).control = s.control ∧
      (s.changeJoint i f).link = s.link ∧ (s.changeJoint i f).time = s.time ∧
      (s.changeJoint i f).outgoing = s.outgoing ∧ (s.changeJoint i f).pending = s.pending := by
  simp [State.changeJoint]

@[simp] theorem State.setJointState_frame (s : State) (h : HeadNo) (st : JointState) :
    (s.setJointState h st).dispatcher = s.dispatcher ∧ (s.setJointState h st).heads = s.heads ∧
      (s.setJointState h st).signature = s.signature ∧ (s.setJointState h st).heater = s.heater ∧
      (s.setJointState h st).arbiter = s.arbiter ∧ (s.setJointState h st).control = s.control ∧
      (s.setJointState h st).link = s.link ∧ (s.setJointState h st).time = s.time ∧
      (s.setJointState h st).outgoing = s.outgoing ∧ (s.setJointState h st).pending = s.pending := by
  simp only [State.setJointState]
  (repeat' split) <;> simp

@[simp] theorem State.writeResult_frame (s : State) (h : HeadNo) (f : JointResult → JointResult) :
    (s.writeResult h f).dispatcher = s.dispatcher ∧ (s.writeResult h f).heads = s.heads ∧
      (s.writeResult h f).signature = s.signature ∧ (s.writeResult h f).heater = s.heater ∧
      (s.writeResult h f).arbiter = s.arbiter ∧ (s.writeResult h f).control = s.control ∧
      (s.writeResult h f).reports = s.reports ∧ (s.writeResult h f).link = s.link ∧
      (s.writeResult h f).time = s.time ∧ (s.writeResult h f).outgoing = s.outgoing ∧
      (s.writeResult h f).pending = s.pending := by
  simp only [State.writeResult]
  (repeat' split) <;> simp

@[simp] theorem State.markSaturated_frame (s : State) (h : HeadNo) :
    (s.markSaturated h).dispatcher = s.dispatcher ∧ (s.markSaturated h).heads = s.heads ∧
      (s.markSaturated h).signature = s.signature ∧ (s.markSaturated h).heater = s.heater ∧
      (s.markSaturated h).arbiter = s.arbiter ∧ (s.markSaturated h).control = s.control ∧
      (s.markSaturated h).link = s.link ∧ (s.markSaturated h).time = s.time ∧
      (s.markSaturated h).outgoing = s.outgoing ∧ (s.markSaturated h).pending = s.pending := by
  simp only [State.markSaturated]
  (repeat' split) <;> simp

@[simp] theorem State.markOverflow_frame (s : State) (h : HeadNo) :
    (s.markOverflow h).dispatcher = s.dispatcher ∧ (s.markOverflow h).heads = s.heads ∧
      (s.markOverflow h).signature = s.signature ∧ (s.markOverflow h).heater = s.heater ∧
      (s.markOverflow h).arbiter = s.arbiter ∧ (s.markOverflow h).control = s.control ∧
      (s.markOverflow h).link = s.link ∧ (s.markOverflow h).time = s.time ∧
      (s.markOverflow h).outgoing = s.outgoing ∧ (s.markOverflow h).pending = s.pending := by
  simp only [State.markOverflow]
  (repeat' split) <;> simp

@[simp] theorem State.postRejected_frame (s : State) (is : List Nat) :
    (s.postRejected is).table = s.table ∧ (s.postRejected is).dispatcher = s.dispatcher ∧
      (s.postRejected is).heads = s.heads ∧ (s.postRejected is).signature = s.signature ∧
      (s.postRejected is).heater = s.heater ∧ (s.postRejected is).arbiter = s.arbiter ∧
      (s.postRejected is).control = s.control ∧ (s.postRejected is).link = s.link ∧
      (s.postRejected is).time = s.time ∧ (s.postRejected is).outgoing = s.outgoing ∧
      (s.postRejected is).pending = s.pending := by
  have step := List.foldlRecOn (motive := fun t : State =>
      t.table = s.table ∧ t.dispatcher = s.dispatcher ∧ t.heads = s.heads ∧ t.signature = s.signature ∧
        t.heater = s.heater ∧ t.arbiter = s.arbiter ∧ t.control = s.control ∧ t.link = s.link ∧ t.time = s.time ∧
        t.outgoing = s.outgoing ∧ t.pending = s.pending)
    (is) (fun t i => t.post .jointRejected i) (b := s) (by simp) (fun t e _ _ => by simp [e])
  exact step

@[simp] theorem State.computeCorrected_frame (s : State) :
    s.computeCorrected.dispatcher = s.dispatcher ∧ s.computeCorrected.heads = s.heads ∧
      s.computeCorrected.signature = s.signature ∧ s.computeCorrected.heater = s.heater ∧
      s.computeCorrected.arbiter = s.arbiter ∧ s.computeCorrected.control = s.control ∧
      s.computeCorrected.link = s.link ∧ s.computeCorrected.time = s.time ∧
      s.computeCorrected.outgoing = s.outgoing ∧ s.computeCorrected.pending = s.pending := by
  simp [State.computeCorrected]

/-! ## The heater and the permits (chapters 5 and 6) -/

@[simp] theorem State.ownPocket_frame (s : State) (p : PocketNo) (i : Nat) :
    (s.ownPocket p i).dispatcher = s.dispatcher ∧ (s.ownPocket p i).heads = s.heads ∧
      (s.ownPocket p i).signature = s.signature ∧ (s.ownPocket p i).arbiter = s.arbiter ∧
      (s.ownPocket p i).control = s.control ∧ (s.ownPocket p i).reports = s.reports ∧
      (s.ownPocket p i).link = s.link ∧ (s.ownPocket p i).time = s.time ∧ (s.ownPocket p i).outgoing = s.outgoing ∧
      (s.ownPocket p i).pending = s.pending := by
  simp [State.ownPocket]

@[simp] theorem State.serveInto_frame (s : State) (p : PocketNo) (o : HeatOrder) :
    (s.serveInto p o).dispatcher = s.dispatcher ∧ (s.serveInto p o).heads = s.heads ∧
      (s.serveInto p o).signature = s.signature ∧ (s.serveInto p o).arbiter = s.arbiter ∧
      (s.serveInto p o).control = s.control ∧ (s.serveInto p o).reports = s.reports ∧
      (s.serveInto p o).link = s.link ∧ (s.serveInto p o).time = s.time ∧ (s.serveInto p o).pending = s.pending := by
  simp [State.serveInto]

@[simp] theorem State.serveTurns_frame (n : Nat) (s : State) :
    (s.serveTurns n).dispatcher = s.dispatcher ∧ (s.serveTurns n).heads = s.heads ∧
      (s.serveTurns n).signature = s.signature ∧ (s.serveTurns n).arbiter = s.arbiter ∧
      (s.serveTurns n).control = s.control ∧ (s.serveTurns n).reports = s.reports ∧ (s.serveTurns n).link = s.link ∧
      (s.serveTurns n).time = s.time ∧ (s.serveTurns n).pending = s.pending := by
  induction n generalizing s with
  | zero => simp [State.serveTurns]
  | succ n ih => simp only [State.serveTurns]; (repeat' split) <;> simp [ih]

@[simp] theorem State.postStarved_frame (s : State) (cs : List RivetCode) :
    (s.postStarved cs).table = s.table ∧ (s.postStarved cs).dispatcher = s.dispatcher ∧
      (s.postStarved cs).heads = s.heads ∧ (s.postStarved cs).signature = s.signature ∧
      (s.postStarved cs).heater = s.heater ∧ (s.postStarved cs).arbiter = s.arbiter ∧
      (s.postStarved cs).control = s.control ∧ (s.postStarved cs).link = s.link ∧ (s.postStarved cs).time = s.time ∧
      (s.postStarved cs).outgoing = s.outgoing ∧ (s.postStarved cs).pending = s.pending := by
  have step := List.foldlRecOn (motive := fun t : State =>
      t.table = s.table ∧ t.dispatcher = s.dispatcher ∧ t.heads = s.heads ∧ t.signature = s.signature ∧
        t.heater = s.heater ∧ t.arbiter = s.arbiter ∧ t.control = s.control ∧ t.link = s.link ∧ t.time = s.time ∧
        t.outgoing = s.outgoing ∧ t.pending = s.pending)
    (cs) (fun t (c : RivetCode) => t.post .magazineEmpty c.val) (b := s) (by simp) (fun t e _ _ => by simp [e])
  exact step

@[simp] theorem State.serve_frame (s : State) :
    s.serve.dispatcher = s.dispatcher ∧ s.serve.heads = s.heads ∧ s.serve.signature = s.signature ∧
      s.serve.arbiter = s.arbiter ∧ s.serve.control = s.control ∧ s.serve.link = s.link ∧ s.serve.time = s.time ∧
      s.serve.pending = s.pending := by
  simp only [State.serve]
  (repeat' split) <;> simp

@[simp] theorem State.joinPermitQueue_frame (s : State) (h : HeadNo) :
    (s.joinPermitQueue h).table = s.table ∧ (s.joinPermitQueue h).dispatcher = s.dispatcher ∧
      (s.joinPermitQueue h).heads = s.heads ∧ (s.joinPermitQueue h).signature = s.signature ∧
      (s.joinPermitQueue h).heater = s.heater ∧ (s.joinPermitQueue h).control = s.control ∧
      (s.joinPermitQueue h).reports = s.reports ∧ (s.joinPermitQueue h).link = s.link ∧
      (s.joinPermitQueue h).time = s.time ∧ (s.joinPermitQueue h).outgoing = s.outgoing ∧
      (s.joinPermitQueue h).pending = s.pending := by
  simp only [State.joinPermitQueue]
  (repeat' split) <;> simp

@[simp] theorem State.enterFeed_frame (s : State) (h : HeadNo) (p : PocketNo) :
    (s.enterFeed h p).dispatcher = s.dispatcher ∧ (s.enterFeed h p).signature = s.signature ∧
      (s.enterFeed h p).heater = s.heater ∧ (s.enterFeed h p).arbiter = s.arbiter ∧
      (s.enterFeed h p).control = s.control ∧ (s.enterFeed h p).link = s.link ∧ (s.enterFeed h p).time = s.time ∧
      (s.enterFeed h p).pending = s.pending := by
  simp [State.enterFeed]

@[simp] theorem State.grantPermit_frame (s : State) (k : PermitNo) (h : HeadNo) (i : Nat) (p : PocketNo) (c : RivetCode) :
    (s.grantPermit k h i p c).dispatcher = s.dispatcher ∧ (s.grantPermit k h i p c).signature = s.signature ∧
      (s.grantPermit k h i p c).control = s.control ∧ (s.grantPermit k h i p c).link = s.link ∧
      (s.grantPermit k h i p c).time = s.time ∧ (s.grantPermit k h i p c).pending = s.pending := by
  simp [State.grantPermit]

@[simp] theorem State.grantFront_frame (s : State) (k : PermitNo) (h : HeadNo) :
    (s.grantFront k h).dispatcher = s.dispatcher ∧ (s.grantFront k h).signature = s.signature ∧
      (s.grantFront k h).control = s.control ∧ (s.grantFront k h).link = s.link ∧ (s.grantFront k h).time = s.time ∧
      (s.grantFront k h).pending = s.pending := by
  simp only [State.grantFront]
  (repeat' split) <;> simp

@[simp] theorem State.grantTurns_frame (n : Nat) (s : State) :
    (s.grantTurns n).dispatcher = s.dispatcher ∧ (s.grantTurns n).signature = s.signature ∧
      (s.grantTurns n).control = s.control ∧ (s.grantTurns n).link = s.link ∧ (s.grantTurns n).time = s.time ∧
      (s.grantTurns n).pending = s.pending := by
  induction n generalizing s with
  | zero => simp [State.grantTurns]
  | succ n ih => simp only [State.grantTurns]; (repeat' split) <;> simp [ih]

@[simp] theorem State.grantAll_frame (s : State) :
    s.grantAll.dispatcher = s.dispatcher ∧ s.grantAll.signature = s.signature ∧ s.grantAll.control = s.control ∧
      s.grantAll.link = s.link ∧ s.grantAll.time = s.time ∧ s.grantAll.pending = s.pending := by
  simp [State.grantAll]

@[simp] theorem State.requestPermit_frame (s : State) (h : HeadNo) :
    (s.requestPermit h).dispatcher = s.dispatcher ∧ (s.requestPermit h).signature = s.signature ∧
      (s.requestPermit h).control = s.control ∧ (s.requestPermit h).link = s.link ∧
      (s.requestPermit h).time = s.time ∧ (s.requestPermit h).pending = s.pending := by
  simp [State.requestPermit]

@[simp] theorem State.reRaise_frame (s : State) :
    s.reRaise.dispatcher = s.dispatcher ∧ s.reRaise.signature = s.signature ∧ s.reRaise.control = s.control ∧
      s.reRaise.link = s.link ∧ s.reRaise.time = s.time ∧ s.reRaise.pending = s.pending := by
  have step := List.foldlRecOn (motive := fun t : State =>
      t.dispatcher = s.dispatcher ∧ t.signature = s.signature ∧ t.control = s.control ∧ t.link = s.link ∧
        t.time = s.time ∧ t.pending = s.pending)
    (headNos) State.joinPermitQueue (b := s) (by simp) (fun t e _ _ => by simp [e])
  simp [State.reRaise, step]

@[simp] theorem State.tellReady_frame (s : State) (i : Nat) :
    (s.tellReady i).dispatcher = s.dispatcher ∧ (s.tellReady i).signature = s.signature ∧
      (s.tellReady i).control = s.control ∧ (s.tellReady i).link = s.link ∧ (s.tellReady i).time = s.time ∧
      (s.tellReady i).pending = s.pending := by
  simp only [State.tellReady]
  (repeat' split) <;> simp

@[simp] theorem State.takePocket_frame (s : State) (p : PocketNo) (i : Nat) :
    (s.takePocket p i).dispatcher = s.dispatcher ∧ (s.takePocket p i).signature = s.signature ∧
      (s.takePocket p i).control = s.control ∧ (s.takePocket p i).link = s.link ∧ (s.takePocket p i).time = s.time ∧
      (s.takePocket p i).pending = s.pending := by
  simp [State.takePocket]

@[simp] theorem State.seekAs_frame (s : State) (i : Nat) (c : RivetCode) (cls : OrderClass) (front : Bool) :
    (s.seekAs i c cls front).dispatcher = s.dispatcher ∧ (s.seekAs i c cls front).signature = s.signature ∧
      (s.seekAs i c cls front).control = s.control ∧ (s.seekAs i c cls front).link = s.link ∧
      (s.seekAs i c cls front).time = s.time ∧ (s.seekAs i c cls front).pending = s.pending := by
  simp only [State.seekAs]
  (repeat' split) <;> simp

@[simp] theorem State.seek_frame (s : State) (i : Nat) (c : RivetCode) (front : Bool) :
    (s.seek i c front).dispatcher = s.dispatcher ∧ (s.seek i c front).signature = s.signature ∧
      (s.seek i c front).control = s.control ∧ (s.seek i c front).link = s.link ∧ (s.seek i c front).time = s.time ∧
      (s.seek i c front).pending = s.pending := by
  simp only [State.seek]
  (repeat' split) <;> simp

@[simp] theorem State.preHeat_frame (s : State) (i : Nat) :
    (s.preHeat i).dispatcher = s.dispatcher ∧ (s.preHeat i).signature = s.signature ∧
      (s.preHeat i).control = s.control ∧ (s.preHeat i).link = s.link ∧ (s.preHeat i).time = s.time ∧
      (s.preHeat i).pending = s.pending := by
  simp only [State.preHeat]
  (repeat' split) <;> simp

@[simp] theorem State.handOver_frame (s : State) (p : PocketNo) :
    (s.handOver p).dispatcher = s.dispatcher ∧ (s.handOver p).signature = s.signature ∧
      (s.handOver p).control = s.control ∧ (s.handOver p).link = s.link ∧ (s.handOver p).time = s.time ∧
      (s.handOver p).pending = s.pending := by
  simp only [State.handOver]
  (repeat' split) <;> simp

@[simp] theorem State.releasePocket_frame (s : State) (p : PocketNo) (i : Nat) :
    (s.releasePocket p i).dispatcher = s.dispatcher ∧ (s.releasePocket p i).signature = s.signature ∧
      (s.releasePocket p i).control = s.control ∧ (s.releasePocket p i).link = s.link ∧
      (s.releasePocket p i).time = s.time ∧ (s.releasePocket p i).pending = s.pending := by
  simp [State.releasePocket]

@[simp] theorem State.endHeaterUse_frame (s : State) (i : Nat) :
    (s.endHeaterUse i).dispatcher = s.dispatcher ∧ (s.endHeaterUse i).signature = s.signature ∧
      (s.endHeaterUse i).control = s.control ∧ (s.endHeaterUse i).link = s.link ∧ (s.endHeaterUse i).time = s.time ∧
      (s.endHeaterUse i).pending = s.pending := by
  simp only [State.endHeaterUse]
  (repeat' split) <;> simp

@[simp] theorem State.demandRivet_frame (s : State) (i : Nat) (c : RivetCode) :
    (s.demandRivet i c).dispatcher = s.dispatcher ∧ (s.demandRivet i c).signature = s.signature ∧
      (s.demandRivet i c).control = s.control ∧ (s.demandRivet i c).link = s.link ∧
      (s.demandRivet i c).time = s.time ∧ (s.demandRivet i c).pending = s.pending := by
  simp only [State.demandRivet]
  (repeat' split) <;> simp

@[simp] theorem State.drillingEndStep_frame (s : State) (i : Nat) (c : RivetCode) :
    (s.drillingEndStep i c).dispatcher = s.dispatcher ∧ (s.drillingEndStep i c).signature = s.signature ∧
      (s.drillingEndStep i c).control = s.control ∧ (s.drillingEndStep i c).link = s.link ∧
      (s.drillingEndStep i c).time = s.time ∧ (s.drillingEndStep i c).pending = s.pending := by
  simp only [State.drillingEndStep]
  (repeat' split) <;> simp

@[simp] theorem State.ejectPocket_frame (s : State) (p : PocketNo) (c : RivetCode) :
    (s.ejectPocket p c).table = s.table ∧ (s.ejectPocket p c).dispatcher = s.dispatcher ∧
      (s.ejectPocket p c).heads = s.heads ∧ (s.ejectPocket p c).signature = s.signature ∧
      (s.ejectPocket p c).arbiter = s.arbiter ∧ (s.ejectPocket p c).control = s.control ∧
      (s.ejectPocket p c).reports = s.reports ∧ (s.ejectPocket p c).link = s.link ∧
      (s.ejectPocket p c).time = s.time ∧ (s.ejectPocket p c).pending = s.pending := by
  simp [State.ejectPocket]

@[simp] theorem State.loadDone_frame (s : State) (p : PocketNo) :
    (s.loadDone p).table = s.table ∧ (s.loadDone p).dispatcher = s.dispatcher ∧ (s.loadDone p).heads = s.heads ∧
      (s.loadDone p).signature = s.signature ∧ (s.loadDone p).arbiter = s.arbiter ∧
      (s.loadDone p).control = s.control ∧ (s.loadDone p).reports = s.reports ∧ (s.loadDone p).link = s.link ∧
      (s.loadDone p).time = s.time ∧ (s.loadDone p).outgoing = s.outgoing ∧ (s.loadDone p).pending = s.pending := by
  simp only [State.loadDone]
  (repeat' split) <;> simp

@[simp] theorem State.heatExpired_frame (s : State) (p : PocketNo) :
    (s.heatExpired p).dispatcher = s.dispatcher ∧ (s.heatExpired p).signature = s.signature ∧
      (s.heatExpired p).control = s.control ∧ (s.heatExpired p).link = s.link ∧ (s.heatExpired p).time = s.time ∧
      (s.heatExpired p).pending = s.pending := by
  simp only [State.heatExpired]
  (repeat' split) <;> simp

@[simp] theorem State.losePocket_frame (s : State) (i : Nat) :
    (s.losePocket i).dispatcher = s.dispatcher ∧ (s.losePocket i).heads = s.heads ∧
      (s.losePocket i).signature = s.signature ∧ (s.losePocket i).heater = s.heater ∧
      (s.losePocket i).control = s.control ∧ (s.losePocket i).reports = s.reports ∧ (s.losePocket i).link = s.link ∧
      (s.losePocket i).time = s.time ∧ (s.losePocket i).outgoing = s.outgoing ∧ (s.losePocket i).pending = s.pending := by
  simp only [State.losePocket]
  (repeat' split) <;> simp

@[simp] theorem State.holdExpired_frame (s : State) (p : PocketNo) :
    (s.holdExpired p).dispatcher = s.dispatcher ∧ (s.holdExpired p).signature = s.signature ∧
      (s.holdExpired p).control = s.control ∧ (s.holdExpired p).link = s.link ∧ (s.holdExpired p).time = s.time ∧
      (s.holdExpired p).pending = s.pending := by
  simp only [State.holdExpired]
  (repeat' split) <;> simp

@[simp] theorem State.ejectDone_frame (s : State) (p : PocketNo) :
    (s.ejectDone p).dispatcher = s.dispatcher ∧ (s.ejectDone p).heads = s.heads ∧
      (s.ejectDone p).signature = s.signature ∧ (s.ejectDone p).arbiter = s.arbiter ∧
      (s.ejectDone p).control = s.control ∧ (s.ejectDone p).link = s.link ∧ (s.ejectDone p).time = s.time ∧
      (s.ejectDone p).pending = s.pending := by
  simp only [State.ejectDone]
  (repeat' split) <;> simp

@[simp] theorem State.portExpired_frame (s : State) (p : PocketNo) :
    (s.portExpired p).dispatcher = s.dispatcher ∧ (s.portExpired p).signature = s.signature ∧
      (s.portExpired p).control = s.control ∧ (s.portExpired p).link = s.link ∧ (s.portExpired p).time = s.time ∧
      (s.portExpired p).pending = s.pending := by
  simp only [State.portExpired]
  (repeat' split) <;> simp

@[simp] theorem State.ejectIfLoaded_frame (s : State) (p : PocketNo) :
    (s.ejectIfLoaded p).table = s.table ∧ (s.ejectIfLoaded p).dispatcher = s.dispatcher ∧
      (s.ejectIfLoaded p).heads = s.heads ∧ (s.ejectIfLoaded p).signature = s.signature ∧
      (s.ejectIfLoaded p).arbiter = s.arbiter ∧ (s.ejectIfLoaded p).control = s.control ∧
      (s.ejectIfLoaded p).reports = s.reports ∧ (s.ejectIfLoaded p).link = s.link ∧
      (s.ejectIfLoaded p).time = s.time ∧ (s.ejectIfLoaded p).pending = s.pending := by
  simp only [State.ejectIfLoaded]
  (repeat' split) <;> simp

@[simp] theorem State.ejectAll_frame (s : State) :
    s.ejectAll.dispatcher = s.dispatcher ∧ s.ejectAll.heads = s.heads ∧ s.ejectAll.signature = s.signature ∧
      s.ejectAll.arbiter = s.arbiter ∧ s.ejectAll.control = s.control ∧ s.ejectAll.reports = s.reports ∧
      s.ejectAll.link = s.link ∧ s.ejectAll.time = s.time ∧ s.ejectAll.pending = s.pending := by
  have step := List.foldlRecOn (motive := fun t : State =>
      t.dispatcher = s.dispatcher ∧ t.heads = s.heads ∧ t.signature = s.signature ∧ t.arbiter = s.arbiter ∧
        t.control = s.control ∧ t.reports = s.reports ∧ t.link = s.link ∧ t.time = s.time ∧ t.pending = s.pending)
    (pocketNos) State.ejectIfLoaded (b := s) (by simp) (fun t e _ _ => by simp [e])
  simp [State.ejectAll, step]

/-! ## Heads (chapter 3) -/

@[simp] theorem State.sendFeed_frame (s : State) (h : HeadNo) (r : FeedRate) :
    (s.sendFeed h r).table = s.table ∧ (s.sendFeed h r).dispatcher = s.dispatcher ∧
      (s.sendFeed h r).signature = s.signature ∧ (s.sendFeed h r).heater = s.heater ∧
      (s.sendFeed h r).arbiter = s.arbiter ∧ (s.sendFeed h r).control = s.control ∧
      (s.sendFeed h r).reports = s.reports ∧ (s.sendFeed h r).link = s.link ∧ (s.sendFeed h r).time = s.time ∧
      (s.sendFeed h r).pending = s.pending := by
  simp [State.sendFeed]

@[simp] theorem State.enterDrill_frame (s : State) (h : HeadNo) :
    (s.enterDrill h).dispatcher = s.dispatcher ∧ (s.enterDrill h).signature = s.signature ∧
      (s.enterDrill h).heater = s.heater ∧ (s.enterDrill h).arbiter = s.arbiter ∧
      (s.enterDrill h).control = s.control ∧ (s.enterDrill h).link = s.link ∧ (s.enterDrill h).time = s.time ∧
      (s.enterDrill h).pending = s.pending := by
  simp [State.enterDrill]

@[simp] theorem State.grantDrill_frame (s : State) (c : ChannelNo) (h : HeadNo) :
    (s.grantDrill c h).dispatcher = s.dispatcher ∧ (s.grantDrill c h).heater = s.heater ∧
      (s.grantDrill c h).arbiter = s.arbiter ∧ (s.grantDrill c h).control = s.control ∧
      (s.grantDrill c h).link = s.link ∧ (s.grantDrill c h).time = s.time ∧ (s.grantDrill c h).pending = s.pending := by
  simp [State.grantDrill]

@[simp] theorem State.waitForDrill_frame (s : State) (h : HeadNo) :
    (s.waitForDrill h).table = s.table ∧ (s.waitForDrill h).dispatcher = s.dispatcher ∧
      (s.waitForDrill h).heater = s.heater ∧ (s.waitForDrill h).arbiter = s.arbiter ∧
      (s.waitForDrill h).control = s.control ∧ (s.waitForDrill h).reports = s.reports ∧
      (s.waitForDrill h).link = s.link ∧ (s.waitForDrill h).time = s.time ∧
      (s.waitForDrill h).outgoing = s.outgoing ∧ (s.waitForDrill h).pending = s.pending := by
  simp [State.waitForDrill]

@[simp] theorem State.askDrill_frame (s : State) (h : HeadNo) :
    (s.askDrill h).dispatcher = s.dispatcher ∧ (s.askDrill h).heater = s.heater ∧
      (s.askDrill h).arbiter = s.arbiter ∧ (s.askDrill h).control = s.control ∧ (s.askDrill h).link = s.link ∧
      (s.askDrill h).time = s.time ∧ (s.askDrill h).pending = s.pending := by
  simp only [State.askDrill]
  (repeat' split) <;> simp

@[simp] theorem State.releaseDrill_frame (s : State) (c : ChannelNo) :
    (s.releaseDrill c).dispatcher = s.dispatcher ∧ (s.releaseDrill c).heater = s.heater ∧
      (s.releaseDrill c).arbiter = s.arbiter ∧ (s.releaseDrill c).control = s.control ∧
      (s.releaseDrill c).link = s.link ∧ (s.releaseDrill c).time = s.time ∧ (s.releaseDrill c).pending = s.pending := by
  simp only [State.releaseDrill]
  (repeat' split) <;> simp

@[simp] theorem State.startPeck_frame (s : State) (h : HeadNo) :
    (s.startPeck h).dispatcher = s.dispatcher ∧ (s.startPeck h).signature = s.signature ∧
      (s.startPeck h).heater = s.heater ∧ (s.startPeck h).arbiter = s.arbiter ∧ (s.startPeck h).control = s.control ∧
      (s.startPeck h).reports = s.reports ∧ (s.startPeck h).link = s.link ∧ (s.startPeck h).time = s.time ∧
      (s.startPeck h).pending = s.pending := by
  simp [State.startPeck]

@[simp] theorem State.refeed_frame (s : State) (h : HeadNo) (m : MachineState) :
    (s.refeed h m).table = s.table ∧ (s.refeed h m).dispatcher = s.dispatcher ∧
      (s.refeed h m).signature = s.signature ∧ (s.refeed h m).heater = s.heater ∧
      (s.refeed h m).arbiter = s.arbiter ∧ (s.refeed h m).control = s.control ∧ (s.refeed h m).reports = s.reports ∧
      (s.refeed h m).link = s.link ∧ (s.refeed h m).time = s.time ∧ (s.refeed h m).pending = s.pending := by
  simp only [State.refeed]
  (repeat' split) <;> simp

@[simp] theorem State.enterRetract_frame (s : State) (h : HeadNo) :
    (s.enterRetract h).table = s.table ∧ (s.enterRetract h).dispatcher = s.dispatcher ∧
      (s.enterRetract h).signature = s.signature ∧ (s.enterRetract h).heater = s.heater ∧
      (s.enterRetract h).arbiter = s.arbiter ∧ (s.enterRetract h).control = s.control ∧
      (s.enterRetract h).reports = s.reports ∧ (s.enterRetract h).link = s.link ∧ (s.enterRetract h).time = s.time ∧
      (s.enterRetract h).pending = s.pending := by
  simp [State.enterRetract]

@[simp] theorem State.askRivet_frame (s : State) (i : Nat) (c : Option RivetCode) :
    (s.askRivet i c).dispatcher = s.dispatcher ∧ (s.askRivet i c).signature = s.signature ∧
      (s.askRivet i c).control = s.control ∧ (s.askRivet i c).link = s.link ∧ (s.askRivet i c).time = s.time ∧
      (s.askRivet i c).pending = s.pending := by
  cases c <;> simp [State.askRivet]

@[simp] theorem State.endMeasurement_frame (s : State) (h : HeadNo) (c : ChannelNo) (i : Nat) (j : Joint) :
    (s.endMeasurement h c i j).dispatcher = s.dispatcher ∧ (s.endMeasurement h c i j).control = s.control ∧
      (s.endMeasurement h c i j).link = s.link ∧ (s.endMeasurement h c i j).time = s.time ∧
      (s.endMeasurement h c i j).pending = s.pending := by
  simp [State.endMeasurement]

@[simp] theorem State.channelSample_frame (s : State) (h : HeadNo) (c : ChannelNo) (d : Nat) (x : Int) :
    (s.channelSample h c d x).dispatcher = s.dispatcher ∧ (s.channelSample h c d x).heads = s.heads ∧
      (s.channelSample h c d x).heater = s.heater ∧ (s.channelSample h c d x).arbiter = s.arbiter ∧
      (s.channelSample h c d x).control = s.control ∧ (s.channelSample h c d x).link = s.link ∧
      (s.channelSample h c d x).time = s.time ∧ (s.channelSample h c d x).outgoing = s.outgoing ∧
      (s.channelSample h c d x).pending = s.pending := by
  simp only [State.channelSample]
  (repeat' split) <;> simp

@[simp] theorem State.afterSample_frame (s : State) (h : HeadNo) (c : ChannelNo) (i : Nat) (j : Joint) :
    (s.afterSample h c i j).dispatcher = s.dispatcher ∧ (s.afterSample h c i j).control = s.control ∧
      (s.afterSample h c i j).link = s.link ∧ (s.afterSample h c i j).time = s.time ∧
      (s.afterSample h c i j).pending = s.pending := by
  simp only [State.afterSample]
  (repeat' split) <;> simp

@[simp] theorem State.drillSample_frame (s : State) (h : HeadNo) (d : Nat) (x : Int) :
    (s.drillSample h d x).dispatcher = s.dispatcher ∧ (s.drillSample h d x).control = s.control ∧
      (s.drillSample h d x).link = s.link ∧ (s.drillSample h d x).time = s.time ∧
      (s.drillSample h d x).pending = s.pending := by
  simp only [State.drillSample]
  (repeat' split) <;> simp

@[simp] theorem State.peckBack_frame (s : State) (h : HeadNo) :
    (s.peckBack h).table = s.table ∧ (s.peckBack h).dispatcher = s.dispatcher ∧
      (s.peckBack h).signature = s.signature ∧ (s.peckBack h).heater = s.heater ∧
      (s.peckBack h).arbiter = s.arbiter ∧ (s.peckBack h).control = s.control ∧ (s.peckBack h).reports = s.reports ∧
      (s.peckBack h).link = s.link ∧ (s.peckBack h).time = s.time ∧ (s.peckBack h).pending = s.pending := by
  simp only [State.peckBack]
  (repeat' split) <;> simp

@[simp] theorem State.enterRelease_frame (s : State) (h : HeadNo) :
    (s.enterRelease h).table = s.table ∧ (s.enterRelease h).dispatcher = s.dispatcher ∧
      (s.enterRelease h).signature = s.signature ∧ (s.enterRelease h).heater = s.heater ∧
      (s.enterRelease h).arbiter = s.arbiter ∧ (s.enterRelease h).control = s.control ∧
      (s.enterRelease h).reports = s.reports ∧ (s.enterRelease h).link = s.link ∧ (s.enterRelease h).time = s.time ∧
      (s.enterRelease h).pending = s.pending := by
  simp [State.enterRelease]

@[simp] theorem State.enterAwait_frame (s : State) (h : HeadNo) :
    (s.enterAwait h).dispatcher = s.dispatcher ∧ (s.enterAwait h).signature = s.signature ∧
      (s.enterAwait h).control = s.control ∧ (s.enterAwait h).link = s.link ∧ (s.enterAwait h).time = s.time ∧
      (s.enterAwait h).pending = s.pending := by
  simp [State.enterAwait]

@[simp] theorem State.retractDone_frame (s : State) (h : HeadNo) :
    (s.retractDone h).dispatcher = s.dispatcher ∧ (s.retractDone h).signature = s.signature ∧
      (s.retractDone h).control = s.control ∧ (s.retractDone h).link = s.link ∧ (s.retractDone h).time = s.time ∧
      (s.retractDone h).pending = s.pending := by
  simp only [State.retractDone]
  (repeat' split) <;> simp

@[simp] theorem State.rivetWaitExpired_frame (s : State) (h : HeadNo) :
    (s.rivetWaitExpired h).dispatcher = s.dispatcher ∧ (s.rivetWaitExpired h).signature = s.signature ∧
      (s.rivetWaitExpired h).control = s.control ∧ (s.rivetWaitExpired h).link = s.link ∧
      (s.rivetWaitExpired h).time = s.time ∧ (s.rivetWaitExpired h).pending = s.pending := by
  simp only [State.rivetWaitExpired]
  (repeat' split) <;> simp

@[simp] theorem State.feedDone_frame (s : State) (h : HeadNo) :
    (s.feedDone h).table = s.table ∧ (s.feedDone h).dispatcher = s.dispatcher ∧ (s.feedDone h).heater = s.heater ∧
      (s.feedDone h).control = s.control ∧ (s.feedDone h).reports = s.reports ∧ (s.feedDone h).link = s.link ∧
      (s.feedDone h).time = s.time ∧ (s.feedDone h).pending = s.pending := by
  simp only [State.feedDone]
  (repeat' split) <;> simp

@[simp] theorem State.setSample_frame (s : State) (h : HeadNo) (st : Nat) (x : Int) :
    (s.setSample h st x).dispatcher = s.dispatcher ∧ (s.setSample h st x).heads = s.heads ∧
      (s.setSample h st x).heater = s.heater ∧ (s.setSample h st x).arbiter = s.arbiter ∧
      (s.setSample h st x).control = s.control ∧ (s.setSample h st x).link = s.link ∧
      (s.setSample h st x).time = s.time ∧ (s.setSample h st x).outgoing = s.outgoing ∧
      (s.setSample h st x).pending = s.pending := by
  simp only [State.setSample]
  (repeat' split) <;> simp

@[simp] theorem State.finishSet_frame (s : State) (h : HeadNo) (k : PermitNo) (g : PermitGrant) :
    (s.finishSet h k g).dispatcher = s.dispatcher ∧ (s.finishSet h k g).control = s.control ∧
      (s.finishSet h k g).link = s.link ∧ (s.finishSet h k g).time = s.time ∧ (s.finishSet h k g).pending = s.pending := by
  simp only [State.finishSet]
  (repeat' split) <;> simp

@[simp] theorem State.setDone_frame (s : State) (h : HeadNo) :
    (s.setDone h).dispatcher = s.dispatcher ∧ (s.setDone h).control = s.control ∧ (s.setDone h).link = s.link ∧
      (s.setDone h).time = s.time ∧ (s.setDone h).pending = s.pending := by
  simp only [State.setDone]
  (repeat' split) <;> simp

@[simp] theorem State.concludeJoint_frame (s : State) (i : Nat) (o : Option HeadOutcome) :
    (s.concludeJoint i o).dispatcher = s.dispatcher ∧ (s.concludeJoint i o).signature = s.signature ∧
      (s.concludeJoint i o).control = s.control ∧ (s.concludeJoint i o).link = s.link ∧
      (s.concludeJoint i o).time = s.time ∧ (s.concludeJoint i o).pending = s.pending := by
  simp only [State.concludeJoint]
  (repeat' split) <;> simp

@[simp] theorem State.release_frame (s : State) (h : HeadNo) :
    (s.release h).dispatcher = s.dispatcher ∧ (s.release h).signature = s.signature ∧
      (s.release h).control = s.control ∧ (s.release h).link = s.link ∧ (s.release h).time = s.time ∧
      (s.release h).pending = s.pending := by
  simp only [State.release]
  (repeat' split) <;> simp

@[simp] theorem State.rejectHeld_frame (s : State) (i : Nat) (ph : HeadState) :
    (s.rejectHeld i ph).dispatcher = s.dispatcher ∧ (s.rejectHeld i ph).heads = s.heads ∧
      (s.rejectHeld i ph).signature = s.signature ∧ (s.rejectHeld i ph).heater = s.heater ∧
      (s.rejectHeld i ph).arbiter = s.arbiter ∧ (s.rejectHeld i ph).control = s.control ∧
      (s.rejectHeld i ph).link = s.link ∧ (s.rejectHeld i ph).time = s.time ∧
      (s.rejectHeld i ph).outgoing = s.outgoing ∧ (s.rejectHeld i ph).pending = s.pending := by
  simp [State.rejectHeld]

@[simp] theorem State.dropDrill_frame (s : State) (h : HeadNo) :
    (s.dropDrill h).dispatcher = s.dispatcher ∧ (s.dropDrill h).heater = s.heater ∧
      (s.dropDrill h).arbiter = s.arbiter ∧ (s.dropDrill h).control = s.control ∧ (s.dropDrill h).link = s.link ∧
      (s.dropDrill h).time = s.time ∧ (s.dropDrill h).pending = s.pending := by
  simp only [State.dropDrill]
  (repeat' split) <;> simp

@[simp] theorem State.freeSetChannel_frame (s : State) (k : PermitNo) (h : HeadNo) :
    (s.freeSetChannel k h).table = s.table ∧ (s.freeSetChannel k h).dispatcher = s.dispatcher ∧
      (s.freeSetChannel k h).heads = s.heads ∧ (s.freeSetChannel k h).heater = s.heater ∧
      (s.freeSetChannel k h).arbiter = s.arbiter ∧ (s.freeSetChannel k h).control = s.control ∧
      (s.freeSetChannel k h).reports = s.reports ∧ (s.freeSetChannel k h).link = s.link ∧
      (s.freeSetChannel k h).time = s.time ∧ (s.freeSetChannel k h).outgoing = s.outgoing ∧
      (s.freeSetChannel k h).pending = s.pending := by
  simp only [State.freeSetChannel]
  (repeat' split) <;> simp

@[simp] theorem State.dropPermit_frame (s : State) (h : HeadNo) :
    (s.dropPermit h).dispatcher = s.dispatcher ∧ (s.dropPermit h).control = s.control ∧
      (s.dropPermit h).link = s.link ∧ (s.dropPermit h).time = s.time ∧ (s.dropPermit h).pending = s.pending := by
  simp only [State.dropPermit]
  (repeat' split) <;> simp

@[simp] theorem State.faultHead_frame (s : State) (h : HeadNo) (cause : FaultCause) :
    (s.faultHead h cause).dispatcher = s.dispatcher ∧ (s.faultHead h cause).control = s.control ∧
      (s.faultHead h cause).link = s.link ∧ (s.faultHead h cause).time = s.time ∧
      (s.faultHead h cause).pending = s.pending := by
  simp only [State.faultHead]
  (repeat' split) <;> simp

@[simp] theorem State.enterHoming_frame (s : State) (h : HeadNo) :
    (s.enterHoming h).table = s.table ∧ (s.enterHoming h).signature = s.signature ∧
      (s.enterHoming h).heater = s.heater ∧ (s.enterHoming h).arbiter = s.arbiter ∧
      (s.enterHoming h).control = s.control ∧ (s.enterHoming h).reports = s.reports ∧
      (s.enterHoming h).link = s.link ∧ (s.enterHoming h).time = s.time ∧ (s.enterHoming h).pending = s.pending := by
  simp [State.enterHoming]

@[simp] theorem State.home_frame (s : State) (h : HeadNo) :
    (s.home h).table = s.table ∧ (s.home h).signature = s.signature ∧ (s.home h).heater = s.heater ∧
      (s.home h).arbiter = s.arbiter ∧ (s.home h).control = s.control ∧ (s.home h).reports = s.reports ∧
      (s.home h).link = s.link ∧ (s.home h).time = s.time ∧ (s.home h).outgoing = s.outgoing ∧
      (s.home h).pending = s.pending := by
  simp [State.home]

@[simp] theorem State.stopHoming_frame (s : State) (h : HeadNo) :
    (s.stopHoming h).table = s.table ∧ (s.stopHoming h).dispatcher = s.dispatcher ∧
      (s.stopHoming h).signature = s.signature ∧ (s.stopHoming h).heater = s.heater ∧
      (s.stopHoming h).arbiter = s.arbiter ∧ (s.stopHoming h).control = s.control ∧
      (s.stopHoming h).reports = s.reports ∧ (s.stopHoming h).link = s.link ∧ (s.stopHoming h).time = s.time ∧
      (s.stopHoming h).pending = s.pending := by
  simp only [State.stopHoming]
  (repeat' split) <;> simp

@[simp] theorem State.park_frame (s : State) (h : HeadNo) :
    (s.park h).table = s.table ∧ (s.park h).dispatcher = s.dispatcher ∧ (s.park h).signature = s.signature ∧
      (s.park h).heater = s.heater ∧ (s.park h).arbiter = s.arbiter ∧ (s.park h).control = s.control ∧
      (s.park h).reports = s.reports ∧ (s.park h).link = s.link ∧ (s.park h).time = s.time ∧
      (s.park h).pending = s.pending := by
  simp [State.park]

@[simp] theorem State.parkWhere_frame (s : State) (w : HeadState → Bool) :
    (s.parkWhere w).table = s.table ∧ (s.parkWhere w).dispatcher = s.dispatcher ∧
      (s.parkWhere w).signature = s.signature ∧ (s.parkWhere w).heater = s.heater ∧
      (s.parkWhere w).arbiter = s.arbiter ∧ (s.parkWhere w).control = s.control ∧
      (s.parkWhere w).reports = s.reports ∧ (s.parkWhere w).link = s.link ∧ (s.parkWhere w).time = s.time ∧
      (s.parkWhere w).pending = s.pending := by
  have step := List.foldlRecOn (motive := fun t : State =>
      t.table = s.table ∧ t.dispatcher = s.dispatcher ∧ t.signature = s.signature ∧ t.heater = s.heater ∧
        t.arbiter = s.arbiter ∧ t.control = s.control ∧ t.reports = s.reports ∧ t.link = s.link ∧ t.time = s.time ∧
        t.pending = s.pending)
    (headNos) (fun t h => if w (t.head h).state then t.park h else t) (b := s) (by simp) (fun t e _ _ => by (repeat' split) <;> simp [e])
  exact step

@[simp] theorem State.stopHeads_frame (s : State) :
    s.stopHeads.table = s.table ∧ s.stopHeads.dispatcher = s.dispatcher ∧ s.stopHeads.signature = s.signature ∧
      s.stopHeads.heater = s.heater ∧ s.stopHeads.arbiter = s.arbiter ∧ s.stopHeads.control = s.control ∧
      s.stopHeads.reports = s.reports ∧ s.stopHeads.link = s.link ∧ s.stopHeads.time = s.time ∧
      s.stopHeads.pending = s.pending := by
  have step := List.foldlRecOn (motive := fun t : State =>
      t.table = s.table ∧ t.dispatcher = s.dispatcher ∧ t.signature = s.signature ∧ t.heater = s.heater ∧
        t.arbiter = s.arbiter ∧ t.control = s.control ∧ t.reports = s.reports ∧ t.link = s.link ∧ t.time = s.time ∧
        t.pending = s.pending)
    (headNos) (fun t h => if (t.head h).state = .offline then t else (t.modHead h Head.abort).sendDrive h .stop) (b := s) (by simp) (fun t e _ _ => by (repeat' split) <;> simp [e])
  exact step

/-! ## Dispatch (chapter 2) -/

@[simp] theorem State.assign_frame (s : State) (h : HeadNo) (p i t : Nat) :
    (s.assign h p i t).signature = s.signature ∧ (s.assign h p i t).control = s.control ∧
      (s.assign h p i t).link = s.link ∧ (s.assign h p i t).time = s.time ∧ (s.assign h p i t).pending = s.pending := by
  simp [State.assign]

@[simp] theorem State.serveHead_frame (s : State) (h : HeadNo) :
    (s.serveHead h).signature = s.signature ∧ (s.serveHead h).control = s.control ∧ (s.serveHead h).link = s.link ∧
      (s.serveHead h).time = s.time ∧ (s.serveHead h).pending = s.pending := by
  simp only [State.serveHead]
  (repeat' split) <;> simp

@[simp] theorem State.round_frame (s : State) :
    s.round.signature = s.signature ∧ s.round.control = s.control ∧ s.round.link = s.link ∧ s.round.time = s.time ∧
      s.round.pending = s.pending := by
  have step := List.foldlRecOn (motive := fun t : State =>
      t.signature = s.signature ∧ t.control = s.control ∧ t.link = s.link ∧ t.time = s.time ∧ t.pending = s.pending)
    (headNos) State.serveHead (b := s) (by simp) (fun t e _ _ => by simp [e])
  simp only [State.round]
  split
  · exact step
  · simp

@[simp] theorem State.roundIfPassChanged_frame (s : State) (old : Option Pass) :
    (s.roundIfPassChanged old).signature = s.signature ∧ (s.roundIfPassChanged old).control = s.control ∧
      (s.roundIfPassChanged old).link = s.link ∧ (s.roundIfPassChanged old).time = s.time ∧
      (s.roundIfPassChanged old).pending = s.pending := by
  simp only [State.roundIfPassChanged]
  (repeat' split) <;> simp

/-! ## Modes (chapter 7) -/

@[simp] theorem State.enterMode_frame (s : State) (m : Mode) :
    (s.enterMode m).table = s.table ∧ (s.enterMode m).dispatcher = s.dispatcher ∧ (s.enterMode m).heads = s.heads ∧
      (s.enterMode m).signature = s.signature ∧ (s.enterMode m).heater = s.heater ∧
      (s.enterMode m).arbiter = s.arbiter ∧ (s.enterMode m).link = s.link ∧ (s.enterMode m).time = s.time ∧
      (s.enterMode m).outgoing = s.outgoing ∧ (s.enterMode m).pending = s.pending := by
  simp [State.enterMode]

@[simp] theorem State.completeProgram_frame (s : State) :
    s.completeProgram.table = s.table ∧ s.completeProgram.dispatcher = s.dispatcher ∧
      s.completeProgram.heads = s.heads ∧ s.completeProgram.signature = s.signature ∧
      s.completeProgram.heater = s.heater ∧ s.completeProgram.arbiter = s.arbiter ∧ s.completeProgram.link = s.link ∧
      s.completeProgram.time = s.time ∧ s.completeProgram.outgoing = s.outgoing ∧
      s.completeProgram.pending = s.pending := by
  simp [State.completeProgram]

@[simp] theorem State.programTest_frame (s : State) :
    s.programTest.table = s.table ∧ s.programTest.dispatcher = s.dispatcher ∧ s.programTest.heads = s.heads ∧
      s.programTest.signature = s.signature ∧ s.programTest.heater = s.heater ∧ s.programTest.arbiter = s.arbiter ∧
      s.programTest.link = s.link ∧ s.programTest.time = s.time ∧ s.programTest.outgoing = s.outgoing ∧
      s.programTest.pending = s.pending := by
  simp only [State.programTest]
  (repeat' split) <;> simp

@[simp] theorem State.passGone_frame (s : State) (old : Option Pass) :
    (s.passGone old).table = s.table ∧ (s.passGone old).dispatcher = s.dispatcher ∧
      (s.passGone old).heads = s.heads ∧ (s.passGone old).signature = s.signature ∧
      (s.passGone old).heater = s.heater ∧ (s.passGone old).arbiter = s.arbiter ∧ (s.passGone old).link = s.link ∧
      (s.passGone old).time = s.time ∧ (s.passGone old).outgoing = s.outgoing ∧ (s.passGone old).pending = s.pending := by
  simp only [State.passGone]
  (repeat' split) <;> simp

@[simp] theorem State.drainTest_frame (s : State) :
    s.drainTest.table = s.table ∧ s.drainTest.dispatcher = s.dispatcher ∧ s.drainTest.heads = s.heads ∧
      s.drainTest.signature = s.signature ∧ s.drainTest.heater = s.heater ∧ s.drainTest.arbiter = s.arbiter ∧
      s.drainTest.link = s.link ∧ s.drainTest.time = s.time ∧ s.drainTest.outgoing = s.outgoing ∧
      s.drainTest.pending = s.pending := by
  simp only [State.drainTest]
  (repeat' split) <;> simp

@[simp] theorem State.holdTest_frame (s : State) :
    s.holdTest.table = s.table ∧ s.holdTest.dispatcher = s.dispatcher ∧ s.holdTest.heads = s.heads ∧
      s.holdTest.signature = s.signature ∧ s.holdTest.heater = s.heater ∧ s.holdTest.arbiter = s.arbiter ∧
      s.holdTest.link = s.link ∧ s.holdTest.time = s.time ∧ s.holdTest.outgoing = s.outgoing ∧
      s.holdTest.pending = s.pending := by
  simp only [State.holdTest]
  (repeat' split) <;> simp

@[simp] theorem State.armingTest_frame (s : State) :
    s.armingTest.dispatcher = s.dispatcher ∧ s.armingTest.heads = s.heads ∧ s.armingTest.signature = s.signature ∧
      s.armingTest.arbiter = s.arbiter ∧ s.armingTest.link = s.link ∧ s.armingTest.time = s.time ∧
      s.armingTest.pending = s.pending := by
  simp only [State.armingTest]
  (repeat' split) <;> simp

@[simp] theorem State.settleJoint_frame (s : State) (old : Option Pass) :
    (s.settleJoint old).signature = s.signature ∧ (s.settleJoint old).link = s.link ∧
      (s.settleJoint old).time = s.time ∧ (s.settleJoint old).pending = s.pending := by
  simp [State.settleJoint]

@[simp] theorem State.homeAll_frame (s : State) :
    s.homeAll.table = s.table ∧ s.homeAll.signature = s.signature ∧ s.homeAll.heater = s.heater ∧
      s.homeAll.arbiter = s.arbiter ∧ s.homeAll.control = s.control ∧ s.homeAll.reports = s.reports ∧
      s.homeAll.link = s.link ∧ s.homeAll.time = s.time ∧ s.homeAll.pending = s.pending := by
  have step := List.foldlRecOn (motive := fun t : State =>
      t.table = s.table ∧ t.signature = s.signature ∧ t.heater = s.heater ∧ t.arbiter = s.arbiter ∧
        t.control = s.control ∧ t.reports = s.reports ∧ t.link = s.link ∧ t.time = s.time ∧ t.pending = s.pending)
    (headNos) (fun t h => if (t.head h).state = .offline then t else t.enterHoming h) (b := s) (by simp) (fun t e _ _ => by (repeat' split) <;> simp [e])
  exact step

@[simp] theorem State.executeArm_frame (s : State) :
    s.executeArm.link = s.link ∧ s.executeArm.time = s.time ∧ s.executeArm.pending = s.pending := by
  simp only [State.executeArm]
  (repeat' split) <;> simp

@[simp] theorem State.failArm_frame (s : State) :
    s.failArm.dispatcher = s.dispatcher ∧ s.failArm.heads = s.heads ∧ s.failArm.signature = s.signature ∧
      s.failArm.heater = s.heater ∧ s.failArm.arbiter = s.arbiter ∧ s.failArm.link = s.link ∧
      s.failArm.time = s.time ∧ s.failArm.outgoing = s.outgoing ∧ s.failArm.pending = s.pending := by
  simp [State.failArm]

@[simp] theorem State.beginRunning_frame (s : State) :
    s.beginRunning.signature = s.signature ∧ s.beginRunning.link = s.link ∧ s.beginRunning.time = s.time ∧
      s.beginRunning.pending = s.pending := by
  simp [State.beginRunning]

@[simp] theorem State.executeStart_frame (s : State) :
    s.executeStart.signature = s.signature ∧ s.executeStart.link = s.link ∧ s.executeStart.time = s.time ∧
      s.executeStart.pending = s.pending := by
  simp [State.executeStart]

@[simp] theorem State.executeHold_frame (s : State) :
    s.executeHold.table = s.table ∧ s.executeHold.dispatcher = s.dispatcher ∧ s.executeHold.signature = s.signature ∧
      s.executeHold.heater = s.heater ∧ s.executeHold.link = s.link ∧ s.executeHold.time = s.time ∧
      s.executeHold.outgoing = s.outgoing ∧ s.executeHold.pending = s.pending := by
  simp [State.executeHold]

@[simp] theorem State.backToWork_frame (s : State) :
    s.backToWork.dispatcher = s.dispatcher ∧ s.backToWork.signature = s.signature ∧
      s.backToWork.control = s.control ∧ s.backToWork.link = s.link ∧ s.backToWork.time = s.time ∧
      s.backToWork.pending = s.pending := by
  simp [State.backToWork]

@[simp] theorem State.executeResume_frame (s : State) :
    s.executeResume.signature = s.signature ∧ s.executeResume.link = s.link ∧ s.executeResume.time = s.time ∧
      s.executeResume.pending = s.pending := by
  simp [State.executeResume]

@[simp] theorem State.executeDrain_frame (s : State) :
    s.executeDrain.dispatcher = s.dispatcher ∧ s.executeDrain.signature = s.signature ∧
      s.executeDrain.link = s.link ∧ s.executeDrain.time = s.time ∧ s.executeDrain.pending = s.pending := by
  simp only [State.executeDrain]
  (repeat' split) <;> simp

@[simp] theorem State.executeDisarm_frame (s : State) :
    s.executeDisarm.dispatcher = s.dispatcher ∧ s.executeDisarm.signature = s.signature ∧
      s.executeDisarm.arbiter = s.arbiter ∧ s.executeDisarm.link = s.link ∧ s.executeDisarm.time = s.time ∧
      s.executeDisarm.pending = s.pending := by
  simp [State.executeDisarm]

@[simp] theorem State.lockJoints_frame (s : State) :
    s.lockJoints.dispatcher = s.dispatcher ∧ s.lockJoints.heads = s.heads ∧ s.lockJoints.signature = s.signature ∧
      s.lockJoints.heater = s.heater ∧ s.lockJoints.arbiter = s.arbiter ∧ s.lockJoints.control = s.control ∧
      s.lockJoints.reports = s.reports ∧ s.lockJoints.link = s.link ∧ s.lockJoints.time = s.time ∧
      s.lockJoints.outgoing = s.outgoing ∧ s.lockJoints.pending = s.pending := by
  simp [State.lockJoints]

@[simp] theorem State.abortChannels_frame (s : State) :
    s.abortChannels.table = s.table ∧ s.abortChannels.dispatcher = s.dispatcher ∧ s.abortChannels.heads = s.heads ∧
      s.abortChannels.heater = s.heater ∧ s.abortChannels.arbiter = s.arbiter ∧ s.abortChannels.control = s.control ∧
      s.abortChannels.reports = s.reports ∧ s.abortChannels.link = s.link ∧ s.abortChannels.time = s.time ∧
      s.abortChannels.outgoing = s.outgoing ∧ s.abortChannels.pending = s.pending := by
  have step := List.foldlRecOn (motive := fun t : State =>
      t.table = s.table ∧ t.dispatcher = s.dispatcher ∧ t.heads = s.heads ∧ t.heater = s.heater ∧
        t.arbiter = s.arbiter ∧ t.control = s.control ∧ t.reports = s.reports ∧ t.link = s.link ∧ t.time = s.time ∧
        t.outgoing = s.outgoing ∧ t.pending = s.pending)
    (channelNos) (fun t c => t.modChannel c (Channel.aborted c)) (b := s) (by simp) (fun t e _ _ => by simp [e])
  simp [State.abortChannels, step]

@[simp] theorem State.executeAbort_frame (s : State) :
    s.executeAbort.dispatcher = s.dispatcher ∧ s.executeAbort.link = s.link ∧ s.executeAbort.time = s.time ∧
      s.executeAbort.pending = s.pending := by
  simp [State.executeAbort]

@[simp] theorem State.executeRecover_frame (s : State) :
    s.executeRecover.dispatcher = s.dispatcher ∧ s.executeRecover.signature = s.signature ∧
      s.executeRecover.arbiter = s.arbiter ∧ s.executeRecover.link = s.link ∧ s.executeRecover.time = s.time ∧
      s.executeRecover.pending = s.pending := by
  simp [State.executeRecover]

@[simp] theorem State.perform_frame (s : State) (d : Directive) :
    (s.perform d).link = s.link ∧ (s.perform d).time = s.time ∧ (s.perform d).pending = s.pending := by
  cases d <;> simp [State.perform]

@[simp] theorem State.execute_frame (s : State) (d : Directive) :
    (s.execute d).link = s.link ∧ (s.execute d).time = s.time ∧ (s.execute d).pending = s.pending := by
  simp [State.execute]

@[simp] theorem State.takeDirective_frame (s : State) (d : Directive) :
    (s.takeDirective d).link = s.link ∧ (s.takeDirective d).time = s.time ∧ (s.takeDirective d).pending = s.pending := by
  simp only [State.takeDirective]
  (repeat' split) <;> simp

@[simp] theorem State.takeTurns_frame (n : Nat) (s : State) :
    (s.takeTurns n).link = s.link ∧ (s.takeTurns n).time = s.time ∧ (s.takeTurns n).pending = s.pending := by
  induction n generalizing s with
  | zero => simp [State.takeTurns]
  | succ n ih => simp only [State.takeTurns]; (repeat' split) <;> simp [ih]

@[simp] theorem State.controllerTurn_frame (s : State) :
    s.controllerTurn.link = s.link ∧ s.controllerTurn.time = s.time ∧ s.controllerTurn.pending = s.pending := by
  simp only [State.controllerTurn]
  (repeat' split) <;> simp

@[simp] theorem State.arrive_frame (s : State) (d : Directive) :
    (s.arrive d).link = s.link ∧ (s.arrive d).time = s.time ∧ (s.arrive d).pending = s.pending := by
  simp only [State.arrive]
  (repeat' split) <;> simp

/-! ## Events at the heads -/

@[simp] theorem State.bringBack_frame (s : State) (h : HeadNo) :
    (s.bringBack h).signature = s.signature ∧ (s.bringBack h).control = s.control ∧ (s.bringBack h).link = s.link ∧
      (s.bringBack h).time = s.time ∧ (s.bringBack h).pending = s.pending := by
  simp only [State.bringBack]
  (repeat' split) <;> simp

@[simp] theorem State.homeDone_frame (s : State) (h : HeadNo) :
    (s.homeDone h).signature = s.signature ∧ (s.homeDone h).link = s.link ∧ (s.homeDone h).time = s.time ∧
      (s.homeDone h).pending = s.pending := by
  simp only [State.homeDone]
  (repeat' split) <;> simp

@[simp] theorem State.arriveAt_frame (s : State) (h : HeadNo) (t : Nat) :
    (s.arriveAt h t).signature = s.signature ∧ (s.arriveAt h t).control = s.control ∧
      (s.arriveAt h t).link = s.link ∧ (s.arriveAt h t).time = s.time ∧ (s.arriveAt h t).pending = s.pending := by
  simp [State.arriveAt]

@[simp] theorem State.travelDone_frame (s : State) (h : HeadNo) :
    (s.travelDone h).signature = s.signature ∧ (s.travelDone h).control = s.control ∧
      (s.travelDone h).link = s.link ∧ (s.travelDone h).time = s.time ∧ (s.travelDone h).pending = s.pending := by
  simp only [State.travelDone]
  (repeat' split) <;> simp

@[simp] theorem State.clampDone_frame (s : State) (h : HeadNo) :
    (s.clampDone h).dispatcher = s.dispatcher ∧ (s.clampDone h).heater = s.heater ∧
      (s.clampDone h).arbiter = s.arbiter ∧ (s.clampDone h).control = s.control ∧ (s.clampDone h).link = s.link ∧
      (s.clampDone h).time = s.time ∧ (s.clampDone h).pending = s.pending := by
  simp only [State.clampDone]
  (repeat' split) <;> simp

@[simp] theorem State.retracted_frame (s : State) (h : HeadNo) :
    (s.retracted h).dispatcher = s.dispatcher ∧ (s.retracted h).signature = s.signature ∧
      (s.retracted h).link = s.link ∧ (s.retracted h).time = s.time ∧ (s.retracted h).pending = s.pending := by
  simp only [State.retracted]
  (repeat' split) <;> simp

@[simp] theorem State.releaseDone_frame (s : State) (h : HeadNo) :
    (s.releaseDone h).signature = s.signature ∧ (s.releaseDone h).link = s.link ∧ (s.releaseDone h).time = s.time ∧
      (s.releaseDone h).pending = s.pending := by
  simp only [State.releaseDone]
  (repeat' split) <;> simp

@[simp] theorem State.faultEvent_frame (s : State) (h : HeadNo) (cause : FaultCause) :
    (s.faultEvent h cause).link = s.link ∧ (s.faultEvent h cause).time = s.time ∧
      (s.faultEvent h cause).pending = s.pending := by
  simp only [State.faultEvent]
  (repeat' split) <;> simp

@[simp] theorem State.driveFault_frame (s : State) (h : HeadNo) (code : Byte) :
    (s.driveFault h code).link = s.link ∧ (s.driveFault h code).time = s.time ∧
      (s.driveFault h code).pending = s.pending := by
  simp only [State.driveFault]
  (repeat' split) <;> simp

@[simp] theorem State.phaseTimeout_frame (s : State) (h : HeadNo) :
    (s.phaseTimeout h).link = s.link ∧ (s.phaseTimeout h).time = s.time ∧ (s.phaseTimeout h).pending = s.pending := by
  simp only [State.phaseTimeout]
  (repeat' split) <;> simp


/-! ## The marks and the pending set, which no mode change touches (chapter 7) -/

@[simp] theorem State.enterMode_marks (s : State) (m : Mode) :
    (s.enterMode m).control.pendingSet = s.control.pendingSet ∧ (s.enterMode m).control.restartMark = s.control.restartMark ∧
      (s.enterMode m).control.stationMark = s.control.stationMark := by
  simp [State.enterMode]

@[simp] theorem State.completeProgram_marks (s : State) :
    s.completeProgram.control.pendingSet = s.control.pendingSet ∧ s.completeProgram.control.restartMark = s.control.restartMark ∧
      s.completeProgram.control.stationMark = s.control.stationMark := by
  simp [State.completeProgram]

@[simp] theorem State.programTest_marks (s : State) :
    s.programTest.control.pendingSet = s.control.pendingSet ∧ s.programTest.control.restartMark = s.control.restartMark ∧
      s.programTest.control.stationMark = s.control.stationMark := by
  simp only [State.programTest]
  (repeat' split) <;> simp

@[simp] theorem State.passGone_marks (s : State) (old : Option Pass) :
    (s.passGone old).control.pendingSet = s.control.pendingSet ∧ (s.passGone old).control.restartMark = s.control.restartMark ∧
      (s.passGone old).control.stationMark = s.control.stationMark := by
  simp only [State.passGone]
  (repeat' split) <;> simp

@[simp] theorem State.drainTest_marks (s : State) :
    s.drainTest.control.pendingSet = s.control.pendingSet ∧ s.drainTest.control.restartMark = s.control.restartMark ∧
      s.drainTest.control.stationMark = s.control.stationMark := by
  simp only [State.drainTest]
  (repeat' split) <;> simp

@[simp] theorem State.holdTest_marks (s : State) :
    s.holdTest.control.pendingSet = s.control.pendingSet ∧ s.holdTest.control.restartMark = s.control.restartMark ∧
      s.holdTest.control.stationMark = s.control.stationMark := by
  simp only [State.holdTest]
  (repeat' split) <;> simp

@[simp] theorem State.armingTest_marks (s : State) :
    s.armingTest.control.pendingSet = s.control.pendingSet ∧ s.armingTest.control.restartMark = s.control.restartMark ∧
      s.armingTest.control.stationMark = s.control.stationMark := by
  simp only [State.armingTest]
  (repeat' split) <;> simp

@[simp] theorem State.settleJoint_marks (s : State) (old : Option Pass) :
    (s.settleJoint old).control.pendingSet = s.control.pendingSet ∧ (s.settleJoint old).control.restartMark = s.control.restartMark ∧
      (s.settleJoint old).control.stationMark = s.control.stationMark := by
  simp [State.settleJoint]

@[simp] theorem State.failArm_marks (s : State) :
    s.failArm.control.pendingSet = s.control.pendingSet ∧ s.failArm.control.restartMark = s.control.restartMark ∧
      s.failArm.control.stationMark = s.control.stationMark := by
  simp [State.failArm]

@[simp] theorem State.executeArm_marks (s : State) :
    s.executeArm.control.pendingSet = s.control.pendingSet ∧ s.executeArm.control.restartMark = s.control.restartMark ∧
      s.executeArm.control.stationMark = s.control.stationMark := by
  simp only [State.executeArm]
  (repeat' split) <;> simp

@[simp] theorem State.beginRunning_marks (s : State) :
    s.beginRunning.control.pendingSet = s.control.pendingSet ∧ s.beginRunning.control.restartMark = s.control.restartMark ∧
      s.beginRunning.control.stationMark = s.control.stationMark := by
  simp [State.beginRunning]

@[simp] theorem State.executeStart_marks (s : State) :
    s.executeStart.control.pendingSet = s.control.pendingSet ∧ s.executeStart.control.restartMark = s.control.restartMark ∧
      s.executeStart.control.stationMark = s.control.stationMark := by
  simp [State.executeStart]

@[simp] theorem State.executeHold_marks (s : State) :
    s.executeHold.control.pendingSet = s.control.pendingSet ∧ s.executeHold.control.restartMark = s.control.restartMark ∧
      s.executeHold.control.stationMark = s.control.stationMark := by
  simp [State.executeHold]

@[simp] theorem State.executeResume_marks (s : State) :
    s.executeResume.control.pendingSet = s.control.pendingSet ∧ s.executeResume.control.restartMark = s.control.restartMark ∧
      s.executeResume.control.stationMark = s.control.stationMark := by
  simp [State.executeResume]

@[simp] theorem State.executeDrain_marks (s : State) :
    s.executeDrain.control.pendingSet = s.control.pendingSet ∧ s.executeDrain.control.restartMark = s.control.restartMark ∧
      s.executeDrain.control.stationMark = s.control.stationMark := by
  simp only [State.executeDrain]
  (repeat' split) <;> simp

@[simp] theorem State.executeDisarm_marks (s : State) :
    s.executeDisarm.control.pendingSet = s.control.pendingSet ∧ s.executeDisarm.control.restartMark = s.control.restartMark ∧
      s.executeDisarm.control.stationMark = s.control.stationMark := by
  simp [State.executeDisarm]

@[simp] theorem State.executeAbort_marks (s : State) :
    s.executeAbort.control.pendingSet = s.control.pendingSet ∧ s.executeAbort.control.restartMark = s.control.restartMark ∧
      s.executeAbort.control.stationMark = s.control.stationMark := by
  simp [State.executeAbort]

@[simp] theorem State.executeRecover_marks (s : State) :
    s.executeRecover.control.pendingSet = s.control.pendingSet ∧ s.executeRecover.control.restartMark = s.control.restartMark ∧
      s.executeRecover.control.stationMark = s.control.stationMark := by
  simp [State.executeRecover]

@[simp] theorem State.perform_marks (s : State) (d : Directive) :
    (s.perform d).control.pendingSet = s.control.pendingSet ∧ (s.perform d).control.restartMark = s.control.restartMark ∧
      (s.perform d).control.stationMark = s.control.stationMark := by
  cases d <;> simp [State.perform]

@[simp] theorem State.homeDone_marks (s : State) (h : HeadNo) :
    (s.homeDone h).control.pendingSet = s.control.pendingSet ∧ (s.homeDone h).control.restartMark = s.control.restartMark ∧
      (s.homeDone h).control.stationMark = s.control.stationMark := by
  simp only [State.homeDone]
  (repeat' split) <;> simp

@[simp] theorem State.retracted_marks (s : State) (h : HeadNo) :
    (s.retracted h).control.pendingSet = s.control.pendingSet ∧ (s.retracted h).control.restartMark = s.control.restartMark ∧
      (s.retracted h).control.stationMark = s.control.stationMark := by
  simp only [State.retracted]
  (repeat' split) <;> simp

@[simp] theorem State.releaseDone_marks (s : State) (h : HeadNo) :
    (s.releaseDone h).control.pendingSet = s.control.pendingSet ∧ (s.releaseDone h).control.restartMark = s.control.restartMark ∧
      (s.releaseDone h).control.stationMark = s.control.stationMark := by
  simp only [State.releaseDone]
  (repeat' split) <;> simp

@[simp] theorem State.faultEvent_marks (s : State) (h : HeadNo) (cause : FaultCause) :
    (s.faultEvent h cause).control.pendingSet = s.control.pendingSet ∧ (s.faultEvent h cause).control.restartMark = s.control.restartMark ∧
      (s.faultEvent h cause).control.stationMark = s.control.stationMark := by
  simp only [State.faultEvent]
  (repeat' split) <;> simp

@[simp] theorem State.driveFault_marks (s : State) (h : HeadNo) (code : Byte) :
    (s.driveFault h code).control.pendingSet = s.control.pendingSet ∧ (s.driveFault h code).control.restartMark = s.control.restartMark ∧
      (s.driveFault h code).control.stationMark = s.control.stationMark := by
  simp only [State.driveFault]
  (repeat' split) <;> simp

@[simp] theorem State.phaseTimeout_marks (s : State) (h : HeadNo) :
    (s.phaseTimeout h).control.pendingSet = s.control.pendingSet ∧ (s.phaseTimeout h).control.restartMark = s.control.restartMark ∧
      (s.phaseTimeout h).control.stationMark = s.control.stationMark := by
  simp only [State.phaseTimeout]
  (repeat' split) <;> simp

end Sys2Proof.Machine
end

