-- ==== Sys2Proof/Laws/Events.lean ====
section
/-! SUPPORT. Laws/Events.lean: what ends an event: the controller's turn, the executor's and the transmitter's, and
what a request, a directive or an event of a port comes to in a settled state. -/

namespace Sys2Proof.Machine

/-! ## The pieces of a settled state -/

@[simp] theorem State.cleared_Settled (s : State) : s.cleared.Settled ↔ s.Settled := Iff.rfl

@[simp] theorem State.cleared_LinkSettled (s : State) : s.cleared.LinkSettled ↔ s.LinkSettled := Iff.rfl

@[simp] theorem State.cleared_Quiet (s : State) : s.cleared.Quiet ↔ s.Quiet := Iff.rfl

@[simp] theorem State.cleared_Ready (s : State) : s.cleared.Ready ↔ s.Ready := Iff.rfl

@[simp] theorem State.cleared_Listens (s : State) : s.cleared.Listens ↔ s.Listens := Iff.rfl

/-! ## The controller's turn (R145) -/

theorem State.nextDirective_none {s : State} (h : s.control.pendingSet = []) : s.nextDirective = none := by
  simp [State.nextDirective, h]

/-- The highest directive of a set that is not empty is one of its members. -/
theorem State.nextDirective_mem {s : State} {d : Directive} (h : s.nextDirective = some d) :
    d ∈ s.control.pendingSet := by
  have := List.find?_some h
  simpa using this

theorem State.takeTurns_rests {s : State} (h : s.mode.busy = true ∨ s.control.pendingSet = []) (n : Nat) :
    s.takeTurns n = s := by
  cases n with
  | zero => rfl
  | succ n =>
    rcases h with h | h
    · simp [State.takeTurns, h]
    · simp [State.takeTurns, State.nextDirective_none h]

/-- With nothing to take, the controller's turn changes nothing. -/
theorem State.controllerTurn_rests {s : State} (h : s.ControllerRests) : s.controllerTurn = s := by
  unfold State.controllerTurn
  split
  · rfl
  · rename_i hm
    rcases h with h | h | h
    · exact State.takeTurns_rests (.inl h) _
    · exact absurd h hm
    · exact State.takeTurns_rests (.inr h) _

theorem State.controllerTurn_empty {s : State} (h : s.control.pendingSet = []) : s.controllerTurn = s :=
  State.controllerTurn_rests (.inr (.inr h))

/-! ## The executor's turn (R180) -/

/-- The executor takes nothing from an empty queue, into a full slot, or under the restart mark. -/
theorem State.executorTurn_idle {s : State}
    (h : s.link.requests = [] ∨ s.link.slot ≠ none ∨ s.control.restartMark = true) : s.executorTurn = s := by
  unfold State.executorTurn
  split <;> simp_all

/-- The executor takes the front request of the queue. -/
theorem State.executorTurn_takes {s : State} {f : Frame} {rest : List Frame} (h : s.link.requests = f :: rest)
    (hs : s.link.slot = none) (hm : s.control.restartMark = false) :
    s.executorTurn = ({ s with link := { s.link with requests := rest } } : State).executeRequest f := by
  simp [State.executorTurn, h, hs, hm]

/-! ## The transmitter's turn (R181) -/

@[simp] theorem State.startReport_frame (s : State) (k : EventKind) :
    (s.startReport k).table = s.table ∧ (s.startReport k).dispatcher = s.dispatcher ∧
      (s.startReport k).heads = s.heads ∧ (s.startReport k).signature = s.signature ∧
      (s.startReport k).heater = s.heater ∧ (s.startReport k).arbiter = s.arbiter ∧
      (s.startReport k).control = s.control ∧ (s.startReport k).time = s.time ∧
      (s.startReport k).outgoing = s.outgoing ∧ (s.startReport k).pending = s.pending ∧
      (s.startReport k).link = { s.link with sending := some (s.reportFrame k) } := by
  simp [State.startReport, State.startFrame]

/-- A busy transmitter chooses nothing. -/
theorem State.transmitTurn_busy {s : State} (h : s.link.sending ≠ none) : s.transmitTurn = s := by
  simp [State.transmitTurn, h]

/-- The transmitter takes the front of the immediate reply FIFO first. -/
theorem State.transmitTurn_fifo {s : State} {r : Reply} {rest : List Reply} (h : s.link.sending = none)
    (hf : s.link.fifo = r :: rest) :
    s.transmitTurn = { s with link := { s.link with fifo := rest, sending := some r.frame } } := by
  simp [State.transmitTurn, h, State.chooseFrame, hf, State.startFrame]

/-- Then the reply slot. -/
theorem State.transmitTurn_slot {s : State} {r : Reply} (h : s.link.sending = none) (hf : s.link.fifo = [])
    (hs : s.link.slot = some r) :
    s.transmitTurn = { s with link := { s.link with slot := none, sending := some r.frame } } := by
  simp [State.transmitTurn, h, State.chooseFrame, hf, hs, State.startFrame]

/-- Then the report first in rank order. -/
theorem State.transmitTurn_report {s : State} {k : EventKind} (h : s.link.sending = none) (hf : s.link.fifo = [])
    (hs : s.link.slot = none) (hk : s.nextReport = some k) : s.transmitTurn = s.startReport k := by
  rw [State.transmitTurn, if_pos h, State.chooseFrame, hf, hs]
  simp only [hk]

/-- And with nothing to send it stays idle. -/
theorem State.transmitTurn_none {s : State} (hf : s.link.fifo = []) (hs : s.link.slot = none)
    (hk : s.nextReport = none) : s.transmitTurn = s := by
  unfold State.transmitTurn
  split
  · rw [State.chooseFrame, hf, hs]
    simp only [hk]
  · rfl

theorem pickFirst_none {α : Type} {before : α → α → Bool} {l : List α} (h : pickFirst before l = none) : l = [] := by
  cases l with
  | nil => rfl
  | cons a l =>
    simp only [pickFirst] at h
    split at h
    · cases h
    · split at h <;> cases h

/-- A ranking's choice is a member of the list. -/
theorem pickFirst_mem {α : Type} {before : α → α → Bool} {l : List α} {a : α} (h : pickFirst before l = some a) :
    a ∈ l := by
  induction l generalizing a with
  | nil => cases h
  | cons b l ih =>
    simp only [pickFirst] at h
    split at h
    · cases h; simp
    · rename_i c hc
      split at h
      · cases h; simp [ih hc]
      · cases h; simp

theorem State.nextReport_none {s : State} (h : s.reports.queue = []) : s.nextReport = none := by
  simp [State.nextReport, h, pickFirst]

/-- What the transmitter's turn leaves as it was: everything but the latches, the report queue and the link's FIFO,
slot and frame being sent. -/
@[simp] theorem State.transmitTurn_frame (s : State) :
    s.transmitTurn.table = s.table ∧ s.transmitTurn.dispatcher = s.dispatcher ∧ s.transmitTurn.heads = s.heads ∧
      s.transmitTurn.signature = s.signature ∧ s.transmitTurn.heater = s.heater ∧
      s.transmitTurn.arbiter = s.arbiter ∧ s.transmitTurn.control = s.control ∧ s.transmitTurn.time = s.time ∧
      s.transmitTurn.outgoing = s.outgoing ∧ s.transmitTurn.pending = s.pending ∧
      s.transmitTurn.link.settings = s.link.settings ∧ s.transmitTurn.link.lineRate = s.link.lineRate ∧
      s.transmitTurn.link.assembler = s.link.assembler ∧ s.transmitTurn.link.requests = s.link.requests ∧
      s.transmitTurn.link.frameErrors = s.link.frameErrors ∧ s.transmitTurn.link.overruns = s.link.overruns := by
  unfold State.transmitTurn State.chooseFrame
  (repeat' split) <;> simp [State.startFrame]

/-! ## The end of an event -/

/-- A settled state stays as it is. -/
theorem State.settle_settled {s : State} (h : s.Settled) : s.settle = s := by
  obtain ⟨hc, hl⟩ := h
  have ht : s.transmitTurn = s := by
    by_cases hs : s.link.sending = none
    · obtain ⟨hf, hsl, hq⟩ := hl.1 hs
      exact State.transmitTurn_none hf hsl (State.nextReport_none hq)
    · exact State.transmitTurn_busy hs
  have he := State.executorTurn_idle hl.2
  rw [State.settle, State.controllerTurn_rests hc, State.settleLink, he, ht, he]

/-- After an event that left the link and the restart mark alone, with nothing for the controller to take, only the
transmitter may have something to do. -/
theorem State.settle_quiet {s u : State} (h : s.LinkSettled) (hl : u.link = s.link)
    (hm : u.control.restartMark = s.control.restartMark) (hc : u.ControllerRests) :
    u.settle = u.transmitTurn := by
  have he : u.executorTurn = u := State.executorTurn_idle (by simpa [hl, hm] using h.2)
  rw [State.settle, State.controllerTurn_rests hc, State.settleLink, he]
  refine State.executorTurn_idle ?_
  by_cases hs : s.link.sending = none
  · obtain ⟨hf, hsl, -⟩ := h.1 hs
    have := h.2
    simp only [State.transmitTurn_frame, hl, hm]
    rcases this with h1 | h1 | h1
    · exact .inl h1
    · exact absurd hsl h1
    · exact .inr (.inr h1)
  · rw [State.transmitTurn_busy (by rw [hl]; exact hs)]
    simpa [hl, hm] using h.2

/-- An event whose own effect left the link and the control alone, in a quiet state. -/
theorem State.command_quiet {s : State} (h : s.Quiet) {f : State → State} (hl : (f s.cleared).link = s.link)
    (hm : (f s.cleared).control.restartMark = s.control.restartMark)
    (hc : (f s.cleared).control.pendingSet = []) :
    s.command f = (f s.cleared).transmitTurn :=
  State.settle_quiet (s := s) h.1 hl hm (.inr (.inr hc))

/-! ## Requests (R177, R180) -/

/-- The KIND code of a request names that request, and no directive. -/
@[simp] theorem requestOf_code (k : RequestKind) : requestOf k.code = some k := by cases k <;> decide

@[simp] theorem directiveOf_code (k : RequestKind) : directiveOf k.code = none := by cases k <;> decide

theorem RequestKind.code_ne_flush (k : RequestKind) : k.code ≠ flushKind := by cases k <;> decide

/-- The KIND code of a directive names that directive. -/
@[simp] theorem directiveOf_kindCode (d : Directive) : directiveOf (BitVec.ofNat 8 d.kindCode) = some d := by
  cases d <;> decide

theorem checked_link {modeOk : Bool} {n : Nat} {s : State} {p : List Byte} {rest : Answer} {l : Link}
    (h : rest.state.link = l) (hs : s.link = l) : (checked modeOk n s p rest).state.link = l := by
  unfold checked
  (repeat' split) <;> simp_all [refuse]

/-- Executing a request leaves the link as it is, but for the station settings. -/
theorem State.answer_link (s : State) (p : List Byte) (k : RequestKind) :
    (s.answer p k).state.link = { s.link with settings := (s.answer p k).state.link.settings } := by
  cases k <;>
    simp only [State.answer, State.jointLoad, State.jointClear, State.jointRead, State.jointFind, State.jointSkip,
      State.jointRework, State.datumSet, State.datumRead, State.stationSet, State.stationRead, State.permissiveSet,
      State.statusRead, State.restart, State.headRead, State.headEnable, State.headDisable, State.headReset,
      State.bringBackFrom, State.peckSet, State.filterSet, State.filterRead, State.channelRead, State.rivetTableSet,
      State.takeEntries, State.rivetClassSet, State.defineClass, State.magazineSet, State.heaterRead,
      State.eventConfig, State.eventAck, State.eventRead, checked, withHead, refuse, refuseAt, done] <;>
    (repeat' split) <;> simp [State.setJoints, State.takeSettings]

/-- A request that reaches a ready link is executed at once, and its reply is the transmitter's next choice. -/
theorem State.hostRequest_ready {s : State} (h : s.Ready) (k : RequestKind) (tag : Byte) (p : List Byte) :
    s.hostRequest k tag p =
      ((s.cleared.answer p k).fillSlot ⟨k.code, tag, p⟩).controllerTurn.transmitTurn.executorTurn := by
  obtain ⟨⟨hc, -⟩, hr, hs, hm⟩ := h
  have hq : s.cleared.sortFrame ⟨k.code, tag, p⟩ = s.cleared.queueRequest ⟨k.code, tag, p⟩ := by
    simp [State.sortFrame, RequestKind.code_ne_flush, State.sortRequest, hr, Config.maxRequests]
  have hc' : (s.cleared.queueRequest ⟨k.code, tag, p⟩).ControllerRests := hc
  have he : ({ s.cleared.queueRequest ⟨k.code, tag, p⟩ with
      link := { (s.cleared.queueRequest ⟨k.code, tag, p⟩).link with requests := [] } } : State) = s.cleared := by
    have : s.link = { s.link with requests := [] } := by rw [← hr]
    simp only [State.queueRequest, State.cleared]
    rw [← this]
  have hreq : (s.cleared.queueRequest ⟨k.code, tag, p⟩).link.requests = [⟨k.code, tag, p⟩] := by
    simp [State.queueRequest, hr]
  show ((s.cleared.sortFrame ⟨k.code, tag, p⟩).controllerTurn.settleLink) = _
  rw [hq, State.controllerTurn_rests hc', State.settleLink,
    State.executorTurn_takes hreq (by simpa [State.queueRequest] using hs) hm, he]
  simp [State.executeRequest]

/-- The reply to an executed request is delivered where the controller has nothing to take. -/
theorem State.hostRequest_reply {s : State} (h : s.Ready) (k : RequestKind) (tag : Byte) (p : List Byte)
    (hc : (s.cleared.answer p k).state.ControllerRests) :
    s.hostRequest k tag p = (s.cleared.answer p k).state.withReply
      ⟨k.code, tag, (s.cleared.answer p k).status, (s.cleared.answer p k).content⟩ := by
  rw [State.hostRequest_ready h]
  obtain ⟨⟨-, hl, -⟩, hr, hs, hm⟩ := h
  have hlink := State.answer_link s.cleared p k
  generalize ha : s.cleared.answer p k = a at hc hlink
  have hc' : (a.fillSlot ⟨k.code, tag, p⟩).ControllerRests := hc
  rw [State.controllerTurn_rests hc']
  have hreq : a.state.link.requests = [] := by rw [hlink]; exact hr
  by_cases hsend : s.link.sending = none
  · obtain ⟨hf, -, -⟩ := hl hsend
    have hsend' : a.state.link.sending = none := by rw [hlink]; exact hsend
    rw [State.transmitTurn_slot (s := a.fillSlot ⟨k.code, tag, p⟩) (r := ⟨k.code, tag, a.status, a.content⟩)
      hsend' (by show a.state.link.fifo = []; rw [hlink]; exact hf) rfl]
    refine (State.executorTurn_idle (.inl ?_)).trans ?_
    · exact hreq
    have hslot : a.state.link.slot = none := by rw [hlink]; exact hs
    simp only [State.withReply, hsend', if_pos, Answer.fillSlot]
    rw [← hslot]
  · have hsend' : a.state.link.sending ≠ none := by rw [hlink]; exact hsend
    rw [State.transmitTurn_busy (s := a.fillSlot ⟨k.code, tag, p⟩) hsend']
    refine (State.executorTurn_idle (.inl ?_)).trans ?_
    · exact hreq
    simp only [State.withReply, if_neg hsend', Answer.fillSlot]

/-! ## Directives (R177, R142) -/

/-- The command that stands for a request is that request's frame at the sorter. -/
theorem exec_request (k : RequestKind) (tag : Byte) (p : List Byte) (s : State) :
    exec (k.command tag p) s = .next (s.hostRequest k tag p) := by cases k <;> rfl

/-- The command that stands for a directive is that directive's frame at the sorter. -/
theorem exec_directive (d : Directive) (tag : Byte) (s : State) :
    exec (d.command tag) s = .next (s.hostDirective d tag) := by cases d <;> rfl

theorem State.replyNow_ControllerRests {s : State} {f : Frame} {st : Status} {c : List Byte} :
    (s.replyNow f st c).ControllerRests ↔ s.ControllerRests := Iff.rfl

/-- The end of an event that placed one reply in the immediate reply FIFO of a quiet link. -/
theorem State.settle_replied {s u : State} {r : Reply} (h : s.LinkSettled)
    (hl : u.link = { s.link with fifo := s.link.fifo ++ [r] })
    (hm : u.control.restartMark = s.control.restartMark) (hc : u.ControllerRests) :
    u.settle = u.transmitTurn := by
  have he : u.executorTurn = u := State.executorTurn_idle (by simpa [hl, hm] using h.2)
  rw [State.settle, State.controllerTurn_rests hc, State.settleLink, he]
  refine State.executorTurn_idle ?_
  by_cases hs : s.link.sending = none
  · obtain ⟨hf, hsl, -⟩ := h.1 hs
    simp only [State.transmitTurn_frame, hl, hm]
    rcases h.2 with h1 | h1 | h1
    · exact .inl h1
    · exact absurd hsl h1
    · exact .inr (.inr h1)
  · rw [State.transmitTurn_busy (by rw [hl]; exact hs)]
    simpa [hl, hm] using h.2

/-- The transmitter's turn after such an event: the reply goes out at once where the transmitter was idle. -/
theorem State.transmitTurn_replied {s u : State} {r : Reply} (h : s.LinkSettled)
    (hl : u.link = { s.link with fifo := s.link.fifo ++ [r] }) :
    u.transmitTurn = if s.link.sending = none then
      { u with link := { s.link with sending := some r.frame } } else u := by
  split
  · rename_i hs
    obtain ⟨hf, -, -⟩ := h.1 hs
    rw [State.transmitTurn_fifo (r := r) (rest := []) (by rw [hl]; exact hs) (by rw [hl, hf]; rfl), hl]
    simp only
    rw [hf]
  · rename_i hs
    exact State.transmitTurn_busy (by rw [hl]; exact hs)

/-- The only member of the pending set leaves it again. -/
theorem State.removePending_joinPending {s : State} (d : Directive) (h : s.control.pendingSet = []) :
    (s.joinPending d).removePending [d] = s := by
  cases s with
  | mk table dispatcher heads signature heater arbiter control reports link time outgoing pending =>
    cases control
    simp only at h
    subst h
    cases d <;> rfl

/-- A directive that reaches a quiet controller is taken at once, its reply being ACCEPTED. -/
theorem State.hostDirective_listens {s : State} (h : s.Listens) (d : Directive) (tag : Byte) :
    s.hostDirective d tag =
      (if d.legal s.mode then
        (s.cleared.replyNow ⟨BitVec.ofNat 8 d.kindCode, tag, []⟩ .accepted []).perform d
      else
        (s.cleared.replyNow ⟨BitVec.ofNat 8 d.kindCode, tag, []⟩ .accepted []).post .modeCommandRefused
          d.kindCode).transmitTurn := by
  obtain ⟨⟨hl, hp⟩, hm, hb, hfifo⟩ := h
  have hnb : d.interrupts s.mode = false := by
    cases d <;> revert hb <;> cases s.mode <;> decide
  have hroom : s.cleared.replyRoom = true := decide_eq_true hfifo
  have hset : Directive.all.filter (fun x => x == d || x ∈ s.control.pendingSet) = [d] := by
    rw [hp]; cases d <;> decide
  generalize hf : (⟨BitVec.ofNat 8 d.kindCode, tag, []⟩ : Frame) = f
  have hsort : s.cleared.sortFrame f = (s.cleared.joinPending d).replyNow f .accepted [] := by
    subst hf
    simp [State.sortFrame, State.sortDirective, hroom, State.arrive, State.arrivalStatus, hp, hnb]
  have hjoin : ((s.cleared.joinPending d).replyNow f .accepted []).removePending [d]
      = s.cleared.replyNow f .accepted [] := by
    show ((s.cleared.joinPending d).removePending [d]).replyNow f .accepted [] = _
    rw [State.removePending_joinPending d (by exact hp)]
  generalize hv : (if d.legal s.mode then (s.cleared.replyNow f .accepted []).perform d
    else (s.cleared.replyNow f .accepted []).post .modeCommandRefused d.kindCode) = v
  have hvp : v.control.pendingSet = [] ∧ v.control.restartMark = s.control.restartMark ∧
      v.link = { s.link with fifo := s.link.fifo ++ [⟨f.kind, f.tag, .accepted, []⟩] } := by
    rw [← hv]
    split <;> simp [State.replyNow, hp]
  have htake : ((s.cleared.joinPending d).replyNow f .accepted []).controllerTurn = v := by
    have hmem : ((s.cleared.joinPending d).replyNow f .accepted []).nextDirective = some d := by
      have : ((s.cleared.joinPending d).replyNow f .accepted []).control.pendingSet = [d] := hset
      rw [State.nextDirective, this]
      cases d <;> decide
    have hb' : ((s.cleared.joinPending d).replyNow f .accepted []).mode.busy = false := hb
    have hm' : ((s.cleared.joinPending d).replyNow f .accepted []).control.restartMark = false := hm
    have hempty : (s.cleared.replyNow f .accepted []).removePending d.removes = s.cleared.replyNow f .accepted [] := by
      simp only [State.removePending, State.replyNow, State.cleared, hp, List.filter_nil]
      congr 1
      rw [← hp]
    rw [State.controllerTurn, if_neg (by rw [hm']; decide)]
    show State.takeTurns (7 + 1) _ = v
    rw [State.takeTurns, if_neg (by rw [hb']; decide), hmem]
    show State.takeTurns 7 (State.takeDirective _ d) = v
    have : ((s.cleared.joinPending d).replyNow f .accepted []).takeDirective d = v := by
      rw [State.takeDirective, hjoin, State.execute, hempty]
      exact hv
    rw [this]
    exact State.takeTurns_rests (.inr hvp.1) _
  have hstart : s.hostDirective d tag = (s.cleared.sortFrame f).controllerTurn.settleLink := by subst hf; rfl
  have hrest : v.ControllerRests := .inr (.inr hvp.1)
  rw [hstart, hsort, htake]
  have := State.settle_replied (s := s) (r := ⟨f.kind, f.tag, .accepted, []⟩) hl hvp.2.2 hvp.2.1 hrest
  rwa [State.settle, State.controllerTurn_rests hrest] at this

/-- The controller's turn leaves the restart mark as it is. -/
@[simp] theorem State.takeTurns_restartMark (n : Nat) (s : State) :
    (s.takeTurns n).control.restartMark = s.control.restartMark := by
  induction n generalizing s with
  | zero => rfl
  | succ n ih =>
    simp only [State.takeTurns]
    (repeat' split) <;> simp [ih, State.takeDirective, State.execute]
    split <;> simp

@[simp] theorem State.controllerTurn_restartMark (s : State) :
    s.controllerTurn.control.restartMark = s.control.restartMark := by
  unfold State.controllerTurn
  split <;> simp

/-- A directive that interrupts the busy mode is executed at its arrival, whatever waits; the controller then takes what
it may, and the reply, ACCEPTED, is the transmitter's next choice (R144, R145). -/
theorem State.hostDirective_interrupts {s : State} {d : Directive} (h : s.Obeys d) (hi : d.interrupts s.mode = true)
    (tag : Byte) :
    s.hostDirective d tag =
      ((s.cleared.execute d).replyNow ⟨BitVec.ofNat 8 d.kindCode, tag, []⟩ .accepted []).controllerTurn.transmitTurn := by
  obtain ⟨⟨-, hl⟩, hm, hfifo, hd, -, -⟩ := h
  generalize hf : (⟨BitVec.ofNat 8 d.kindCode, tag, []⟩ : Frame) = f
  have hroom : s.cleared.replyRoom = true := decide_eq_true hfifo
  have hsort : s.cleared.sortFrame f = (s.cleared.execute d).replyNow f .accepted [] := by
    subst hf
    simp [State.sortFrame, State.sortDirective, hroom, State.arrive, State.arrivalStatus, hd, hm, hi]
  have hstart : s.hostDirective d tag = (s.cleared.sortFrame f).controllerTurn.settleLink := by subst hf; rfl
  rw [hstart, hsort, State.settleLink]
  generalize hv : ((s.cleared.execute d).replyNow f .accepted []).controllerTurn = v
  have hvl : v.link = { s.link with fifo := s.link.fifo ++ [⟨f.kind, f.tag, .accepted, []⟩] } := by
    rw [← hv]; simp [State.replyNow]
  have hvm : v.control.restartMark = s.control.restartMark := by
    rw [← hv]; simp [State.execute]
  have he : v.executorTurn = v := State.executorTurn_idle (by simpa [hvl, hvm] using hl.2)
  rw [he]
  refine State.executorTurn_idle ?_
  rw [State.transmitTurn_replied hl hvl]
  split <;> simpa [hvl, hvm] using hl.2

end Sys2Proof.Machine
end

