-- ==== Sys2Proof/Laws/Answers.lean ====
section
/-! SUPPORT. Laws/Answers.lean: what a request's reply and an event on a quiet part come to, and the small facts about
bytes, joints and heads that every statement about them needs. -/

namespace Sys2Proof.Machine

/-! ## A request in a ready state -/

/-- A request in a ready state gives what its answer gives, with the reply delivered. -/
theorem State.request_replies {s : State} (h : s.Ready) (k : RequestKind) (tag : Byte) (p : List Byte) {t : State}
    {st : Status} {c : List Byte} (e : s.cleared.answer p k = ⟨t, st, c⟩) (hc : t.control = s.control) :
    exec (k.command tag p) s = .next (t.withReply ⟨k.code, tag, st, c⟩) := by
  rw [exec_request, State.hostRequest_reply h, e]
  rw [e]
  have rests := h.1.1
  simpa [State.ControllerRests, State.mode, hc] using rests

/-- A request whose answer leaves the state as it was leaves the old state with the reply delivered. -/
theorem State.request_refused {s : State} (h : s.Ready) (k : RequestKind) (tag : Byte) (p : List Byte) {st : Status}
    {c : List Byte} (e : s.cleared.answer p k = ⟨s.cleared, st, c⟩) :
    exec (k.command tag p) s = .next (s.cleared.withReply ⟨k.code, tag, st, c⟩) :=
  State.request_replies h k tag p e rfl

/-! ## Events on a quiet part -/

/-- A transmitter that had nothing to start has nothing to start while link and reports stay. -/
theorem State.transmitTurn_still {s u : State} (h : s.LinkSettled) (hl : u.link = s.link) (hr : u.reports = s.reports) :
    u.transmitTurn = u := by
  by_cases hs : s.link.sending = none
  · obtain ⟨a, b, c⟩ := h.1 hs
    exact State.transmitTurn_none (by rw [hl]; exact a) (by rw [hl]; exact b) (State.nextReport_none (by rw [hr]; exact c))
  · exact State.transmitTurn_busy (by rw [hl]; exact hs)

/-- An event on a quiet part is its effect, after which the transmitter may start a report. -/
theorem State.command_next {s : State} (h : s.Quiet) {f : State → State} {u : State} (hu : f s.cleared = u)
    (hl : u.link = s.link) (hc : u.control.restartMark = s.control.restartMark)
    (hp : u.control.pendingSet = s.control.pendingSet) : s.command f = u.transmitTurn := by
  subst hu
  exact State.command_quiet h hl hc (hp.trans h.2)

/-- An event on a quiet part that posts no report is its effect. -/
theorem State.command_silent {s : State} (h : s.Quiet) {f : State → State} {u : State} (hu : f s.cleared = u)
    (hl : u.link = s.link) (hc : u.control.restartMark = s.control.restartMark)
    (hp : u.control.pendingSet = s.control.pendingSet) (hr : u.reports = s.reports) : s.command f = u := by
  rw [State.command_next h hu hl hc hp, State.transmitTurn_still h.1 hl hr]

/-! ## Bytes -/

theorem byteAt_b8 {n : Nat} (h : n < 256) (l : List Byte) : byteAt (b8 n ++ l) 0 = n := by
  simp [byteAt, b8, Nat.mod_eq_of_lt h]

theorem u16At_b16 {n : Nat} (h : n < 65536) (l : List Byte) : u16At (b16 n ++ l) 0 = n := by
  simp [u16At, byteAt, b16]
  omega

theorem u16At_b16_alone {n : Nat} (h : n < 65536) : u16At (b16 n) 0 = n := by simpa using u16At_b16 h []

theorem s16At_bs16 {x : Int} (h : InSixteen x) (n : Nat) : s16At (b8 n ++ bs16 x) 1 = x := by
  obtain ⟨low, high⟩ := h
  simp only [s16At, u16At, byteAt, b8, bs16, b16, signed16]
  simp
  split <;> omega

@[simp] theorem b8_length (n : Nat) : (b8 n).length = 1 := rfl
@[simp] theorem b16_length (n : Nat) : (b16 n).length = 2 := rfl
@[simp] theorem b32_length (n : Nat) : (b32 n).length = 4 := rfl
@[simp] theorem bs16_length (x : Int) : (bs16 x).length = 2 := rfl
@[simp] theorem bs40_length (x : Int) : (bs40 x).length = 5 := rfl
@[simp] theorem o8_length (x : Option Nat) : (o8 x).length = 1 := rfl
@[simp] theorem o16_length (x : Option Nat) : (o16 x).length = 2 := rfl
@[simp] theorem o32_length (x : Option Nat) : (o32 x).length = 4 := rfl
@[simp] theorem z16_length (x : Option Int) : (z16 x).length = 2 := rfl
@[simp] theorem mark_length (b : Bool) : (mark b).length = 1 := rfl

/-! ## Joints and heads -/

/-- Outside RUNNING the blocked condition does not hold (R22). -/
theorem State.blockedBy_quiet {s : State} (h : s.mode ≠ .running) : s.blockedBy = none := by
  simp only [State.blockedBy]
  split
  · rfl
  · rw [if_neg (fun c => h c.1)]

/-- Outside RUNNING PASS_BLOCKED is not posted (R22). -/
theorem State.postBlocked_quiet {s : State} (h : s.mode ≠ .running) (was : Bool) : s.postBlocked was = s := by
  simp only [State.postBlocked, State.blockedBy_quiet h]

/-- Outside RUNNING PASS_ADVANCED is not posted (R21). -/
theorem State.postAdvance_quiet {s : State} (h : s.mode ≠ .running) (old : Option Pass) : s.postAdvance old = s := by
  simp only [State.postAdvance]
  split
  · rw [if_neg (fun c => h c.1)]
  · rfl
  · rfl

/-- Outside RUNNING a recomputation writes the current pass and posts nothing. -/
theorem State.recompute_quiet {s : State} (h : s.mode ≠ .running) (was : Bool) :
    s.recompute was = { s with table := { s.table with currentPass := currentPassOf s.table.joints } } := by
  have advance := State.postAdvance_quiet (s := { s with table := { s.table with
    currentPass := currentPassOf s.table.joints } }) h s.table.currentPass
  rw [State.recompute, advance, State.postBlocked_quiet (by exact h)]

/-- Changing the joint at an index in use sets the changed record there. -/
theorem State.modJoint_joints {s : State} {i : Nat} {f : Joint → Joint} {j : Joint} (hj : s.joint? i = some j) :
    (s.modJoint i f).table.joints = s.table.joints.set i (f j) := by
  simp only [State.modJoint]
  obtain ⟨hl, hj⟩ := List.getElem?_eq_some_iff.1 hj
  apply List.ext_getElem (by simp)
  intro n _ _
  simp [List.getElem_modify, List.getElem_set]
  split
  · subst_vars
    rfl
  · rfl

/-- Outside RUNNING a change of a joint's state changes the record and the current pass alone. -/
theorem State.changeJoint_quiet {s : State} {i : Nat} {f : Joint → Joint} {j : Joint} (hj : s.joint? i = some j)
    (h : s.mode ≠ .running) :
    s.changeJoint i f = { s with table := { s.table with
      joints := s.table.joints.set i (f j), currentPass := currentPassOf (s.table.joints.set i (f j)) } } := by
  rw [State.changeJoint, State.recompute_quiet (by exact h)]
  have set := State.modJoint_joints (f := f) hj
  simp only [set]
  simp [State.modJoint] at set ⊢

@[simp] theorem State.setHead_head (s : State) (h : HeadNo) (x : Head) : (s.setHead h x).head h = x := by
  simp [State.head, State.setHead]

theorem State.setHead_head_ne (s : State) {h g : HeadNo} (x : Head) (n : g ≠ h) : (s.setHead h x).head g = s.head g := by
  simp only [State.head, State.setHead]
  exact Vector.getElem_set_ne _ _ (fun e => n (Fin.ext e.symm))

@[simp] theorem State.setClaim_claim (s : State) (h : HeadNo) (c : Option Claim) : (s.setClaim h c).claim h = c := by
  simp [State.claim, State.setClaim]

@[simp] theorem State.setChannel_channel (s : State) (c : ChannelNo) (x : Channel) : (s.setChannel c x).channel c = x := by
  simp [State.channel, State.setChannel]

@[simp] theorem State.setPocket_pocket (s : State) (p : PocketNo) (x : Pocket) : (s.setPocket p x).pocket p = x := by
  simp [State.pocket, State.setPocket]

@[simp] theorem State.setPermit_permit (s : State) (k : PermitNo) (g : Option PermitGrant) :
    (s.setPermit k g).permit k = g := by
  simp [State.permit, State.setPermit]

@[simp] theorem State.setLatch_latch (s : State) (k : EventKind) (l : Latch) : (s.setLatch k l).latch k = l := by
  simp [State.latch, State.setLatch]

end Sys2Proof.Machine
end

