-- ==== Sys2Proof/Laws/PerInstr.lean ====
section
/-! SUPPORT. Laws/PerInstr.lean: what holds of every command as syntax: the frame that carries a command of the host fits
the envelope (R190). -/

namespace Sys2Proof.Laws.PayloadCarried
open Sys2Proof

/-- The frame by which the host sends a command; none for the events of the line, the pins, the ports and the timers. -/
def frame? : Instr → Option Machine.Frame
  | .coldStart _ _ => none
  | .frameReceive _ => none
  | .frameGapTimeout => none
  | .linkFlush tag payload => some ⟨Machine.flushKind, tag, payload⟩
  | .transmitDone => none
  | .jointLoad tag payload => some ⟨Machine.RequestKind.code .jointLoad, tag, payload⟩
  | .jointClear tag payload => some ⟨Machine.RequestKind.code .jointClear, tag, payload⟩
  | .jointRead tag payload => some ⟨Machine.RequestKind.code .jointRead, tag, payload⟩
  | .jointFind tag payload => some ⟨Machine.RequestKind.code .jointFind, tag, payload⟩
  | .jointSkip tag payload => some ⟨Machine.RequestKind.code .jointSkip, tag, payload⟩
  | .jointRework tag payload => some ⟨Machine.RequestKind.code .jointRework, tag, payload⟩
  | .datumSet tag payload => some ⟨Machine.RequestKind.code .datumSet, tag, payload⟩
  | .datumRead tag payload => some ⟨Machine.RequestKind.code .datumRead, tag, payload⟩
  | .stationSet tag payload => some ⟨Machine.RequestKind.code .stationSet, tag, payload⟩
  | .stationRead tag payload => some ⟨Machine.RequestKind.code .stationRead, tag, payload⟩
  | .permissiveSet tag payload => some ⟨Machine.RequestKind.code .permissiveSet, tag, payload⟩
  | .statusRead tag payload => some ⟨Machine.RequestKind.code .statusRead, tag, payload⟩
  | .restart tag payload => some ⟨Machine.RequestKind.code .restart, tag, payload⟩
  | .headRead tag payload => some ⟨Machine.RequestKind.code .headRead, tag, payload⟩
  | .headEnable tag payload => some ⟨Machine.RequestKind.code .headEnable, tag, payload⟩
  | .headDisable tag payload => some ⟨Machine.RequestKind.code .headDisable, tag, payload⟩
  | .headReset tag payload => some ⟨Machine.RequestKind.code .headReset, tag, payload⟩
  | .peckSet tag payload => some ⟨Machine.RequestKind.code .peckSet, tag, payload⟩
  | .filterSet tag payload => some ⟨Machine.RequestKind.code .filterSet, tag, payload⟩
  | .filterRead tag payload => some ⟨Machine.RequestKind.code .filterRead, tag, payload⟩
  | .channelRead tag payload => some ⟨Machine.RequestKind.code .channelRead, tag, payload⟩
  | .rivetTableSet tag payload => some ⟨Machine.RequestKind.code .rivetTableSet, tag, payload⟩
  | .rivetClassSet tag payload => some ⟨Machine.RequestKind.code .rivetClassSet, tag, payload⟩
  | .magazineSet tag payload => some ⟨Machine.RequestKind.code .magazineSet, tag, payload⟩
  | .heaterRead tag payload => some ⟨Machine.RequestKind.code .heaterRead, tag, payload⟩
  | .eventConfig tag payload => some ⟨Machine.RequestKind.code .eventConfig, tag, payload⟩
  | .eventAck tag payload => some ⟨Machine.RequestKind.code .eventAck, tag, payload⟩
  | .eventRead tag payload => some ⟨Machine.RequestKind.code .eventRead, tag, payload⟩
  | .arm tag => some ⟨BitVec.ofNat 8 (Machine.Directive.kindCode .arm), tag, []⟩
  | .start tag => some ⟨BitVec.ofNat 8 (Machine.Directive.kindCode .start), tag, []⟩
  | .hold tag => some ⟨BitVec.ofNat 8 (Machine.Directive.kindCode .hold), tag, []⟩
  | .resume tag => some ⟨BitVec.ofNat 8 (Machine.Directive.kindCode .resume), tag, []⟩
  | .drain tag => some ⟨BitVec.ofNat 8 (Machine.Directive.kindCode .drain), tag, []⟩
  | .disarm tag => some ⟨BitVec.ofNat 8 (Machine.Directive.kindCode .disarm), tag, []⟩
  | .abort tag => some ⟨BitVec.ofNat 8 (Machine.Directive.kindCode .abort), tag, []⟩
  | .recover tag => some ⟨BitVec.ofNat 8 (Machine.Directive.kindCode .recover), tag, []⟩
  | .homeDone _ => none
  | .travelDone _ => none
  | .clampDone _ => none
  | .drillSample _ _ _ => none
  | .peckBack _ => none
  | .retractDone _ => none
  | .loadDone _ => none
  | .heatTimeExpiry _ => none
  | .holdWindowExpiry _ => none
  | .ejectDone _ => none
  | .portTimerExpiry _ => none
  | .feedDone _ => none
  | .setSample _ _ _ => none
  | .setDone _ => none
  | .releaseDone _ => none
  | .driveFault _ _ => none
  | .phaseTimeout _ => none
  | .rivetWaitExpiry _ => none
  | .byteArrival _ _ => none

/-- The frame of a well-formed command has a LEN from 2 to 242 (R190). -/
def Statement (i : Instr) : Prop :=
  i.wellFormed = true → ∀ f ∈ frame? i, 2 ≤ f.body.length ∧ f.body.length ≤ 242

theorem carried_request {i : Instr} {kind tag : Byte} {p : List Byte} (hf : frame? i = some ⟨kind, tag, p⟩)
    (hw : i.wellFormed = payloadFits p) : Statement i := by
  intro h f hm
  rw [hf, Option.mem_some_iff] at hm
  subst hm
  have : p.length ≤ 240 := by simpa [hw, payloadFits] using h
  simp only [Machine.Frame.body, List.length_cons]
  omega

theorem carried_directive {i : Instr} {kind tag : Byte} (hf : frame? i = some ⟨kind, tag, []⟩) : Statement i := by
  intro _ f hm
  rw [hf, Option.mem_some_iff] at hm
  subst hm
  simp [Machine.Frame.body]

theorem coldStart (pin1 : Bool) (pin2 : Bool) : Statement (.coldStart pin1 pin2) := fun _ _ h => nomatch h
theorem frameReceive (bytes : List Byte) : Statement (.frameReceive bytes) := fun _ _ h => nomatch h
theorem frameGapTimeout : Statement .frameGapTimeout := fun _ _ h => nomatch h
theorem linkFlush (tag : Byte) (payload : List Byte) : Statement (.linkFlush tag payload) := carried_request rfl rfl
theorem transmitDone : Statement .transmitDone := fun _ _ h => nomatch h
theorem jointLoad (tag : Byte) (payload : List Byte) : Statement (.jointLoad tag payload) := carried_request rfl rfl
theorem jointClear (tag : Byte) (payload : List Byte) : Statement (.jointClear tag payload) := carried_request rfl rfl
theorem jointRead (tag : Byte) (payload : List Byte) : Statement (.jointRead tag payload) := carried_request rfl rfl
theorem jointFind (tag : Byte) (payload : List Byte) : Statement (.jointFind tag payload) := carried_request rfl rfl
theorem jointSkip (tag : Byte) (payload : List Byte) : Statement (.jointSkip tag payload) := carried_request rfl rfl
theorem jointRework (tag : Byte) (payload : List Byte) : Statement (.jointRework tag payload) := carried_request rfl rfl
theorem datumSet (tag : Byte) (payload : List Byte) : Statement (.datumSet tag payload) := carried_request rfl rfl
theorem datumRead (tag : Byte) (payload : List Byte) : Statement (.datumRead tag payload) := carried_request rfl rfl
theorem stationSet (tag : Byte) (payload : List Byte) : Statement (.stationSet tag payload) := carried_request rfl rfl
theorem stationRead (tag : Byte) (payload : List Byte) : Statement (.stationRead tag payload) := carried_request rfl rfl
theorem permissiveSet (tag : Byte) (payload : List Byte) : Statement (.permissiveSet tag payload) := carried_request rfl rfl
theorem statusRead (tag : Byte) (payload : List Byte) : Statement (.statusRead tag payload) := carried_request rfl rfl
theorem restart (tag : Byte) (payload : List Byte) : Statement (.restart tag payload) := carried_request rfl rfl
theorem headRead (tag : Byte) (payload : List Byte) : Statement (.headRead tag payload) := carried_request rfl rfl
theorem headEnable (tag : Byte) (payload : List Byte) : Statement (.headEnable tag payload) := carried_request rfl rfl
theorem headDisable (tag : Byte) (payload : List Byte) : Statement (.headDisable tag payload) := carried_request rfl rfl
theorem headReset (tag : Byte) (payload : List Byte) : Statement (.headReset tag payload) := carried_request rfl rfl
theorem peckSet (tag : Byte) (payload : List Byte) : Statement (.peckSet tag payload) := carried_request rfl rfl
theorem filterSet (tag : Byte) (payload : List Byte) : Statement (.filterSet tag payload) := carried_request rfl rfl
theorem filterRead (tag : Byte) (payload : List Byte) : Statement (.filterRead tag payload) := carried_request rfl rfl
theorem channelRead (tag : Byte) (payload : List Byte) : Statement (.channelRead tag payload) := carried_request rfl rfl
theorem rivetTableSet (tag : Byte) (payload : List Byte) : Statement (.rivetTableSet tag payload) := carried_request rfl rfl
theorem rivetClassSet (tag : Byte) (payload : List Byte) : Statement (.rivetClassSet tag payload) := carried_request rfl rfl
theorem magazineSet (tag : Byte) (payload : List Byte) : Statement (.magazineSet tag payload) := carried_request rfl rfl
theorem heaterRead (tag : Byte) (payload : List Byte) : Statement (.heaterRead tag payload) := carried_request rfl rfl
theorem eventConfig (tag : Byte) (payload : List Byte) : Statement (.eventConfig tag payload) := carried_request rfl rfl
theorem eventAck (tag : Byte) (payload : List Byte) : Statement (.eventAck tag payload) := carried_request rfl rfl
theorem eventRead (tag : Byte) (payload : List Byte) : Statement (.eventRead tag payload) := carried_request rfl rfl
theorem arm (tag : Byte) : Statement (.arm tag) := carried_directive rfl
theorem start (tag : Byte) : Statement (.start tag) := carried_directive rfl
theorem hold (tag : Byte) : Statement (.hold tag) := carried_directive rfl
theorem resume (tag : Byte) : Statement (.resume tag) := carried_directive rfl
theorem drain (tag : Byte) : Statement (.drain tag) := carried_directive rfl
theorem disarm (tag : Byte) : Statement (.disarm tag) := carried_directive rfl
theorem abort (tag : Byte) : Statement (.abort tag) := carried_directive rfl
theorem recover (tag : Byte) : Statement (.recover tag) := carried_directive rfl
theorem homeDone (head : HeadNo) : Statement (.homeDone head) := fun _ _ h => nomatch h
theorem travelDone (head : HeadNo) : Statement (.travelDone head) := fun _ _ h => nomatch h
theorem clampDone (head : HeadNo) : Statement (.clampDone head) := fun _ _ h => nomatch h
theorem drillSample (head : HeadNo) (depth : Half) (thrust : Half) : Statement (.drillSample head depth thrust) := fun _ _ h => nomatch h
theorem peckBack (head : HeadNo) : Statement (.peckBack head) := fun _ _ h => nomatch h
theorem retractDone (head : HeadNo) : Statement (.retractDone head) := fun _ _ h => nomatch h
theorem loadDone (pocket : Byte) : Statement (.loadDone pocket) := fun _ _ h => nomatch h
theorem heatTimeExpiry (pocket : PocketNo) : Statement (.heatTimeExpiry pocket) := fun _ _ h => nomatch h
theorem holdWindowExpiry (pocket : PocketNo) : Statement (.holdWindowExpiry pocket) := fun _ _ h => nomatch h
theorem ejectDone (pocket : Byte) : Statement (.ejectDone pocket) := fun _ _ h => nomatch h
theorem portTimerExpiry (pocket : PocketNo) : Statement (.portTimerExpiry pocket) := fun _ _ h => nomatch h
theorem feedDone (head : HeadNo) : Statement (.feedDone head) := fun _ _ h => nomatch h
theorem setSample (head : HeadNo) (stroke : Half) (force : Half) : Statement (.setSample head stroke force) := fun _ _ h => nomatch h
theorem setDone (head : HeadNo) : Statement (.setDone head) := fun _ _ h => nomatch h
theorem releaseDone (head : HeadNo) : Statement (.releaseDone head) := fun _ _ h => nomatch h
theorem driveFault (head : HeadNo) (code : Byte) : Statement (.driveFault head code) := fun _ _ h => nomatch h
theorem phaseTimeout (head : HeadNo) : Statement (.phaseTimeout head) := fun _ _ h => nomatch h
theorem rivetWaitExpiry (head : HeadNo) : Statement (.rivetWaitExpiry head) := fun _ _ h => nomatch h
theorem byteArrival (byte : Byte) (stopBit : Bool) : Statement (.byteArrival byte stopBit) := fun _ _ h => nomatch h

end Sys2Proof.Laws.PayloadCarried
end

