-- ==== Sys2Proof/Tests/Slice0.lean ====
section
/-! SUPPORT. Tests/Slice0.lean: small tests of the model on the manual's worked figures, the WellFormed smoke test, and
the witnesses: for each statement with hypotheses, a state and operands that meet them. -/

namespace Sys2Proof.Tests
open Sys2Proof.Machine
set_option Elab.async false

/-! ## Helpers -/

/-- The state a command leaves. -/
def after (s : State) (c : Instr) : State :=
  match exec c s with
  | .next t => t
  | .fault _ => s
  | .refused _ => s

/-- The payload of the frame on the line after a command. -/
def sent (s : State) (c : Instr) : Option (List Byte) := (after s c).link.sending.map (·.payload)

/-- Station settings within their ranges: L = 1,000,000 and C = 50,000 as in section 2.5, a rivet wait limit of 600 as
in section 3.11. -/
def station1 : StationSettings :=
  { railLength := 1000000, clearance := 50000, homeTime := 60000, travelTime := 60000, clampTime := 1000,
    drillTime := 60000, retractTime := 5000, feedTime := 3000, setTime := 4000, releaseTime := 2000, loadTime := 8000,
    ejectTime := 9000, rivetWaitLimit := 600 }

/-- A part at rest in a mode, its settings accepted and its reports sent. -/
def base (m : Mode) : State :=
  { State.cold .bps9600 with
    control := { mode := m, inProgress := m.progress, pendingSet := [], stationMark := true, restartMark := false }
    link := { Link.cold .bps9600 with settings := some station1 } }

/-- The same part with another frame on the line. -/
def sending (s : State) : State := { s with link := { s.link with sending := some ⟨0x80, 9, [0x14, 0]⟩ } }

/-- A RIVET joint of side A, pass 0 and class 2 at a nominal position of zone 0. -/
def identity1 (id offset : Nat) : JointIdentity :=
  { id, side := .a, zone := 0, offset, pass := 0, kind := .rivet, diameter := 2, key := false,
    expectedGrip := some 3600, tolerance := some 100, expectedLayers := some 2, gate := none }

/-- A joint in a state. -/
def joint1 (id offset : Nat) (st : JointState) : Joint :=
  { identity := identity1 id offset, state := st, corrected := some offset, head := none, phaseAtEnd := none,
    rejection := none, reworks := 0, pocket := none, result := .none }

/-- A state with the given joints. -/
def withJoints (s : State) (l : List Joint) : State :=
  { s with table := { s.table with joints := l, currentPass := currentPassOf l } }

/-- A head in a state, holding a joint. -/
def head1 (st : HeadState) (held : Option Nat) : Head := { Head.cold with state := st, held, position := some 0 }

/-- The rivet class of section 6.8. -/
def class9 : RivetClass :=
  { heatTime := 300, holdWindow := 600, forceTarget := 20000, workMin := 25000, workMax := 32000 }

/-- A state in which class 9 is that of section 6.8 and magazine 9 holds two rivets. -/
def withClass (s : State) : State :=
  { s with heater := { s.heater with
      classes := s.heater.classes.set 9 (some class9)
      table := [⟨2, 3401, 3700, 9⟩]
      magazines := s.heater.magazines.set 9 2 } }

/-- The filter settings of the two-plate example of chapter 4. -/
def filter4 : FilterSettings :=
  { taps := [8192, 8192, 8192, 8192], engage := 3000, dropRatio := 16384, rebound := 2000, exitLevel := 1500,
    confirm := 10, depthLimit := 8000, setWeight := 1024 }

/-! ## What WellFormed refuses -/

theorem test_wellFormed_payload_too_long : (Instr.jointLoad 1 (List.replicate 241 0)).wellFormed = false := by
  decide +kernel
theorem test_wellFormed_payload_longest : (Instr.jointLoad 1 (List.replicate 240 0)).wellFormed = true := by
  decide +kernel
theorem test_wellFormed_depth_odd : (Instr.drillSample 0 3 0).wellFormed = false := by decide +kernel
theorem test_wellFormed_depth_beyond : (Instr.drillSample 0 20002 0).wellFormed = false := by decide +kernel
theorem test_wellFormed_stroke_beyond : (Instr.setSample 0 20001 0).wellFormed = false := by decide +kernel
theorem test_wellFormed_frame_without_start : (Instr.frameReceive [0x02, 0x14]).wellFormed = false := by
  decide +kernel
theorem test_wellFormed_frame_too_long :
    (Instr.frameReceive (0x5A :: List.replicate 246 0)).wellFormed = false := by decide +kernel

/-! ## Words and arithmetic -/

/-- The table gives no row any bits, so no word spells a command. -/
theorem test_decode_spells_nothing : (decodeTableWord 0 0, decodeTableWord 8 0x14) = (none, none) := rfl

/-- R176: the CRC of the nine digits, the check value by which this CRC is known. -/
theorem test_crc_check_value :
    crc16 [0x31, 0x32, 0x33, 0x34, 0x35, 0x36, 0x37, 0x38, 0x39] = 0x29B1 := by decide +kernel

/-- R82: the first outputs under a steady thrust of 16,384. -/
theorem test_filter_first_outputs :
    ((Channel.cold.filter filter4 2 16384).lastOutput, ((Channel.cold.filter filter4 2 16384).filter filter4 4
      16384).lastOutput) = (some 4096, some 8192) := by decide +kernel

/-- Section 4.5: the drop level of a peak of 20,000 is 10,000, that of 19,500 is 9,750. -/
theorem test_drop_levels : (dropLevel 20000 16384, dropLevel 19500 16384) = (10000, 9750) := by decide +kernel

/-- Section 4.6: 40 samples of 24,576 give 30,720; 43 are held at 32,767 with EV. -/
theorem test_set_work : (convert 2013265920, convert 2164260864) = ((30720, false), (32767, true)) := by
  decide +kernel

/-- The datum table of the example of section 1.6. -/
def datum1 : Vector Int 16 := (((Vector.replicate 16 0).set 0 (-500)).set 3 (-1500)).set 15 1200

/-- Section 1.6: zone 0's joint lies below 0, zone 3's at 195,508, zone 15's above L. -/
theorem test_corrected_positions :
    [(0, 300), (3, 400), (15, 16000)].map
      (fun p : Zone × Nat => correctedOf datum1 1000000 { identity1 1 p.2 with zone := p.1 }) =
      [none, some 195508, none] := by decide +kernel

/-- Section 4.5: the two-plate joint passes its checks and class 2 gives code 9 for a grip of 3,602. -/
theorem test_two_plate_checks :
    (drillingChecks [⟨2, 3401, 3700, 9⟩, ⟨2, 3701, 4000, 10⟩] (identity1 14 0) (some 2) 3602,
      lookupRivet [⟨2, 3401, 3700, 9⟩, ⟨2, 3701, 4000, 10⟩] 2 3602,
      drillingChecks [] { identity1 14 0 with expectedLayers := some 3 } (some 2) 3602) =
      (.good, some 9, .rejected .layerMismatch) := by decide +kernel

/-! ## The link -/

/-- R174: the first pin high and the second low give 115,200. -/
theorem test_coldStart_rate : (after (base .aborted) (.coldStart true false)).link.lineRate = .bps115200 := by
  decide +kernel

/-- R173, R187: after a cold start STATION_STARTED alone stands in the report queue and the transmitter is idle. -/
theorem test_coldStart_reports :
    (State.reset.reports.queue, State.reset.link.sending) = ([.stationStarted], none) := by decide +kernel

/-- Section 10.6: a STATUS_READ request is a frame of 6 bytes, and its reply has LEN 39: 37 bytes of payload. The check
of 02 14 07 is 1DAC. -/
theorem test_frameReceive_statusRead :
    (sent (base .armed) (.frameReceive [0x5A, 0x02, 0x14, 0x07, 0x1D, 0xAC])).map List.length = some 37 := by
  decide +kernel

/-- R176: a frame with another check is counted and answered nothing. -/
theorem test_frameReceive_bad_check :
    ((after (base .armed) (.frameReceive [0x5A, 0x02, 0x14, 0x07, 0x1D, 0xAD])).link.frameErrors,
      sent (base .armed) (.frameReceive [0x5A, 0x02, 0x14, 0x07, 0x1D, 0xAD])) = (1, none) := by decide +kernel

/-- R175: silence abandons the frame in progress. -/
theorem test_frameGapTimeout :
    (after { base .armed with link := { (base .armed).link with assembler := .length 20 } } .frameGapTimeout).link =
      { (base .armed).link with frameErrors := 1 } := by decide +kernel

/-- R189, row 6: where the byte is taken first it is stored and the gap starts again, so that the expiry of the old gap
abandons nothing. -/
theorem test_frameGapTimeout_after_byte :
    (after (after { base .armed with link := { (base .armed).link with assembler := .length 20 } }
      (.byteArrival 2 true)) .frameGapTimeout).link = { (base .armed).link with assembler := .body 2 [] 0 } := by
  decide +kernel

/-- R175: a start byte opens a frame. -/
theorem test_byteArrival_start :
    (after (base .armed) (.byteArrival 0x5A true)).link.assembler = .length 0 := by decide +kernel

/-- R175: LEN 243 is a bad length. -/
theorem test_byteArrival_bad_length :
    (after (after (base .armed) (.byteArrival 0x5A true)) (.byteArrival 243 true)).link.frameErrors = 1 := by
  decide +kernel

/-- Four requests wait behind a reply in the slot, as in section 9.9. -/
def burst : State :=
  { base .armed with link := { (base .armed).link with
      sending := some ⟨0x80, 9, [0x14, 0]⟩, slot := some ⟨0x44, 1, .ok, []⟩
      requests := [⟨0x44, 1, []⟩, ⟨0x21, 2, [0]⟩, ⟨0x33, 3, [0]⟩, ⟨0x25, 4, [0, 0, 0, 0, 0]⟩] } }

/-- Section 9.9: LINK_FLUSH of requests removes 4 requests and 0 reports. -/
theorem test_linkFlush_requests :
    ((after burst (.linkFlush 5 [1])).link.requests, (after burst (.linkFlush 5 [1])).link.fifo) =
      ([], [⟨0x6F, 5, .ok, [4, 0]⟩]) := by decide +kernel

/-- Section 9.9: a request that finds four waiting is answered BUSY. -/
theorem test_burst_busy :
    (after burst (.peckSet 6 [0, 0, 0, 0, 0])).link.fifo = [⟨0x25, 6, .busy, []⟩] := by decide +kernel

/-- Section 9.9: an immediate reply is sent before the reply in the slot. -/
theorem test_transmitDone_immediate_first :
    (sent (after burst (.peckSet 6 [0, 0, 0, 0, 0])) .transmitDone,
      (after (after burst (.peckSet 6 [0, 0, 0, 0, 0])) .transmitDone).link.slot.isSome) =
      (some [0x25, 3], true) := by decide +kernel

/-- Section 8.6: of the queued reports the one of highest priority is sent: HEAD_FAULT, of subject 1. -/
theorem test_transmitDone_report :
    sent ((sending (base .running)).post .jointRejected 30 |>.post .headFault 1) .transmitDone =
      some [7, 0, 1, 0, 0, 0, 0, 3, 1] := by decide +kernel

/-! ## The joint table -/

/-- R9, R193: one record is appended; the reply carries the first index, 0, and the count, 1. -/
theorem test_jointLoad :
    sent (base .setup) (.jointLoad 1 [0, 14, 0x20, 0x02, 3, 0x01, 0x90, 0x0E, 0x10, 0, 100, 0xFF]) =
      some [0x01, 0, 0, 0, 0, 1] := by decide +kernel

/-- R193: the record's fields. -/
theorem test_jointLoad_fields :
    (after (base .setup) (.jointLoad 1 [0, 14, 0x20, 0x02, 3, 0x01, 0x90, 0x0E, 0x10, 0, 100, 0xFF])).table.joints.map
      (·.identity) = [{ identity1 14 400 with zone := 3 }] := by decide +kernel

theorem test_jointClear :
    (after (withJoints (base .setup) [joint1 1 100 .pending]) (.jointClear 1 [])).table =
      { JointTable.cold with joints := [] } := by decide +kernel

/-- R12: an index not in use. -/
theorem test_jointRead_notFound : sent (base .running) (.jointRead 1 [0, 0]) = some [0x03, 9] := by decide +kernel

theorem test_jointFind :
    sent (withJoints (base .running) [joint1 1 100 .complete, joint1 700 200 .complete]) (.jointFind 1 [2, 188]) =
      some [0x04, 0, 0, 1] := by decide +kernel

theorem test_jointSkip :
    (after (withJoints (base .held) [joint1 1 100 .pending]) (.jointSkip 1 [0, 0])).table.joints.map (·.state) =
      [.skipped] := by decide +kernel

/-- R14: a joint in work is not skipped. -/
theorem test_jointSkip_wrongState :
    sent (withJoints (base .held) [joint1 1 100 .drilling]) (.jointSkip 1 [0, 0]) = some [0x05, 12] := by
  decide +kernel

/-- A REJECTED joint with a reworkable reason. -/
def rejected1 (reworks : Nat) : Joint :=
  { joint1 1 100 .rejected with rejection := some ⟨.layerMismatch, true⟩, reworks }

theorem test_jointRework :
    (after (withJoints (base .setup) [rejected1 2]) (.jointRework 1 [0, 0])).table.joints.map
      (fun j => (j.state, j.reworks, j.rejection)) = [(.pending, 3, none)] := by decide +kernel

theorem test_jointRework_limit :
    sent (withJoints (base .setup) [rejected1 3]) (.jointRework 1 [0, 0]) = some [0x06, 11] := by decide +kernel

theorem test_datumSet :
    (after (base .setup) (.datumSet 1 [3, 0xFA, 0x24])).table.datum =
      (Vector.replicate 16 (0 : Int)).set 3 (-1500) := by decide +kernel

theorem test_datumRead :
    (sent (after (sending (base .setup)) (.datumSet 1 [3, 0xFA, 0x24])) .transmitDone,
      (sent (base .setup) (.datumRead 2 [])).map List.length) = (some [0x07, 0], some 34) := by decide +kernel

/-! ## The station -/

/-- R184, R25: L = 1,048,575 and C = 150,000 pass at their limits, and the station mark is set. -/
theorem test_stationSet :
    (after State.reset (.stationSet 1
      { station1 with railLength := 1048575, clearance := 150000 }.bytes)).control.stationMark = true := by
  decide +kernel

theorem test_stationSet_out_of_range :
    sent (base .setup) (.stationSet 1 { station1 with railLength := 1048576 }.bytes) = some [0x11, 6] := by
  decide +kernel

theorem test_stationRead :
    (sent (base .running) (.stationRead 1 [])).map (fun l => (l.length, u32At l 2)) = some (35, 1000000) := by
  decide +kernel

theorem test_permissiveSet :
    (after (base .setup) (.permissiveSet 1 [0x06, 0x04])).dispatcher.flags = #v[false, false, true, false] := by
  decide +kernel

theorem test_statusRead_mode : (sent (base .held) (.statusRead 1 [])).map (fun l => byteAt l 2) = some 5 := by
  decide +kernel

theorem test_restart :
    (sent (base .setup) (.restart 1 []), (after (base .setup) (.restart 1 [])).control.restartMark) =
      (some [0x15, 0], true) := by decide +kernel

theorem test_restart_taken :
    (after (after (base .aborted) (.restart 1 [])) .transmitDone).mode = .setup := by decide +kernel

/-! ## Heads -/

theorem test_headRead : (sent (base .running) (.headRead 1 [3])).map List.length = some 61 := by decide +kernel

theorem test_headRead_badField : sent (base .running) (.headRead 1 [4]) = some [0x21, 6] := by decide +kernel

/-- A head that is OFFLINE or in FAULT, in ARMED. -/
def outOfWork (st : HeadState) : State := (base .armed).setHead 1 (head1 st none)

/-- R65, R63, R28: an enabled head goes into HOMING, its claim reaching to L. -/
theorem test_headEnable :
    ((after (outOfWork .offline) (.headEnable 1 [1])).head 1).state = .homing ∧
      (after (outOfWork .offline) (.headEnable 1 [1])).claim 1 = some ⟨1000000, 1000000⟩ := by decide +kernel

theorem test_headReset : sent (outOfWork .fault) (.headReset 1 [1]) = some [0x24, 0, 1] := by decide +kernel

theorem test_headDisable : ((after (outOfWork .fault) (.headDisable 1 [1])).head 1).state = .offline := by
  decide +kernel

theorem test_headDisable_wrongState :
    sent ((base .running).setHead 1 (head1 .drill none)) (.headDisable 1 [1]) = some [0x23, 12] := by decide +kernel

/-- H2 after the sample at 1,100 of section 3.10, holding joint 0 and channel D1. -/
def pecking : State :=
  ((withJoints (base .running) [joint1 14 0 .drilling, joint1 15 900 .locked]).setHead 2
    { head1 .drill (some 0) with
      subPhase := some .peckReturn, active := ⟨100, 600⟩, deepest := 1100, peckStart := 1000,
      rate := some .reEntry, order := some (.feed .reEntry) }).setChannel 1
      { Channel.cold with holder := some 2, lastHolder := some 2, joint := some 0 }

/-- Section 3.10: the profile of a head in DRILL waits in the buffer. -/
theorem test_peckSet_buffered :
    ((after pecking (.peckSet 1 [2, 0, 200, 3, 32])).head 2).active = ⟨100, 600⟩ ∧
      ((after pecking (.peckSet 1 [2, 0, 200, 3, 32])).head 2).buffered = some ⟨200, 800⟩ := by decide +kernel

/-- Section 3.10: the sample at 1,102 restarts cutting; counter 102. -/
theorem test_drillSample_cutting :
    ((after pecking (.drillSample 2 1102 0)).head 2).peckCounter = 102 ∧
      (after pecking (.drillSample 2 1102 0)).outgoing = [.drive 2 (.feed .cutting)] := by decide +kernel

/-- Section 3.10: the sample at 1,600 pecks to 1,500 by the old profile and makes the buffered one active. -/
theorem test_drillSample_peck :
    (after (after pecking (.peckSet 1 [2, 0, 200, 3, 32])) (.drillSample 2 1600 0)).outgoing =
        [.drive 2 (.peckRetract 1500)] ∧
      ((after (after pecking (.peckSet 1 [2, 0, 200, 3, 32])) (.drillSample 2 1600 0)).head 2).active =
        ⟨200, 800⟩ := by decide +kernel

/-- Section 3.10: PECK_BACK orders RE_ENTRY. -/
theorem test_peckBack :
    (after (after pecking (.drillSample 2 1600 0)) (.peckBack 2)).outgoing = [.drive 2 (.feed .reEntry)] := by
  decide +kernel

/-! ## The signature unit's and the heater's settings -/

/-- The payload of the settings of the two-plate example. -/
theorem test_filterSet : (after (base .setup) (.filterSet 1 filter4.bytes)).signature.filter = filter4 := by
  decide +kernel

/-- R95: T_x must lie below T_e. -/
theorem test_filterSet_refused :
    sent (base .setup) (.filterSet 1 { filter4 with exitLevel := 3000 }.bytes) = some [0x31, 6] := by decide +kernel

/-- R95: the cold-start settings, as FILTER_READ carries them. -/
theorem test_filterRead :
    sent (base .running) (.filterRead 1 []) =
      some [0x32, 0, 1, 0x7F, 0xFF, 0x0F, 0xA0, 0x40, 0x00, 0x07, 0xD0, 0x03, 0xE8, 8, 0x4E, 0x20, 4, 0] := by
  decide +kernel

theorem test_channelRead_lengths :
    [0, 3].map (fun c => (sent (base .running) (.channelRead 1 [c])).map List.length) = [some 89, some 92] := by
  decide +kernel

theorem test_rivetTableSet :
    (after (base .setup) (.rivetTableSet 1 [2, 0x0D, 0x49, 0x0E, 0x74, 9])).heater.table = [⟨2, 3401, 3700, 9⟩] := by
  decide +kernel

theorem test_rivetClassSet :
    (after (base .setup) (.rivetClassSet 1 (definePayload 9 class9))).heater.classes =
      (Vector.replicate 32 none).set 9 (some class9) := by decide +kernel

/-- R102: a count above 9,999 is held. -/
theorem test_magazineSet : sent (base .setup) (.magazineSet 1 [9, 0x27, 0x10]) = some [0x43, 0, 0x27, 0x0F] := by
  decide +kernel

/-- Section 10.6: HEATER_READ's reply has LEN 185. -/
theorem test_heaterRead : (sent (base .running) (.heaterRead 1 [])).map List.length = some 183 := by decide +kernel

/-! ## Reports -/

theorem test_eventConfig :
    sent (base .running) (.eventConfig 1 [13, 0, 7]) = some [0x51, 0, 0, 7, 0] := by decide +kernel

/-- R169: the acknowledged latch is CLEAR. -/
theorem test_eventAck :
    (sent ((base .running).post .headFault 1) (.eventAck 1 [0, 0x80]),
      ((after (sending ((base .running).post .headFault 1)) (.eventAck 1 [0, 0x80])).latch .headFault).held) =
      (some [0x52, 0, 0, 0x80], none) := by decide +kernel

theorem test_eventRead : (sent (base .running) (.eventRead 1 [])).map List.length = some 165 := by decide +kernel

/-! ## Directives -/

/-- Section 7.11: ARM enters ARMING and sends the heads in service home. -/
theorem test_arm :
    ((after ((base .setup).setHead 3 (head1 .offline none)) (.arm 1)).mode,
      (after ((base .setup).setHead 3 (head1 .offline none)) (.arm 1)).outgoing) =
      (.arming, [.drive 0 .home, .drive 1 .home, .drive 2 .home]) := by decide +kernel

/-- R147: the rivet table names an undefined class: reason 1. -/
theorem test_arm_failed :
    ((after { base .setup with heater := { Heater.cold with table := [⟨2, 1, 2, 9⟩] } } (.arm 1)).mode,
      ((after { base .setup with heater := { Heater.cold with table := [⟨2, 1, 2, 9⟩] } } (.arm 1)).latch
        .armFailed).held.map (·.subject)) = (.setup, some 1) := by decide +kernel

/-- Section 2.5: START dispatches joint 1 to H0, standing at 120,000, joint 0's gate being closed. -/
theorem test_start :
    (after (((withJoints (base .armed)
        [{ joint1 1 150000 .pending with identity := { identity1 1 0 with gate := some 2 } }, joint1 2 200000 .pending]
        ).setHead 0 { head1 .idle none with position := some 120000 }).setClaim 0 (some ⟨120000, 120000⟩))
      (.start 1)).outgoing = [.drive 0 (.move 200000)] := by decide +kernel

/-- R155: an empty program is complete at once. -/
theorem test_start_empty : (after (base .armed) (.start 1)).mode = .armed := by decide +kernel

/-- Section 3.11: HOLD pauses the wait of 48,000 ms. -/
theorem test_hold :
    ((after ((base .running).setHead 1 { head1 .awaitRivet none with rivetWait := .counting 48000 }) (.hold 1)).head
      1).rivetWait = .paused 48000 := by decide +kernel

/-- Section 7.10: HOLD with a head at work enters HOLDING. -/
theorem test_hold_holding :
    (after ((base .running).setHead 2 (head1 .drill none)) (.hold 1)).mode = .holding := by decide +kernel

/-- Section 3.11: at RESUME the wait counts on from 48,000 ms. -/
theorem test_resume :
    ((after ((withJoints (base .held) [joint1 1 0 .drilled]).setHead 1
      { head1 .awaitRivet (some 0) with rivetWait := .paused 48000 }) (.resume 1)).head 1).rivetWait =
      .counting 48000 := by decide +kernel

/-- Section 7.10: DRAIN overtakes HOLD and removes the pending START. -/
theorem test_drain :
    (after { withJoints (base .holding) [joint1 1 0 .drilling] with
        control := { (base .holding).control with pendingSet := [.start] } } (.drain 1)).control =
      { (base .draining).control with pendingSet := [] } := by decide +kernel

theorem test_disarm :
    ((after ((base .armed).setPocket 2 (.ready 9 none 5 0)) (.disarm 1)).mode,
      (after ((base .armed).setPocket 2 (.ready 9 none 5 0)) (.disarm 1)).pocket 2) =
      (.setup, .ejecting 9 9000) := by decide +kernel

/-- R157, R7: ABORT locks the joint in work with its holder's phase. -/
theorem test_abort :
    (after pecking (.abort 1)).table.joints.map (fun j => (j.state, j.rejection, j.phaseAtEnd)) =
      [(.locked, some ⟨.aborted, true⟩, some .drill), (.locked, none, none)] := by decide +kernel

theorem test_recover :
    ((after (after pecking (.abort 1)) (.recover 2)).table.joints.map (·.state),
      ((after (after pecking (.abort 1)) (.recover 2)).head 2).state) = ([.rejected, .rejected], .parked) := by
  decide +kernel

/-! ## Drive events -/

theorem test_homeDone :
    ((after ((base .held).setHead 1 (head1 .homing none)) (.homeDone 1)).head 1).position = some 1000000 := by
  decide +kernel

/-- Section 2.5: H1's claim shrinks to its target. -/
theorem test_travelDone :
    (after (((base .held).setHead 1 { head1 .travel (some 5) with target := some 400000 }).setClaim 1
      (some ⟨400000, 600000⟩)) (.travelDone 1)).claim 1 = some ⟨400000, 400000⟩ := by decide +kernel

/-- Section 3.10: DRILL is entered with FEED(RE_ENTRY). -/
theorem test_clampDone :
    (after ((withJoints (base .running) [joint1 14 0 .assigned]).setHead 2
      { head1 .clamp (some 0) with active := ⟨100, 600⟩ }) (.clampDone 2)).outgoing =
      [.drive 2 (.feed .reEntry)] := by decide +kernel

theorem test_retractDone :
    ((after ((withJoints (base .running) [joint1 14 0 .drilling]).setHead 0
      { head1 .retract (some 0) with outcome := some .good }) (.retractDone 0)).head 0).rivetWait =
      .counting 60000 := by decide +kernel

/-- H0 in FEED or SET with permit 0 for joint 0 and code 9, class 9 as in section 6.8. -/
def pressing (st : HeadState) (force : Option Int) : State :=
  (((withClass (withJoints (base .running) [joint1 14 0 .setting])).setHead 0 (head1 st (some 0))).setPermit 0
      (some ⟨0, 0, 9, force⟩)).setChannel 2
    { Channel.cold with holder := some 0, lastHolder := some 0, joint := some 0 }

/-- Section 6.8: FEED_DONE orders SET(20,000). -/
theorem test_feedDone : (after (pressing .feed none) (.feedDone 0)).outgoing = [.drive 0 (.set 20000)] := by
  decide +kernel

/-- Section 4.6: a sample of 24,576 adds 50,331,648. -/
theorem test_setSample :
    ((after (pressing .set (some 20000)) (.setSample 0 5 24576)).channel 2).accumulator = 50331648 ∧
      ((after (pressing .set (some 20000)) (.setSample 0 5 24576)).channel 2).peakForce = some 24576 := by
  decide +kernel

/-- The set of section 6.8 after its samples: 40 or 43 of them by the accumulator they left. -/
def squeezed (acc : Int) : State :=
  (pressing .set (some 20000)).setChannel 2 { (pressing .set (some 20000)).channel 2 with
    accumulator := acc, peakForce := some 24576 }

/-- Section 6.8: 40 samples are GOOD. -/
theorem test_setDone_good : ((after (squeezed 2013265920) (.setDone 0)).head 0).outcome = some .good := by
  decide +kernel

/-- Section 6.8: 43 samples are SET_WORK_HIGH. -/
theorem test_setDone_high :
    ((after (squeezed 2164260864) (.setDone 0)).head 0).outcome = some (.rejected .setWorkHigh) := by decide +kernel

/-- Section 6.8: a SET_WORK_HIGH joint is REJECTED and not reworkable. -/
theorem test_releaseDone :
    (after ((withJoints (base .running) [joint1 41 0 .setting]).setHead 2
      { head1 .release (some 0) with outcome := some (.rejected .setWorkHigh) }) (.releaseDone 2)).table.joints.map
      (fun j => (j.state, j.rejection)) = [(.rejected, some ⟨.setWorkHigh, false⟩)] := by decide +kernel

/-- Section 8.6: a fault in DRILL posts HEAD_FAULT and JOINT_REJECTED, each with room in the queue; R61 posts the
rejection (its third step) before the fault (its seventh). -/
theorem test_driveFault :
    (after (sending pecking) (.driveFault 2 5)).reports.queue = [.jointRejected, .headFault] := by decide +kernel

theorem test_phaseTimeout :
    ((after ((base .running).setHead 1 { head1 .clamp none with phaseTimer := some 0 }) (.phaseTimeout 1)).head
      1).fault = some ⟨.timeout .clamp, .clamp, none, 0⟩ := by decide +kernel

theorem test_rivetWaitExpiry :
    ((after ((withJoints (base .running) [joint1 14 0 .drilled]).setHead 0
      { head1 .awaitRivet (some 0) with rivetWait := .counting 0 }) (.rivetWaitExpiry 0)).head 0).outcome =
      some (.rejected .rivetTimeout) := by decide +kernel

/-! ## Pockets -/

theorem test_loadDone :
    (after ((withClass (base .running)).setPocket 0 (.loading 9 (some 21) 8000)) (.loadDone 0)).pocket 0 =
      .heating 9 (some 21) 30000 := by decide +kernel

theorem test_heatTimeExpiry :
    (after ((withClass (base .running)).setPocket 3 (.heating 9 none 0)) (.heatTimeExpiry 3)).pocket 3 =
      .ready 9 none 60000 0 := by decide +kernel

/-- R107: at the end of the hold window the rivet is ejected and RIVET_SCRAPPED posted. -/
theorem test_holdWindowExpiry :
    ((after (sending ((base .running).setPocket 2 (.ready 9 none 0 0))) (.holdWindowExpiry 2)).outgoing,
      (after (sending ((base .running).setPocket 2 (.ready 9 none 0 0))) (.holdWindowExpiry 2)).reports.queue) =
      ([.heater (.eject 2)], [.rivetScrapped]) := by decide +kernel

/-- Section 5.9: the emptied pocket serves the order whose magazine is not empty, and 10 is passed over. -/
theorem test_ejectDone :
    (after ({ (withClass (withJoints (base .running) [joint1 20 0 .assigned, joint1 21 0 .assigned])) with
        heater := { (withClass (base .running)).heater with
          pockets := (Vector.replicate 6 (.disabled : Pocket)).set 2 (.ejecting 9 5)
          orders := [⟨.preHeat, 10, 0⟩, ⟨.preHeat, 9, 1⟩] } }) (.ejectDone 2)).heater.orders = [⟨.preHeat, 10, 0⟩] := by
  decide +kernel

theorem test_portTimerExpiry :
    (after ((base .running).setPocket 4 (.ejecting 9 0)) (.portTimerExpiry 4)).pocket 4 = .disabled := by
  decide +kernel

/-! ## The queue and time -/

/-- The command at the front is taken and the rest wait. -/
theorem test_step_front :
    step { base .running with pending := [.hold 1, .abort 2] } = exec (.hold 1) { base .running with pending := [.abort 2] } :=
  rfl

/-- An idle millisecond takes 1 off a running timer. -/
theorem test_step_idle :
    (match step ((base .running).setHead 1 { head1 .clamp none with phaseTimer := some 2 }) with
      | .next t => (t.time, (t.head 1).phaseTimer)
      | _ => (0, none)) = (1, some 1) := by decide +kernel

/-! ## Witnesses

For each statement with hypotheses, a state and operands that meet all of them, clause by clause. -/

theorem base_ready (m : Mode) : (base m).Ready := by
  cases m <;> simp [State.Ready, State.Settled, State.ControllerRests, State.LinkSettled, base, Link.cold, State.cold,
    Reports.cold]

theorem base_quiet (m : Mode) : (base m).Quiet := by
  simp [State.Quiet, State.LinkSettled, base, Link.cold, State.cold, Reports.cold]

theorem base_settled (m : Mode) : (base m).Settled := (base_ready m).1

/-- A directive that is legal in a mode and finds it not busy, or interrupts it, is obeyed at rest. -/
theorem base_obeys (m : Mode) (d : Directive) (legal : d.legal m = true)
    (free : m.busy = false ∨ d.interrupts m = true) : (base m).Obeys d :=
  ⟨base_settled m, rfl, Nat.zero_lt_succ 3, List.not_mem_nil, legal, free⟩

/-- A part in a busy mode in which directives wait. -/
def waiting (m : Mode) (ds : List Directive) : State :=
  { base m with control := { (base m).control with pendingSet := ds } }

theorem waiting_settled (m : Mode) (ds : List Directive) (busy : m.busy = true) : (waiting m ds).Settled :=
  ⟨.inl busy, (base_settled m).2⟩

theorem base_listens (m : Mode) (free : m.busy = false) : (base m).Listens :=
  ⟨base_quiet m, rfl, free, Nat.zero_lt_succ 3⟩

theorem base_noneWaits (m : Mode) : (base m).NoneWaits := fun k => by cases k <;> rfl

/-- A head's phase timer and a rivet wait timer with 2 ms left. -/
def timed : State :=
  ((base .running).setHead 1 { head1 .clamp none with phaseTimer := some 2 }).setHead 0
    { head1 .awaitRivet none with rivetWait := .counting 2 }

/-- The time left on a counting rivet wait timer. -/
def counted : WaitTimer → Option Nat
  | .counting n => some n
  | .paused _ => none
  | .stopped => none

/-- The condition that nothing is due, in a form that can be decided. -/
abbrev Undue (s : State) (n : Nat) : Prop :=
  (∀ h, ∀ t ∈ (s.head h).phaseTimer, n < t) ∧ (∀ h, ∀ t ∈ counted (s.head h).rivetWait, n < t) ∧
    (∀ p, ∀ t ∈ (s.pocket p).timer, n < t) ∧ (s.link.assembler.elapse n).gap ≤ 20

theorem nothingDue_of {s : State} {n : Nat} (left : Undue s n) : s.NothingDue n :=
  ⟨left.1, fun h t e => left.2.1 h t (by rw [e]; rfl), left.2.2⟩

theorem witness_IdleStepsElapse : timed.pending = [] ∧ timed.Settled ∧ timed.NothingDue (0 + 1) :=
  ⟨rfl, base_settled .running, nothingDue_of (by decide +kernel)⟩

/-- What a clause of the statement on a due timer supposes: `s` is at rest, `c` is the expiry a millisecond later, and
nothing else is due, as `v`, the state without that timer, shows. -/
def Expires (s v : State) (c : Instr) : Prop :=
  s.pending = [] ∧ s.Settled ∧ exec c (s.elapse 1) = .next (after (s.elapse 1) c) ∧
    (after (s.elapse 1) c).NothingDue 0 ∧ v.NothingDue 0

theorem expires_of {s v : State} {c : Instr} (rest : s.pending = []) (settled : s.Settled)
    (run : exec c (s.elapse 1) = .next (after (s.elapse 1) c)) (left : Undue (after (s.elapse 1) c) 0 ∧ Undue v 0) :
    Expires s v c := ⟨rest, settled, run, nothingDue_of left.1, nothingDue_of left.2⟩

/-- One millisecond before a clamp times out and before a rivet wait ends. -/
def lastMs (st : HeadState) (timer : Option Nat) (w : WaitTimer) : State :=
  (withJoints (base .running) [joint1 14 0 .drilled]).setHead 0
    { head1 st (some 0) with phaseTimer := timer, rivetWait := w }

theorem witness_DueTimerTaken_heads :
    Expires (lastMs .clamp (some 1) .stopped) ((lastMs .clamp none .stopped).elapse 1) (.phaseTimeout 0) ∧
      (((lastMs .clamp (some 1) .stopped).elapse 1).head 0).phaseTimer = some 0 ∧
      Expires (lastMs .awaitRivet none (.counting 1)) ((lastMs .awaitRivet none .stopped).elapse 1)
        (.rivetWaitExpiry 0) ∧
      (((lastMs .awaitRivet none (.counting 1)).elapse 1).head 0).rivetWait = .counting 0 := by
  (with_reducible and_intros) <;> first
    | exact expires_of rfl (base_settled .running) rfl (by decide +kernel)
    | decide +kernel

/-- One millisecond before the timer of pocket 5 ends, its class defined. -/
def lastPocketMs (p : Pocket) : State := (withClass (base .running)).setPocket 5 p

theorem witness_DueTimerTaken_pockets :
    Expires (lastPocketMs (.loading 9 none 1)) ((lastPocketMs .empty).elapse 1) (.portTimerExpiry 5) ∧
      ((lastPocketMs (.loading 9 none 1)).elapse 1).pocket 5 = .loading 9 none 0 ∧
      Expires (lastPocketMs (.ejecting 9 1)) ((lastPocketMs .empty).elapse 1) (.portTimerExpiry 5) ∧
      ((lastPocketMs (.ejecting 9 1)).elapse 1).pocket 5 = .ejecting 9 0 ∧
      Expires (lastPocketMs (.heating 9 none 1)) ((lastPocketMs .empty).elapse 1) (.heatTimeExpiry 5) ∧
      ((lastPocketMs (.heating 9 none 1)).elapse 1).pocket 5 = .heating 9 none 0 ∧
      Expires (lastPocketMs (.ready 9 none 1 7)) ((lastPocketMs .empty).elapse 1) (.holdWindowExpiry 5) ∧
      ((lastPocketMs (.ready 9 none 1 7)).elapse 1).pocket 5 = .ready 9 none 0 7 := by
  (with_reducible and_intros) <;> first
    | exact expires_of rfl (base_settled .running) rfl (by decide +kernel)
    | decide +kernel

/-- The assembler in each of its other states. -/
def assembling (a : Assembler) : State := { base .running with link := { (base .running).link with assembler := a } }

theorem witness_DueTimerTaken_gap :
    Expires (assembling (.body 2 [0x14] 20)) ((base .running).elapse 1) .frameGapTimeout ∧
      ((assembling (.body 2 [0x14] 20)).elapse 1).link.assembler.gap = 21 :=
  ⟨expires_of rfl (base_settled .running) rfl (by decide +kernel), by decide +kernel⟩

theorem witness_RequestsRefused_mode : (base .aborted).Ready ∧ RequestKind.executedIn .jointLoad Mode.aborted = false :=
  ⟨base_ready _, rfl⟩

theorem witness_RequestsRefused_length :
    (base .aborted).Ready ∧ RequestKind.executedIn .jointRead Mode.aborted = true ∧
      RequestKind.fixedLength .jointRead = some 2 ∧ ([0] : List Byte).length ≠ 2 :=
  ⟨base_ready _, rfl, rfl, by decide⟩

theorem witness_RequestsRefused_other :
    (base .setup).Ready ∧ ((base .setup).cleared.answer [0, 0] .jointRead).status ≠ .ok :=
  ⟨base_ready _, by decide +kernel⟩

/-- Two joints, the second of the greatest id. -/
def twoJoints (m : Mode) : State := withJoints (base m) [joint1 1 100 .complete, joint1 65535 200 .pending]

theorem witness_JointReadsReply :
    (twoJoints .running).Ready ∧ (twoJoints .running).joint? 1 = some (joint1 65535 200 .pending) ∧
      (twoJoints .running).joint? 65535 = none ∧
      (∀ (i' : Nat) (j' : Joint), i' < 1 → (twoJoints .running).joint? i' = some j' → j'.identity.id ≠ 65535) ∧
      ∀ j ∈ (twoJoints .running).table.joints, j.identity.id ≠ 65534 := by
  refine ⟨base_ready .running, rfl, rfl, ?_, by decide +kernel⟩
  intro i' j' lt e
  obtain rfl : i' = 0 := by omega
  cases Option.some.inj (show some (joint1 1 100 .complete) = some j' from e)
  decide

theorem witness_StateReadsReply : (base .aborted).Ready ∧ 4 ≤ 4 ∧ 4 < 256 ∧ 4 ≤ 255 ∧ 255 < 256 := by
  (with_reducible and_intros) <;> first | exact base_ready _ | decide +kernel

/-- A joint with every field present, at the ends of their ranges. -/
def fullJoint : Joint :=
  { joint1 65535 65535 .rejected with
    corrected := some 1048575, head := some 3, phaseAtEnd := some .set, rejection := some ⟨.setWorkHigh, false⟩
    reworks := 3, pocket := some 5
    result := { entry := some 0, exit := some 20000, grip := some 20000, layers := some 8
                boundaries := some [1, 2, 3, 4, 5, 6, 65535], peckCount := some 65534, code := some 31
                setWork := some (-32768), peakForce := some 32767, saturated := true, overflow := true } }

theorem witness_ReplyContents :
    65535 < 65536 ∧ fullJoint.identity.Valid ∧ (∀ p ∈ fullJoint.corrected, p < 4294967295) ∧ fullJoint.reworks ≤ 3 ∧
      (∀ d ∈ fullJoint.result.entry, d < 65535) ∧ (∀ d ∈ fullJoint.result.exit, d < 65535) ∧
      (∀ d ∈ fullJoint.result.grip, d < 65535) ∧ (∀ n ∈ fullJoint.result.layers, n ≤ 8) ∧
      (∀ n ∈ fullJoint.result.peckCount, n < 65535) ∧
      (∀ l ∈ fullJoint.result.boundaries, l.length ≤ 7 ∧ ∀ d ∈ l, d < 65536) ∧
      (∀ w ∈ fullJoint.result.setWork, InSixteen w) ∧ (∀ w ∈ fullJoint.result.peakForce, InSixteen w) := by
  simp only [InSixteen, JointIdentity.Valid]
  decide +kernel

/-- A head record with every field at the end of what its place can carry. -/
def fullHead : Head :=
  { Head.cold with
    state := .drill, subPhase := some .cut, held := some 65534, position := some 4294967294
    target := some 4294967294, active := ⟨65534, 65535⟩, buffered := some ⟨65534, 65535⟩, deepest := 65535
    peckStart := 65535, peckCounter := 65535, phaseTimer := some 65534, rivetWait := .paused 6553400
    fault := some ⟨.timeout .clamp, .clamp, some 65534, 4294967295⟩ }

/-- A part whose head 2 is that head, whose station record counts to its ends and whose pockets' timers stand at theirs. -/
def brimful : State :=
  let s := ((((base .running).setHead 2 fullHead).setClaim 2 (some ⟨0, 4294967294⟩)).setPocket 0
    (.loading 9 (some 65534) 65534)).setPocket 1 (.heating 9 none 6553400)
  { s with
    signature := { s.signature with drillQueue := [0, 3] }
    heater := { s.heater with orders := List.replicate 8 ⟨.demand, 31, 65535⟩ }
    arbiter := { s.arbiter with queue := [0, 1] }
    link := { s.link with frameErrors := 65535, overruns := 65535 } }

theorem witness_ReplyContents_state :
    brimful.table.joints.length < 65536 ∧ brimful.link.requests.length < 256 ∧ brimful.link.frameErrors < 65536 ∧
      brimful.link.overruns < 65536 ∧ (∀ c ∈ brimful.claim 2, c.lo < 4294967295 ∧ c.hi < 4294967295) ∧
      brimful.signature.drillQueue.length ≤ 2 ∧ brimful.arbiter.queue.length ≤ 4 ∧
      (∀ p, ∀ n ∈ (brimful.pocket p).timer, n < 65535 ∨ n ≤ 6553400 ∧ (brimful.pocket p).portTimer = none) ∧
      (∀ p, ∀ i ∈ (brimful.pocket p).owner?, i < 65535) ∧ brimful.heater.orders.length ≤ 8 ∧
      (∀ o ∈ brimful.heater.orders, o.joint < 65536) ∧ ∀ c : RivetCode, brimful.heater.magazines[c] < 65536 := by
  decide +kernel

theorem witness_ReplyContents_head :
    brimful.head 2 = fullHead ∧ (∀ i ∈ fullHead.held, i < 65535) ∧ (∀ p ∈ fullHead.position, p < 4294967295) ∧
      (∀ p ∈ fullHead.target, p < 4294967295) ∧ fullHead.active.a < 65536 ∧ fullHead.active.b < 65536 ∧
      (∀ q ∈ fullHead.buffered, q.a < 65536 ∧ q.b < 65536) ∧ fullHead.deepest < 65536 ∧ fullHead.peckStart < 65536 ∧
      fullHead.peckCounter < 65536 ∧ (∀ n ∈ fullHead.phaseTimer, n < 65535) ∧
      (∀ n, fullHead.rivetWait = .counting n ∨ fullHead.rivetWait = .paused n → n ≤ 6553400) ∧
      ∀ f ∈ fullHead.fault, ∀ i ∈ f.joint, i < 65535 := by
  (with_reducible and_intros) <;> first
    | decide +kernel
    | exact fun n e => e.elim (fun e => WaitTimer.noConfusion e) fun e => Nat.le_of_eq (WaitTimer.paused.inj e).symm

/-- A channel record with every field present, at the ends of their ranges. -/
def fullChannel : Channel :=
  { Channel.cold with
    holder := some 2, lastHolder := some 2, joint := some 65534, ring := Vector.replicate 16 (-32768), writeIndex := 15
    sampleCount := 65535, accumulator := -34359738368, mv := true, ev := true, machine := .dip
    lastOutput := some 32767, lastDepth := some (-15), peak := some 32767, valley := some (-32768)
    valleyDepth := some 20000, runCount := 63, runStart := some 20000, entry := some 0, layers := some 8
    boundaries := [1, 2, 3, 4, 5, 6, 7], exit := some 20000, ending := some .cutShort, peakForce := some 32767
    lastStroke := some 20000, setWork := some (-32768) }

theorem witness_ReplyContents_channel :
    fullChannel.InRange ∧ fullChannel.Reaches ∧ ∀ i ∈ fullChannel.joint, i < 65535 := by
  simp only [Channel.InRange, Channel.Reaches, InAccumulator, InSixteen, InReach]
  decide +kernel

/-- A part with two reports queued behind the frame on the line. -/
def twoReports : State := ((sending (base .running)).post .jointRejected 30).post .headFault 1

theorem witness_ReplyContents_events :
    (∀ k, ∀ r ∈ (twoReports.latch k).held, r.subject < 65536 ∧ r.count < 256) ∧
      twoReports.reports.queue.length ≤ 8 ∧ twoReports.reports.queue.Nodup := by
  refine ⟨fun k => ?_, by decide +kernel⟩
  cases k <;> decide +kernel

/-- The least settings R184 allows. -/
def leastStation : StationSettings :=
  { railLength := 10000, clearance := 10000, homeTime := 1, travelTime := 1, clampTime := 1, drillTime := 1,
    retractTime := 1, feedTime := 1, setTime := 1, releaseTime := 1, loadTime := 1000, ejectTime := 1000,
    rivetWaitLimit := 10 }

/-- The settings of a class at the ends of their ranges. -/
def endClass : RivetClass :=
  { heatTime := 2500, holdWindow := 1200, forceTarget := 32767, workMin := -32768, workMax := 32767 }

theorem filter4_inRange : filter4.InRange := by
  simp only [FilterSettings.InRange]
  decide +kernel

theorem endClass_inRange : endClass.InRange := by
  simp only [RivetClass.InRange]
  decide +kernel

theorem witness_PayloadsRoundTrip :
    (identity1 65535 65535).Valid ∧ leastStation.valid = true ∧ filter4.InRange ∧
      RivetEntry.Valid ⟨3, 1, 8000, 31⟩ ∧ endClass.InRange := by
  refine ⟨?_, by decide, filter4_inRange, ?_, endClass_inRange⟩
  · simp only [JointIdentity.Valid]
    decide +kernel
  · simp only [RivetEntry.Valid]
    decide

theorem witness_PayloadsRoundTrip_decoded :
    (identity1 65535 65535).bytes.length = 12 ∧
      loadRecord (identity1 65535 65535).bytes = some (identity1 65535 65535) ∧
      (RivetEntry.bytes ⟨3, 1, 8000, 31⟩).length = 6 ∧
      entryOf (RivetEntry.bytes ⟨3, 1, 8000, 31⟩) = some ⟨3, 1, 8000, 31⟩ := by decide +kernel

/-- A table of `n` joints of one id: what JOINT_LOAD finds nearly or wholly full. -/
def crowded (n : Nat) : State := withJoints (base .setup) (List.replicate n (joint1 2 0 .complete))

theorem crowded_length (n : Nat) : (crowded n).table.joints.length = n := List.length_replicate

theorem crowded_ids (n : Nat) : ∀ d ∈ [identity1 1 0], ∀ j ∈ (crowded n).table.joints, j.identity.id ≠ d.id := by
  intro d dm j jm
  rw [List.eq_of_mem_replicate jm, List.mem_singleton.mp dm]
  decide

theorem identity1_valid : (identity1 1 0).Valid := by
  simp only [JointIdentity.Valid]
  decide +kernel

theorem witness_JointLoadTaken :
    (crowded 1023).Ready ∧ (crowded 1023).mode = .setup ∧ 1 ≤ [identity1 1 0].length ∧ [identity1 1 0].length ≤ 19 ∧
      (∀ d ∈ [identity1 1 0], d.Valid) ∧ ([identity1 1 0].map (·.id)).Nodup ∧
      (∀ d ∈ [identity1 1 0], ∀ j ∈ (crowded 1023).table.joints, j.identity.id ≠ d.id) ∧
      (crowded 1023).table.joints.length + [identity1 1 0].length ≤ 1024 :=
  ⟨base_ready .setup, rfl, by decide, by decide, by simpa using identity1_valid, by decide, crowded_ids 1023,
    by rw [crowded_length]; decide⟩

theorem witness_JointLoadTaken_full :
    (crowded 1024).Ready ∧ (∀ d ∈ [identity1 1 0], ∀ j ∈ (crowded 1024).table.joints, j.identity.id ≠ d.id) ∧
      1024 < (crowded 1024).table.joints.length + [identity1 1 0].length :=
  ⟨base_ready .setup, crowded_ids 1024, by rw [crowded_length]; decide⟩

theorem witness_JointLoadTaken_lengths :
    (base .setup).Ready ∧ (List.replicate 13 (0 : Byte)).length % 12 ≠ 0 ∧
      228 < (List.replicate 240 (0 : Byte)).length :=
  ⟨base_ready _, by decide +kernel, by decide +kernel⟩

theorem witness_JointLoadTaken_bad_record :
    (base .setup).Ready ∧ loadRecord (List.replicate 12 0) = none ∧
      12 * ([] : List JointIdentity).length + 12 + ([] : List Byte).length ≤ 228 :=
  ⟨base_ready _, by decide +kernel, by decide⟩

theorem witness_JointLoadTaken_repeated_id :
    (∀ d ∈ [identity1 1 0], d.Valid) ∧ (identity1 1 5).bytes.length = 12 ∧
      (∀ d : JointIdentity, loadRecord (identity1 1 5).bytes = some d →
        (∃ j ∈ (base .setup).table.joints, j.identity.id = d.id) ∨ ∃ e ∈ [identity1 1 0], e.id = d.id) := by
  refine ⟨by simpa using identity1_valid, by decide +kernel, fun d e => .inr ⟨_, List.mem_singleton.mpr rfl, ?_⟩⟩
  have : loadRecord (identity1 1 5).bytes = some (identity1 1 5) := by decide +kernel
  rw [this] at e
  cases e
  rfl

theorem witness_JointSkipTaken :
    (twoJoints .armed).Ready ∧ (twoJoints .armed).mode ≠ .aborted ∧ (twoJoints .armed).mode ≠ .running ∧
      (twoJoints .armed).mode ≠ .draining ∧ (twoJoints .armed).joint? 1 = some (joint1 65535 200 .pending) ∧
      (twoJoints .armed).joint? 0 = some (joint1 1 100 .complete) ∧ (twoJoints .armed).joint? 65535 = none := by
  (with_reducible and_intros) <;> first | exact base_ready .armed | decide +kernel

/-- In DRAINING: a skip beside a joint in work, and one that finds none. -/
theorem witness_JointSkipTaken_draining :
    (withJoints (base .draining) [joint1 1 0 .pending, joint1 2 0 .drilling]).Ready ∧
      (withJoints (base .draining) [joint1 1 0 .pending, joint1 2 0 .drilling]).mode = .draining ∧
      (withJoints (base .draining) [joint1 1 0 .pending, joint1 2 0 .drilling]).control.pendingSet = [] ∧
      (withJoints (base .draining) [joint1 1 0 .pending, joint1 2 0 .drilling]).joint? 0 =
        some (joint1 1 0 .pending) ∧
      (∃ y ∈ [joint1 1 0 .pending, joint1 2 0 .drilling], y.state.inWork = true) ∧
      (twoJoints .draining).Ready ∧ ∀ y ∈ (twoJoints .draining).table.joints, ¬ y.state.inWork = true := by
  (with_reducible and_intros) <;> first | exact base_ready .draining | decide +kernel

/-- A joint of pass 1 that is PENDING. -/
def later1 : Joint := { joint1 3 300 .pending with identity := { identity1 3 300 with pass := 1 } }

/-- A part whose pass 0 is blocked by joint 1, the first REJECTED key joint. -/
def blocked1 : State :=
  withJoints (base .running) [joint1 1 0 .complete,
    { joint1 2 0 .rejected with identity := { identity1 2 0 with key := true } }, later1]

/-- The pass rises from 0 to 1, stays, falls and becomes absent; the blocked condition holds, and does not. -/
theorem witness_JointSkipTaken_reports :
    (withJoints (base .running) [later1]).table.currentPass = some 1 ∧
      (withJoints (base .running) [later1]).mode = .running ∧ (0 : Pass) < 1 ∧ (1 : Pass) ≤ 1 ∧ (1 : Pass) ≤ 2 ∧
      (twoJoints .held).mode ≠ .running ∧ (base .running).table.currentPass = none ∧
      blocked1.blockedBy = some 1 ∧ (twoJoints .running).blockedBy = none := by decide +kernel

/-- The table after joint 0 of a table has been skipped. -/
def skipped (l : List Joint) : Option Pass :=
  match l with
  | [] => none
  | j :: rest => currentPassOf ({ j with state := .skipped, rejection := none } :: rest)

/-- In RUNNING: a skip that keeps the pass, one that ends the program, and one that moves on to pass 1. -/
theorem witness_JointSkipTaken_running :
    (twoJoints .running).Ready ∧ (twoJoints .running).mode = .running ∧
      skipped [joint1 1 0 .pending, joint1 2 0 .pending] = currentPassOf [joint1 1 0 .pending, joint1 2 0 .pending] ∧
      skipped [joint1 1 0 .pending] = none ∧ currentPassOf [joint1 1 0 .pending] ≠ none ∧
      skipped [joint1 1 0 .pending, later1] = some 1 ∧ currentPassOf [joint1 1 0 .pending, later1] ≠ some 1 := by
  (with_reducible and_intros) <;> first | exact base_ready .running | decide +kernel

/-- A REJECTED joint in ARMED whose position is absent, at L or just beyond it. -/
def offRail (reworks offset : Nat) : State :=
  withJoints (base .armed)
    [{ rejected1 reworks with corrected := none, identity := { identity1 1 offset with zone := 15 } }]

theorem witness_TableAndReworkTaken_rework :
    (offRail 2 16960).Ready ∧ (offRail 2 16960).mode = .armed ∧
      ((offRail 2 16960).joint? 0).map (fun j => (j.state, j.rejection, j.reworks, j.corrected)) =
        some (.rejected, some ⟨.layerMismatch, true⟩, 2, none) ∧
      (1000000 : Int) = (15 * 65536 + 16960 : Nat) + (base .armed).table.datum[(15 : Fin 16)] ∧
      1000000 ≤ (base .armed).station.railLength ∧
      ((base .armed).station.railLength : Int) < (15 * 65536 + 16961 : Nat) + (base .armed).table.datum[(15 : Fin 16)] ∧
      (withJoints (base .setup) [rejected1 3]).Ready ∧ (joint1 1 0 .pending).state ≠ .rejected := by
  (with_reducible and_intros) <;> first
    | exact base_ready .armed
    | exact base_ready .setup
    | decide +kernel

theorem witness_TableAndReworkTaken_table :
    (base .setup).Ready ∧ (base .setup).mode = .setup ∧ (-2000 : Int) ≤ -2000 ∧ InSixteen (-2001) ∧
      (-2001 : Int) < -2000 ∧ (2000 : Int) < 2001 ∧ 16 ≤ 16 ∧ 255 < 256 := by
  simp only [InSixteen]
  (with_reducible and_intros) <;> first | exact base_ready _ | decide

theorem witness_StationSetTakes :
    (base .setup).Ready ∧ (base .setup).mode = .setup ∧ leastStation.valid = true ∧
      leastStation.railLength < 4294967296 ∧ leastStation.clearance < 4294967296 ∧
      { leastStation with clearance := 10001 }.valid = false ∧ { leastStation with homeTime := 0 }.valid = false := by
  (with_reducible and_intros) <;> first | exact base_ready _ | decide +kernel

theorem witness_FlagsAndRestartTaken_flags :
    (base .running).Ready ∧ (15 : Nat) < 16 ∧
      (∀ k : Fin 4, (Vector.replicate 4 true)[k] =
        if (15 : Nat).testBit k then (15 : Nat).testBit k else (base .running).dispatcher.flags[k]) ∧
      (base .running).mode = .running ∧ Vector.replicate 4 true ≠ (base .running).dispatcher.flags ∧
      (base .setup).mode ≠ .running ∧ 16 ≤ 16 := by
  (with_reducible and_intros) <;> first | exact base_ready _ | decide +kernel

/-- A part at rest in ABORTED with pocket 5 still EJECTING. -/
def ejecting5 : State := (base .aborted).setPocket 5 (.ejecting 9 1)

theorem witness_FlagsAndRestartTaken_restart :
    (base .setup).Ready ∧ (base .setup).mode = .setup ∧
      (∀ p c t, (base .setup).pocket p ≠ .ejecting c t) ∧ ejecting5.Ready ∧ ejecting5.mode = .aborted ∧
      ejecting5.pocket 5 = .ejecting 9 1 := by
  refine ⟨base_ready _, rfl, fun p c t e => ?_, base_ready .aborted, rfl, by decide +kernel⟩
  have : ∀ p, (base .setup).pocket p = .empty := by decide +kernel
  rw [this p] at e
  cases e

theorem witness_HeadServiceTaken :
    (base .armed).Ready ∧ (base .armed).mode ≠ .arming ∧ (base .armed).mode ≠ .aborted ∧
      (base .armed).mode ≠ .setup ∧ ((outOfWork .offline).head 1).state = .offline ∧
      ((outOfWork .fault).head 1).state = .fault ∧ ((outOfWork .fault).head 0).state ≠ .fault ∧
      (outOfWork .fault).Ready := by
  (with_reducible and_intros) <;> first
    | exact base_ready _
    | exact base_ready .armed
    | decide +kernel

/-- HOLDING, with head 1 IDLE and head 0 in a state. -/
def holdingWith (st : HeadState) : State :=
  ((base .holding).setHead 1 (head1 .idle none)).setHead 0 (head1 st none)

theorem witness_HeadServiceTaken_disable :
    (holdingWith .drill).Ready ∧ (holdingWith .drill).control.pendingSet = [] ∧
      ((holdingWith .drill).head 1).state = .idle ∧ (holdingWith .drill).mode = .holding ∧
      ((holdingWith .drill).head 0).state.atRest = false ∧
      (∀ g, g ≠ 1 → ((holdingWith .idle).head g).state.atRest = true) ∧
      ((holdingWith .drill).head 0).state ≠ .idle ∧ ((holdingWith .drill).head 0).state ≠ .parked ∧
      ((holdingWith .drill).head 0).state ≠ .fault := by
  (with_reducible and_intros) <;> first | exact base_ready .holding | decide +kernel

theorem witness_PeckSetTakes :
    pecking.Ready ∧ (1999 : Nat) < 2000 ∧ 0 < 2000 ∧ 2000 ≤ 2000 ∧ pecking.mode ≠ .aborted ∧
      (pecking.head 2).state = .drill ∧ (pecking.head 1).state ≠ .drill ∧ 2000 < 2001 ∧ 4 ≤ 4 ∧ (base .aborted).Ready := by
  (with_reducible and_intros) <;> first
    | exact base_ready .running
    | exact base_ready _
    | decide +kernel

theorem witness_FilterSetTakes :
    (base .armed).Ready ∧ (base .armed).mode = .armed ∧ filter4.InRange ∧ (0 : Byte).toNat = 0 ∧
      16 < (17 : Byte).toNat ∧ 1 ≤ (16 : Byte).toNat ∧ (16 : Byte).toNat ≤ 16 ∧
      (List.replicate 44 (0 : Byte)).length ≠ 13 + 2 * (16 : Byte).toNat ∧
      (List.replicate 15 (0 : Byte)).length = 13 + 2 * (1 : Byte).toNat ∧
      (filterOf 1 (1 :: List.replicate 15 0)).valid = false := by
  (with_reducible and_intros) <;> first
    | exact base_ready _
    | exact filter4_inRange
    | decide +kernel

theorem witness_RivetDataTaken_table :
    (withClass (base .armed)).Ready ∧ (withClass (base .armed)).mode = .armed ∧
      (∀ e ∈ List.replicate 32 (⟨2, 3401, 3700, 9⟩ : RivetEntry), (withClass (base .armed)).heater.classes[e.code] ≠ none) ∧
      (∀ e ∈ List.replicate 32 (⟨2, 3401, 3700, 9⟩ : RivetEntry), e.Valid) ∧
      (List.replicate 32 (⟨2, 3401, 3700, 9⟩ : RivetEntry)).length ≤ 32 ∧
      (withClass (base .armed)).heater.classes[(10 : RivetCode)] = none ∧ entryOf (List.replicate 6 0) = none ∧
      192 < (List.replicate 198 (0 : Byte)).length := by
  simp only [RivetEntry.Valid]
  (with_reducible and_intros) <;> first | exact base_ready .armed | decide +kernel

theorem witness_RivetDataTaken_class :
    (base .armed).Ready ∧ (base .setup).Ready ∧ endClass.InRange ∧ (List.replicate 10 (0 : Byte)).length = 10 ∧
      InSixteen endClass.workMin ∧ endClass.workMax < endClass.workMax + 1 ∧
      { endClass with heatTime := 49 }.heatTime < 50 ∧ 32 ≤ 32 ∧ 2 ≤ 2 := by
  simp only [InSixteen]
  (with_reducible and_intros) <;> first
    | exact base_ready _
    | exact endClass_inRange
    | decide +kernel

theorem witness_RivetDataTaken_magazine :
    (base .armed).Ready ∧ (base .armed).mode ≠ .aborted ∧ (base .armed).heater.orders = [] ∧ 65535 < 65536 ∧
      32 ≤ 32 ∧ 255 < 256 := by
  (with_reducible and_intros) <;> first | exact base_ready _ | decide +kernel

/-- A part whose latch of JOINT_REJECTED is HELD_BACK and disabled, with another frame on the line. -/
def heldBack13 : State :=
  (sending (base .running)).setLatch .jointRejected ⟨false, 3, some ⟨.heldBack, 30, 0, .running, 1⟩⟩

theorem heldBack13_ready : heldBack13.Ready := by
  simp only [State.Ready, State.Settled, State.ControllerRests, State.LinkSettled]
  decide +kernel

theorem witness_EventSettingsTaken :
    heldBack13.Ready ∧ heldBack13.reports.queue.length < 8 ∧
      (heldBack13.latch .jointRejected).held = some ⟨.heldBack, 30, 0, .running, 1⟩ ∧
      16383 < 16384 ∧ 16384 ≤ 16384 ∧ 14 ≤ 14 ∧ 2 ≤ 2 ∧ 8 ≤ 8 := by
  (with_reducible and_intros) <;> first | exact heldBack13_ready | decide +kernel

theorem witness_EventSettingsTaken_mask : EventKind.all.Nodup ∧ EventKind.jointRejected ∈ EventKind.all := by
  decide +kernel

/-- An accepted restart, its reply on the line. -/
def restarting : State := after (base .aborted) (.restart 7 [])

theorem witness_WarmRestartTaken :
    restarting.control.restartMark = true ∧ restarting.link.sending = some ⟨0x80, 7, [0x15, 0x00]⟩ := by
  decide +kernel

theorem witness_FrameRoundTrip :
    (base .running).link.assembler = .hunting ∧ (base .running).Ready ∧
      (List.replicate 240 (0 : Byte)).length ≤ 240 ∧ (base .running).link.fifo.length < 4 ∧
      (∀ k : RequestKind, k.code ≠ 0xFF) ∧ (∀ d : Directive, d.kindCode ≠ (0xFF : Byte).toNat) ∧
      List.replicate 240 (0 : Byte) ≠ [] := by
  (with_reducible and_intros) <;> first
    | exact base_ready _
    | decide +kernel
    | (intro k; cases k <;> decide)

theorem witness_AssemblerTakesBytes :
    (base .running).link.assembler = .hunting ∧ crc16 (2 :: [0x14, 0x07]) ≠ (0x1D : Byte) ++ (0xAD : Byte) ∧
      ([0x14, 0x07] : List Byte).length = (2 : Byte).toNat ∧ (1 : Byte).toNat < 2 ∧ 242 < (243 : Byte).toNat ∧
      (∀ b ∈ ([0x14] : List Byte), b ≠ 0x5A) := by
  (with_reducible and_intros) <;> decide +kernel

theorem witness_AssemblerTakesBytes_states :
    (assembling (.length 20)).Settled ∧ (assembling (.body 242 [] 19)).Settled ∧
      (assembling (.check 2 [0x14, 0x07] none 0)).Settled ∧ (assembling (.length 20)).link.assembler ≠ .hunting ∧
      20 ≤ (assembling (.length 20)).link.assembler.gap ∧ (assembling (.body 242 [] 19)).link.assembler ≠ .hunting ∧
      (assembling (.body 242 [] 19)).link.assembler.gap < 20 ∧ 2 ≤ (242 : Byte).toNat ∧ (242 : Byte).toNat ≤ 242 := by
  (with_reducible and_intros) <;> first | exact base_settled .running | decide +kernel

theorem witness_AssemblerTakesBytes_check :
    (⟨0x01, 0, List.replicate 240 0⟩ : Frame).payload.length ≤ 240 := by decide +kernel

/-- R176: a frame's check, over the frame and the check itself, is 0. -/
theorem test_crc_residue : crc16 ((Frame.bytes ⟨0x14, 7, []⟩).drop 1) = 0 := by decide +kernel

/-- The part of section 9.9 with a full immediate reply FIFO. -/
def fullFifo : State :=
  { burst with link := { burst.link with fifo := List.replicate 4 ⟨0x64, 1, .accepted, []⟩ } }

theorem witness_HoldingPlacesKept :
    burst.Settled ∧ burst.link.requests.length = 4 ∧ burst.link.fifo.length < 4 ∧ burst.link.slot ≠ none ∧
      fullFifo.Settled ∧ fullFifo.link.fifo.length = 4 ∧ fullFifo.link.requests.length = 4 ∧
      { burst with link := { burst.link with requests := [] } }.Settled ∧ 1 ≤ 1 ∧ 3 ≤ 3 ∧ 4 ≤ 4 := by
  simp only [State.Settled, State.ControllerRests, State.LinkSettled]
  decide +kernel

/-- What `burst` leaves once its reply goes out: the requests that waited stand aside while the first is executed. -/
def executing (g : Frame) (rest : List Frame) (seen : List Frame) : State × State :=
  ({ burst with link := { burst.link with requests := g :: rest } },
    { burst.cleared with link := { burst.link with
      slot := none, sending := some (Reply.frame ⟨0x44, 1, .ok, []⟩), requests := seen } })

theorem witness_TransmitterChooses_replies :
    fullFifo.Settled ∧ fullFifo.control.restartMark = false ∧ fullFifo.link.sending = some ⟨0x80, 9, [0x14, 0]⟩ ∧
      burst.link.fifo = [] ∧ burst.link.slot = some ⟨0x44, 1, .ok, []⟩ ∧
      { burst with link := { burst.link with requests := [] } }.Settled ∧
      (sending (base .running)).Settled ∧ (sending (base .running)).reports.queue = [] := by
  simp only [State.Settled, State.ControllerRests, State.LinkSettled]
  decide +kernel

/-- HEATER_READ ahead of other requests, STATUS_READ alone, and STATUS_READ ahead of another request. -/
theorem witness_TransmitterChooses_executor :
    burst.Settled ∧ burst.link.requests = ⟨0x44, 1, []⟩ :: [⟨0x21, 2, [0]⟩, ⟨0x33, 3, [0]⟩, ⟨0x25, 4, [0, 0, 0, 0, 0]⟩] ∧
      RequestKind.code .heaterRead = 0x44 ∧ RequestKind.heaterRead ≠ .statusRead ∧
      exec (.heaterRead 1 []) (executing ⟨0x44, 1, []⟩ [] []).2 =
        .next (after (executing ⟨0x44, 1, []⟩ [] []).2 (.heaterRead 1 [])) ∧
      (executing ⟨0x14, 1, []⟩ [] []).1.Settled ∧ RequestKind.code .statusRead = 0x14 ∧
      (executing ⟨0x14, 1, []⟩ [⟨0x21, 2, [0]⟩] [⟨0x21, 2, [0]⟩]).1.Settled := by
  simp only [State.Settled, State.ControllerRests, State.LinkSettled]
  (with_reducible and_intros) <;> first | decide +kernel | rfl

theorem witness_TransmitterChooses_report :
    twoReports.Settled ∧ twoReports.link.fifo = [] ∧ twoReports.link.slot = none ∧
      .headFault ∈ twoReports.reports.queue ∧
      (twoReports.latch .headFault).held = some ⟨.queued, 1, 0, .running, 1⟩ ∧
      ∀ k' ∈ twoReports.reports.queue, k' ≠ .headFault → twoReports.RanksBefore .headFault k' := by
  simp only [State.Settled, State.ControllerRests, State.LinkSettled, State.RanksBefore]
  decide +kernel

/-- The transmitter falls idle with something to send, or with nothing. -/
theorem witness_TransmitterChooses_idle :
    { fullFifo with link := { fullFifo.link with sending := none } }.link.sending = none ∧
      fullFifo.link.fifo = ⟨0x64, 1, .accepted, []⟩ :: List.replicate 3 ⟨0x64, 1, .accepted, []⟩ ∧
      { burst with link := { burst.link with sending := none } }.link.fifo = [] ∧
      burst.link.slot = some ⟨0x44, 1, .ok, []⟩ ∧ fullFifo.link.sending ≠ none ∧
      { twoReports with link := { twoReports.link with sending := none } }.link.slot = none ∧
      (base .running).link.sending = none ∧ (base .running).reports.queue = [] := by decide +kernel

/-- Two enabled kinds held back beside an empty report queue. -/
def heldBackTwo : State :=
  ((base .running).setLatch .headFault ⟨true, 5, some ⟨.heldBack, 1, 0, .running, 1⟩⟩).setLatch .jointRejected
    ⟨true, 5, some ⟨.heldBack, 30, 4294967295, .running, 1⟩⟩

theorem witness_TransmitterChooses_fill :
    heldBackTwo.reports.queue.length < 8 ∧ (heldBackTwo.latch .jointRejected).enabled = true ∧
      (heldBackTwo.latch .jointRejected).held = some ⟨.heldBack, 30, 4294967295, .running, 1⟩ ∧
      (∀ k', (heldBackTwo.latch k').enabled = true →
        (∃ r', (heldBackTwo.latch k').held = some r' ∧ r'.place = .heldBack) → k' ≠ .jointRejected →
        heldBackTwo.RanksBefore .jointRejected k') ∧
      (base .running).NoneWaits ∧
      8 ≤ { base .running with reports := { (base .running).reports with
        queue := List.replicate 8 .jointRejected } }.reports.queue.length := by
  have ranks : ∀ k', k' = EventKind.jointRejected ∨ heldBackTwo.RanksBefore .jointRejected k' ∨
      (heldBackTwo.latch k').held = none := by
    simp only [State.RanksBefore]
    intro k'
    cases k' <;> decide +kernel
  refine ⟨by decide +kernel, by decide +kernel, by decide +kernel, ?_, base_noneWaits _, by decide +kernel⟩
  rintro k' - ⟨r', e, -⟩ ne
  rcases ranks k' with h | h | h
  · exact absurd h ne
  · exact h
  · rw [h] at e; cases e

theorem witness_OccurrencePosted :
    ((base .running).latch .headFault).held = none ∧ ((base .running).latch .headFault).enabled = true ∧
      (base .running).reports.queue.length < 8 ∧
      { base .running with reports := { (base .running).reports with
        queue := List.replicate 8 .jointRejected } }.reports.queue.length = 8 ∧
      (twoReports.latch .headFault).held = some ⟨.queued, 1, 0, .running, 1⟩ := by decide +kernel

/-- HOLDING with a START that waits. -/
def startWaits : State := waiting .holding [.start]

theorem witness_DirectivesWait :
    startWaits.Settled ∧ startWaits.link.fifo.length < 4 ∧ .start ∈ startWaits.control.pendingSet ∧
      startWaits.mode.busy = true ∧ .arm ∉ startWaits.control.pendingSet ∧
      Directive.interrupts .arm startWaits.mode = false ∧ (base .armed).Settled ∧
      (base .armed).control.pendingSet = [] ∧ (base .armed).mode.busy = false ∧
      Directive.legal .hold (base .armed).mode = false := by
  simp only [State.Settled, State.ControllerRests, State.LinkSettled]
  decide +kernel

/-- At the end of HOLDING, with directives that waited: the first is executed, or refused. -/
theorem witness_DirectivesWait_taken :
    (waiting .held [.resume, .disarm]).mode.busy = false ∧ (waiting .held [.resume, .disarm]).control.restartMark = false ∧
      .resume ∈ (waiting .held [.resume, .disarm]).control.pendingSet ∧
      (∀ e ∈ (waiting .held [.resume, .disarm]).control.pendingSet, Directive.kindCode .resume ≤ e.kindCode) ∧
      Directive.legal .resume Mode.held = true ∧
      (∀ e ∈ (waiting .held [.disarm, .start]).control.pendingSet, Directive.kindCode .start ≤ e.kindCode) ∧
      Directive.legal .start Mode.held = false := by
  decide +kernel

/-! ### Directives -/

/-- SETUP with head 3 alone in service, or none. -/
def crew (st : HeadState) : State :=
  { base .setup with heads := #v[head1 .offline none, head1 .offline none, head1 .offline none, head1 st none] }

theorem witness_ArmTaken :
    (crew .parked).Obeys .arm ∧ (∃ h, ((crew .parked).head h).state ≠ .offline) ∧
      (∀ e ∈ (withClass (crew .parked)).heater.table, (withClass (crew .parked)).heater.classes[e.code] ≠ none) ∧
      (crew .parked).control.stationMark = true :=
  ⟨base_obeys .setup .arm rfl (.inl rfl), by decide +kernel, by decide +kernel, rfl⟩

theorem witness_ArmTaken_failed :
    (crew .offline).Obeys .arm ∧ (∀ h, ((crew .offline).head h).state = .offline) ∧
      (∃ e ∈ ([⟨2, 1, 2, 9⟩] : List RivetEntry), (crew .parked).heater.classes[e.code] = none) ∧
      { crew .parked with control := ModeControl.cold }.Obeys .arm ∧
      { crew .parked with control := ModeControl.cold }.control.stationMark = false := by
  refine ⟨base_obeys .setup .arm rfl (.inl rfl), by decide +kernel, by decide +kernel, ⟨?_, by decide +kernel⟩, rfl⟩
  exact base_settled .setup

theorem witness_RunningEntered :
    (base .armed).Obeys .start ∧ (base .armed).table.currentPass = none ∧ (twoJoints .armed).Obeys .start ∧
      (twoJoints .armed).table.currentPass ≠ none ∧ (∀ h, ((twoJoints .armed).head h).state ≠ .idle) ∧
      (twoJoints .held).Obeys .resume ∧ (twoJoints .held).table.currentPass ≠ none ∧
      (∀ h, ((twoJoints .held).head h).state ≠ .awaitRivet) ∧ (twoJoints .held).arbiter.queue = [] ∧
      (twoJoints .held).mode = .held ∧ (twoJoints .held).waitingBeside [.hold] = [] := by
  (with_reducible and_intros) <;> first
    | exact base_obeys .armed .start rfl (.inl rfl)
    | exact base_obeys .held .resume rfl (.inl rfl)
    | decide +kernel

/-- A RESUME that interrupts HOLDING, where a HOLD waits alone or beside a DISARM. -/
theorem witness_RunningEntered_waiting :
    (waiting .holding [.hold]).Obeys .resume ∧ (waiting .holding [.hold]).waitingBeside [.hold] = [] ∧
      (waiting .holding [.hold, .disarm]).Obeys .resume ∧
      (waiting .holding [.hold, .disarm]).waitingBeside [.hold] = [.disarm] ∧
      (withJoints (base .holding) [joint1 1 0 .pending]).table.currentPass ≠ none := by
  (with_reducible and_intros) <;> first
    | exact ⟨waiting_settled _ _ rfl, by decide +kernel⟩
    | decide +kernel

/-- RESUME where no joint holds the program, out of HELD and out of HOLDING; and the state in which START has run its
round, with a pass and without. -/
theorem witness_RunningEntered_done :
    (base .held).Obeys .resume ∧ (base .held).table.currentPass = none ∧
      (∀ h, ((base .held).head h).state = .awaitRivet → (base .held).stampOf h = none) ∧
      (base .held).arbiter.queue = [] ∧ (base .held).waitingBeside [.hold] = [] ∧ (base .holding).Obeys .resume ∧
      (((twoJoints .running).post .modeChanged 3).round.postBlocked false).table.currentPass ≠ none ∧
      (((base .running).post .modeChanged 3).round.postBlocked false).table.currentPass = none ∧
      ((((twoJoints .running).post .modeChanged 3).reRaise).round.postBlocked false).table.currentPass ≠ none ∧
      ((((base .running).post .modeChanged 3).reRaise).round.postBlocked false).table.currentPass = none := by
  (with_reducible and_intros) <;> first
    | exact base_obeys .held .resume rfl (.inl rfl)
    | exact base_obeys .holding .resume rfl (.inr rfl)
    | decide +kernel

theorem witness_HoldTakes :
    (base .running).Obeys .hold ∧ (base .draining).Obeys .hold ∧
      (base .draining).waitingBeside [.resume, .drain] = [] :=
  ⟨base_obeys _ _ rfl (.inl rfl), base_obeys _ _ rfl (.inr rfl), rfl⟩

/-- DRAINING in which RESUME and START wait, with a head at work or all at rest. -/
theorem witness_HoldTakes_waiting :
    ((waiting .draining [.resume, .start]).setHead 0 (head1 .drill none)).Obeys .hold ∧
      (∃ h, (((waiting .draining [.resume, .start]).setHead 0 (head1 .drill none)).head h).state.atRest = false) ∧
      (waiting .draining [.resume, .start]).Obeys .hold ∧
      (∀ h, ((waiting .draining [.resume, .start]).head h).state.atRest = true) ∧
      (waiting .draining [.resume, .start]).waitingBeside [.resume, .drain] = [.start] := by
  (with_reducible and_intros) <;> first
    | exact ⟨waiting_settled .draining _ rfl, by decide +kernel⟩
    | decide +kernel

theorem witness_DrainTakes :
    (withJoints (base .running) [joint1 1 0 .drilling]).Obeys .drain ∧
      (∃ j ∈ (withJoints (base .running) [joint1 1 0 .drilling]).table.joints, j.state.inWork = true) ∧
      (base .holding).Obeys .drain ∧ (base .holding).arbiter.queue = [] ∧
      (∀ h, ((base .holding).head h).state ≠ .awaitRivet) ∧
      (base .holding).waitingBeside [.hold, .resume, .start] = [] := by
  (with_reducible and_intros) <;> first
    | exact base_obeys .running .drain rfl (.inl rfl)
    | exact base_obeys .holding .drain rfl (.inr rfl)
    | decide +kernel

/-- HOLDING in which directives wait, with a head that waits for a hot rivet, or with nobody at work. -/
def hotHold (l : List Joint) : State :=
  ((withJoints (waiting .holding [.start, .disarm]) l).setHead 0 (head1 .awaitRivet (some 0))).setPocket 2
    (.ready 9 (some 0) 60000 51000)

/-- The state in which DRAIN out of HOLDING has raised the requests for permits again. -/
def reRaised (s : State) : State :=
  (State.post { s.cleared.replyNow ⟨0x63, 1, []⟩ .accepted [] with
    control := { s.control with
      mode := .draining, inProgress := some .drain, pendingSet := s.waitingBeside [.hold, .resume, .start] }
    heads := s.heads.map (fun x => { x with rivetWait := x.rivetWait.resume }) } .modeChanged 6).reRaise

theorem witness_DrainTakes_waiting :
    (hotHold [{ joint1 14 0 .drilled with pocket := some 2 }]).Obeys .drain ∧
      (hotHold [{ joint1 14 0 .drilled with pocket := some 2 }]).mode = .holding ∧
      (hotHold [{ joint1 14 0 .drilled with pocket := some 2 }]).stampOf 0 ≠ none ∧
      (∃ j ∈ (reRaised (hotHold [{ joint1 14 0 .drilled with pocket := some 2 }])).table.joints,
        j.state = .setting ∧ j.state.inWork = true) ∧
      (hotHold []).Obeys .drain ∧ (∀ j ∈ (reRaised (hotHold [])).table.joints, j.state.inWork = false) ∧
      (hotHold []).waitingBeside [.hold, .resume, .start] = [.disarm] := by
  (with_reducible and_intros) <;> first
    | exact ⟨waiting_settled .holding _ rfl, by decide +kernel⟩
    | decide +kernel

theorem witness_DisarmReturns : (base .armed).Obeys .disarm := base_obeys _ _ rfl (.inl rfl)

theorem witness_AbortStopsAll :
    pecking.Obeys .abort ∧ (base .arming).Obeys .abort ∧ (waiting .arming [.start, .disarm]).Obeys .abort :=
  ⟨base_obeys .running .abort rfl (.inl rfl), base_obeys _ _ rfl (.inr rfl), waiting_settled .arming _ rfl,
    by decide +kernel⟩

theorem witness_RecoverReturns :
    (withJoints (base .aborted) [joint1 1 0 .complete, joint1 2 0 .locked]).Obeys .recover ∧
      ((base .aborted).latch .jointRejected).held = none ∧
      (withJoints (base .aborted) [joint1 1 0 .complete, joint1 2 0 .locked]).joint? 1 = some (joint1 2 0 .locked) ∧
      (∀ i' j', i' < 1 →
        (withJoints (base .aborted) [joint1 1 0 .complete, joint1 2 0 .locked]).joint? i' = some j' →
          j'.state ≠ .locked) := by
  refine ⟨base_obeys .aborted .recover rfl (.inl rfl), rfl, rfl, fun i' j' lt e => ?_⟩
  obtain rfl : i' = 0 := by omega
  cases Option.some.inj (show some (joint1 1 0 .complete) = some j' from e)
  decide

/-! ### Heads at work -/

/-- A part in a mode with head 1 in a state and, where it is given, head 0 in another. -/
def pair (m : Mode) (a b : HeadState) : State := ((base m).setHead 0 (head1 b none)).setHead 1 (head1 a none)

theorem witness_HomeAndTravelDone :
    (pair .arming .homing .homing).Quiet ∧ ((pair .arming .homing .homing).head 1).state = .homing ∧
      (∃ g, g ≠ 1 ∧ ((pair .arming .homing .homing).head g).state = .homing) ∧
      (∀ g, g ≠ 1 → ((pair .arming .homing .idle).head g).state ≠ .homing) ∧
      (∃ g, g ≠ 1 ∧ ((pair .holding .homing .drill).head g).state.atRest = false) ∧
      (∀ g, g ≠ 1 → ((pair .holding .homing .idle).head g).state.atRest = true) ∧
      (pair .running .homing .idle).mode = .running ∧ (pair .held .homing .idle).mode ≠ .arming := by
  (with_reducible and_intros) <;> first | exact base_quiet .arming | decide +kernel

/-- The last head comes home in ARMING while a START waits, and in HOLDING while directives wait. -/
theorem witness_HomeAndTravelDone_waiting :
    ((waiting .arming [.start]).setHead 1 (head1 .homing none)).LinkSettled ∧
      ((waiting .arming [.start]).setHead 1 (head1 .homing none)).control.restartMark = false ∧
      (((waiting .arming [.start]).setHead 1 (head1 .homing none)).head 1).state = .homing ∧
      (∀ g, g ≠ 1 → (((waiting .arming [.start]).setHead 1 (head1 .homing none)).head g).state ≠ .homing) ∧
      ((waiting .arming [.start]).setHead 1 (head1 .homing none)).control.pendingSet = [.start] ∧
      ((waiting .holding [.disarm]).setHead 1 (head1 .homing none)).LinkSettled ∧
      ∀ g, g ≠ 1 → (((waiting .holding [.disarm]).setHead 1 (head1 .homing none)).head g).state.atRest = true ∧
      ((twoJoints .running).round.postBlocked false).table.currentPass ≠ none ∧
      ((base .running).round.postBlocked false).table.currentPass = none := by
  (with_reducible and_intros) <;> first
    | decide +kernel
    | (simp only [State.LinkSettled]; decide +kernel)

theorem witness_HomeAndTravelDone_travel :
    ((base .running).setHead 1 { head1 .travel none with target := some 1000000 }).Quiet ∧
      (((base .running).setHead 1 { head1 .travel none with target := some 1000000 }).head 1).target = some 1000000 :=
  ⟨base_quiet .running, by decide +kernel⟩

/-- Head 2 in CLAMP holding joint 0, the drill channels held by heads 0 and 1 or FREE. -/
def clamping (d0 d1 : Option HeadNo) : State :=
  (((withJoints (base .running) [joint1 14 0 .assigned]).setHead 2
    { head1 .clamp (some 0) with active := ⟨100, 600⟩ }).setChannel 0 { Channel.cold with holder := d0 }).setChannel 1
      { Channel.cold with holder := d1 }

theorem witness_ClampDoneTaken :
    (clamping none none).Quiet ∧ (clamping none none).PassRule ∧ ((clamping none none).head 2).state = .clamp ∧
      ((clamping none none).head 2).held = some 0 ∧ (clamping none none).joint? 0 = some (joint1 14 0 .assigned) ∧
      (joint1 14 0 .assigned).state.inWork = true ∧ ((clamping none none).channel 0).holder = none ∧
      ((clamping (some 0) none).channel 1).holder = none ∧ ((clamping (some 0) none).channel 0).holder ≠ none ∧
      ((clamping (some 0) (some 1)).channel 0).holder ≠ none ∧
      ((clamping (some 0) (some 1)).channel 1).holder ≠ none := by
  simp only [State.PassRule]
  (with_reducible and_intros) <;> first | exact base_quiet .running | decide +kernel

/-- The drill channel of `pecking` after a sample: passed through the filter, the machine and the depth limit. -/
def sampled (depth : Nat) (thrust : Int) : Channel :=
  (((pecking.channel 1).filter pecking.signature.filter depth thrust).measure pecking.signature.filter depth).limit
    pecking.signature.filter depth

/-- The first sample, a peck at 1,600, and one more unit of depth at each rate. -/
theorem witness_DrillSampleTaken :
    pecking.Quiet ∧ (pecking.head 2).state = .drill ∧ pecking.drillChannelOf 2 = some 1 ∧
      (pecking.head 2).held = some 0 ∧ pecking.joint? 0 = some (joint1 14 0 .drilling) ∧
      (pecking.head 2).subPhase = some .peckReturn ∧ (pecking.head 2).deepest < 1101 ∧
      (sampled 1101 0).ending = none ∧ (sampled 1600 0).ending = none ∧
      0 < (pecking.head 2).active.b ∧ (pecking.head 2).active.b ≤ 1600 - (pecking.head 2).peckStart ∧
      1599 - (pecking.head 2).peckStart < (pecking.head 2).active.b ∧ (pecking.head 2).rate = some .reEntry ∧
      ((after pecking (.drillSample 2 1600 0)).head 2).subPhase = some .peckRetract := by
  (with_reducible and_intros) <;> first | exact base_quiet .running | decide +kernel

/-- `pecking` with two taps and a ring full of the greatest sample. -/
def loud : State :=
  let s := pecking.setChannel 1 { pecking.channel 1 with ring := Vector.replicate 16 32767 }
  { s with signature := { s.signature with filter := { filter4 with taps := [32767, 32767] } } }

/-- The first sample of a joint that saturates. -/
theorem witness_DrillSampleTaken_saturated :
    loud.Quiet ∧ (loud.head 2).state = .drill ∧ loud.drillChannelOf 2 = some 1 ∧
      (loud.channel 1).saturates loud.signature.filter 32767 = true ∧
      ((((loud.channel 1).filter loud.signature.filter 1101 32767).measure loud.signature.filter 1101).limit
        loud.signature.filter 1101).ending = none ∧
      (joint1 14 0 .drilling).result.saturated = false := by
  (with_reducible and_intros) <;> first | exact base_quiet .running | decide +kernel

/-- `pecking` in DIP below its entry at 197, one sample short of the exit run that ends the measurement. -/
def ending (run : Nat) (peak : Option Int) (machine : MachineState) : State :=
  pecking.setChannel 1 { Channel.cold with
    holder := some 2, lastHolder := some 2, joint := some 0, machine, peak, valley := some 900
    valleyDepth := some 1090, runCount := run, runStart := some 1080, entry := some 197, layers := some 1 }

/-- A dip beside eight layers found, into which the thrust comes back. -/
def layered : State :=
  pecking.setChannel 1 { Channel.cold with
    holder := some 2, lastHolder := some 2, joint := some 0, machine := .dip, peak := some 19500, valley := some 900
    valleyDepth := some 1090, entry := some 197, layers := some 8, boundaries := [1, 2, 3, 4, 5, 6, 7] }

/-- The first sample of a joint that overflows. -/
theorem witness_DrillSampleTaken_overflow :
    layered.Quiet ∧ layered.drillChannelOf 2 = some 1 ∧
      ((layered.channel 1).filter layered.signature.filter 1101 4000).overflows layered.signature.filter 1101 = true ∧
      ((((layered.channel 1).filter layered.signature.filter 1101 4000).measure layered.signature.filter 1101).limit
        layered.signature.filter 1101).ending = none ∧
      (joint1 14 0 .drilling).result.overflow = false := by
  (with_reducible and_intros) <;> first | exact base_quiet .running | decide +kernel

/-- The channel of a state after a sample that ends the measurement. -/
def ended (s : State) (depth : Nat) : Channel :=
  (((s.channel 1).filter s.signature.filter depth 0).measure s.signature.filter depth).limit s.signature.filter depth

theorem witness_MeasurementEnds :
    (ending 7 (some 19500) .dip).Quiet ∧ ((ending 7 (some 19500) .dip).head 2).deepest < 1101 ∧
      (ended (ending 7 (some 19500) .dip) 1101).ending = some .finished ∧
      (ended (ending 7 (some 19500) .dip) 1101).entry = some 197 ∧
      (ended (ending 7 (some 19500) .dip) 1101).exit = some 1080 ∧
      (ended (ending 0 (some 0) .cutting) 20000).ending = some .depthLimit ∧
      (ended pecking 20000).ending = some .noMaterial ∧
      (ending 7 (some 19500) .dip).signature.drillQueue = [] := by
  (with_reducible and_intros) <;> first | exact base_quiet .running | decide +kernel

/-- A last sample that saturates, and one that overflows. -/
theorem witness_MeasurementEnds_marks :
    loud.Quiet ∧ (loud.channel 1).saturates loud.signature.filter 32767 = true ∧
      ((((loud.channel 1).filter loud.signature.filter 20000 32767).measure loud.signature.filter 20000).limit
        loud.signature.filter 20000).ending = some .depthLimit ∧
      layered.Quiet ∧
      ((layered.channel 1).filter layered.signature.filter 20000 4000).overflows layered.signature.filter 20000 = true ∧
      ((((layered.channel 1).filter layered.signature.filter 20000 4000).measure layered.signature.filter 20000).limit
        layered.signature.filter 20000).ending = some .depthLimit := by
  (with_reducible and_intros) <;> first | exact base_quiet .running | decide +kernel

/-- The two-plate measurement of section 4.5, one sample short of its end, where head 0 may wait for the channel. -/
def finishing (queue : List HeadNo) : State :=
  let s := (withClass pecking).setHead 2 { pecking.head 2 with deepest := 3818, peckStart := 3500 }
  let t := s.setChannel 1 { Channel.cold with
    holder := some 2, lastHolder := some 2, joint := some 0, machine := .dip, peak := some 19500
    valley := some 1000, valleyDepth := some 3799, runCount := 7, runStart := some 3799, entry := some 197
    layers := some 2, boundaries := [2201] }
  { t with signature := { t.signature with drillQueue := queue } }

theorem witness_MeasurementEnds_code :
    (finishing []).Quiet ∧ (ended (finishing []) 3820).ending = some .finished ∧
      (ended (finishing []) 3820).entry = some 197 ∧ (ended (finishing []) 3820).exit = some 3799 ∧
      drillingChecks (finishing []).heater.table (identity1 14 0) (ended (finishing []) 3820).layers (3799 - 197) =
        .good ∧
      lookupRivet (finishing []).heater.table 2 (3799 - 197) = some 9 ∧
      (ending 7 (some 19500) .dip).Quiet ∧ (finishing [0]).signature.drillQueue = 0 :: [] ∧ (0 : HeadNo) ≠ 2 ∧
      drillingChecks [] (identity1 14 0) (ended (finishing [0]) 3820).layers (3799 - 197) = .rejected .noRivetForGrip := by
  (with_reducible and_intros) <;> first | exact base_quiet .running | decide +kernel

/-- Head 0 in a state with an outcome, holding joint 0 in the given joint state. -/
def holding0 (m : Mode) (st : HeadState) (out : HeadOutcome) (j : JointState) (w : WaitTimer) : State :=
  (withJoints (base m) [joint1 14 0 j, joint1 15 0 .pending]).setHead 0
    { head1 st (some 0) with outcome := some out, rivetWait := w }

theorem witness_RivetAwaited :
    (holding0 .running .retract .good .drilling .stopped).Quiet ∧
      (holding0 .running .retract .good .drilling .stopped).PassRule ∧
      (holding0 .running .retract .good .drilling .stopped).joint? 0 = some (joint1 14 0 .drilling) ∧
      ((holding0 .running .retract .good .drilling .stopped).head 0).outcome = some .good ∧
      ((holding0 .running .retract (.rejected .noMaterial) .drilling .stopped).head 0).outcome ≠ some .good ∧
      (joint1 14 0 .drilling).identity.kind = .rivet ∧
      (holding0 .held .retract .good .drilling .stopped).SharingRule ∧
      (holding0 .held .retract .good .drilling .stopped).mode = .held ∧
      (holding0 .holding .retract .good .drilling .stopped).mode = .holding ∧
      (∀ g, g ≠ 0 → ((holding0 .holding .retract .good .drilling .stopped).head g).state.atRest = true) ∧
      ((holding0 .running .awaitRivet .good .drilled (.counting 0)).head 0).rivetWait = .counting 0 ∧
      (joint1 14 0 .drilled).pocket = none ∧
      (∀ o ∈ (holding0 .running .awaitRivet .good .drilled (.counting 0)).heater.orders,
        (((base .running).setPocket 5 (.heating 9 (some 0) 1)).pocket 5).code? ≠ some o.code) := by
  simp only [State.PassRule, State.SharingRule]
  (with_reducible and_intros) <;> first | exact base_quiet .running | decide +kernel

theorem witness_SetSamplesIntegrated :
    (pressing .feed none).Quiet ∧ (pressing .feed none).permitOf 0 = some 0 ∧
      (pressing .feed none).permit 0 = some ⟨0, 0, 9, none⟩ ∧ ((pressing .feed none).head 0).held = some 0 ∧
      ((pressing .feed none).head 0).state = .feed ∧ (pressing .feed none).heater.classes[(9 : RivetCode)] = some class9 ∧
      ((pressing .set (some 20000)).head 0).state = .set ∧
      (pressing .set (some 20000)).joint? 0 = some (joint1 14 0 .setting) ∧
      InAccumulator (((squeezed 34359738367).channel 2).accumulator + 2 * (0 : Half).toInt * 1024) ∧
      ¬ InAccumulator (((squeezed 34359738367).channel 2).accumulator + 2 * (1 : Half).toInt * 1024) ∧
      (joint1 14 0 .setting).result.saturated = false := by
  simp only [InAccumulator]
  (with_reducible and_intros) <;> first | exact base_quiet .running | decide +kernel

/-- Accumulators at both ends of the 32-bit range and beyond them, the joint's mark not made yet. -/
theorem witness_SetVerified :
    (squeezed 2013265920).Quiet ∧ ((squeezed 2013265920).head 0).state = .set ∧
      (squeezed 2013265920).permitOf 0 = some 0 ∧ (squeezed 2013265920).permit 0 = some ⟨0, 0, 9, some 20000⟩ ∧
      ((squeezed 2013265920).head 0).held = some 0 ∧
      (squeezed 2013265920).joint? 0 = some (joint1 14 0 .setting) ∧
      (squeezed 2013265920).heater.classes[(9 : RivetCode)] = some class9 ∧
      ((squeezed 2013265920).channel 2).mv = false ∧ ((squeezed 2013265920).channel 2).ev = false ∧
      ¬ (((squeezed 2147483647).channel 2).accumulator < -2147483648 ∨
        2147483647 < ((squeezed 2147483647).channel 2).accumulator) ∧
      ((squeezed (-2147483649)).channel 2).accumulator < -2147483648 ∧
      2147483647 < ((squeezed 2147483648).channel 2).accumulator ∧ (joint1 14 0 .setting).result.saturated = false ∧
      (20000 : Int) ≤ 24576 ∧ class9.workMin ≤ min 32767 ((2013265920 + 32768) / 65536) ∧
      min 32767 ((2013265920 + 32768) / 65536) ≤ class9.workMax ∧ (squeezed 2013265920).arbiter.queue = [] := by
  (with_reducible and_intros) <;> first | exact base_quiet .running | decide +kernel

/-- Head 1 waits for the permit that head 0's set gives back. -/
def pressed : State := ((squeezed 2013265920).setPermit 1 (some ⟨3, 1, 10, none⟩)).setPermitQueue [1]

theorem witness_SetVerified_waiting :
    pressed.Quiet ∧ (pressed.head 0).state = .set ∧ pressed.permitOf 0 = some 0 ∧
      pressed.permit 0 = some ⟨0, 0, 9, some 20000⟩ ∧ (∀ k, pressed.permit k ≠ none) ∧ pressed.arbiter.queue = [1] := by
  (with_reducible and_intros) <;> first | exact base_quiet .running | decide +kernel

theorem witness_ReleaseDoneTaken :
    (holding0 .running .release .good .setting .stopped).Quiet ∧
      ((holding0 .running .release .good .setting .stopped).head 0).state = .release ∧
      ((holding0 .running .release .good .setting .stopped).head 0).held = some 0 ∧
      (holding0 .running .release .good .setting .stopped).joint? 0 = some (joint1 14 0 .setting) ∧
      (joint1 14 0 .setting).state.inWork = true ∧ (joint1 14 0 .setting).pocket = none ∧
      (holding0 .running .release .good .setting .stopped).heater.orders = [] ∧
      currentPassOf [joint1 14 0 .complete, joint1 15 0 .pending] ≠ none ∧
      currentPassOf [joint1 14 0 .complete] = none ∧ currentPassOf [joint1 14 0 .setting] ≠ none ∧
      (holding0 .draining .release .good .setting .stopped).mode = .draining ∧
      (holding0 .holding .release .good .setting .stopped).mode = .holding := by
  (with_reducible and_intros) <;> first | exact base_quiet .running | decide +kernel

theorem witness_HeadFaults :
    pecking.Quiet ∧ (pecking.head 2).state ≠ .parked ∧ (pecking.head 2).state ≠ .stopped ∧
      (pecking.head 2).state ≠ .fault ∧ (pecking.head 2).state ≠ .offline ∧ 2 ∉ pecking.signature.drillQueue ∧
      pecking.permitOf 2 = none ∧ pecking.drillChannelOf 2 = some 1 ∧ pecking.signature.drillQueue = [] ∧
      (pecking.head 2).held = some 0 ∧ pecking.joint? 0 = some (joint1 14 0 .drilling) ∧
      (∀ g, g ≠ 2 → (pecking.head g).held ≠ some 0) ∧ (joint1 14 0 .drilling).pocket = none ∧
      pecking.mode ≠ .arming ∧ (pair .arming .homing .idle).mode = .arming ∧
      ((pair .arming .homing .idle).head 1).state = .homing ∧ (pair .arming .homing .idle).Quiet ∧
      ((timed.head 1).phaseTimer ≠ none ∧ timed.Quiet) ∧ ((outOfWork .fault).head 1).state = .fault ∧
      (pair .held .drill .idle).mode ≠ .running ∧ (pair .held .drill .idle).arbiter.queue = [] := by
  (with_reducible and_intros) <;> first
    | exact base_quiet .running
    | exact base_quiet .arming
    | decide +kernel

theorem witness_EventsIgnored :
    (base .running).Settled ∧ (∀ h, ((base .running).head h).state = .parked) ∧
      (∀ h, ((base .running).head h).phaseTimer = none) ∧ (∀ p, (base .running).pocket p = .empty) ∧
      6 ≤ (6 : Byte).toNat := by
  (with_reducible and_intros) <;> first | exact base_settled _ | decide +kernel

/-! ### The heater, the permits and dispatch -/

/-- Pocket 5 in a state, head 0 holding joint 0. -/
def oven (p : Pocket) : State := (withClass (holding0 .held .awaitRivet .good .drilled (.paused 1))).setPocket 5 p

theorem witness_PocketsTimed :
    (oven (.loading 9 (some 0) 0)).Quiet ∧ (oven (.loading 9 (some 0) 0)).heater.classes[(9 : RivetCode)] = some class9 ∧
      (oven (.loading 9 (some 0) 0)).pocket 5 = .loading 9 (some 0) 0 ∧
      (oven (.heating 9 (some 1) 0)).holderOf 1 = none ∧ (oven (.heating 9 (some 0) 0)).holderOf 0 = some 0 ∧
      (oven (.heating 9 (some 0) 0)).SharingRule ∧ (oven (.heating 9 (some 0) 0)).mode ≠ .running ∧
      (oven (.heating 9 (some 0) 0)).mode ≠ .draining ∧ (oven (.ready 9 none 0 0)).pocket 5 = .ready 9 none 0 0 ∧
      (oven (.ejecting 9 0)).pocket 5 = .ejecting 9 0 ∧ (oven (.ejecting 9 0)).heater.orders = [] := by
  simp only [State.SharingRule]
  (with_reducible and_intros) <;> first | exact base_quiet .held | decide +kernel

/-- Head 0 holds joint 0, which may own pocket 5; pockets 1 to 4 hold rivets of code 9 that nobody owns. -/
def seeking (m : Mode) (out : Option HeadOutcome) (own : Option PocketNo) (orders : List HeatOrder) : State :=
  let s := withClass ((withJoints (base m) [{ joint1 14 0 .drilling with pocket := own }, joint1 20 0 .assigned]).setHead
    0 { head1 .drill (some 0) with outcome := out })
  { s with
    time := 1000
    heater := { s.heater with
      pockets := #v[.ready 10 none 600 0, .loading 9 none 5, .heating 9 none 7, .ready 9 none 600 990,
        .ready 9 none 600 980, .ready 10 (some 0) 600 900]
      orders := orders } }

/-- Of the four unowned pockets of code 9, pocket 4, READY for longest, is the best one. -/
theorem seeking_best (m : Mode) (out : Option HeadOutcome) (own : Option PocketNo) (orders : List HeatOrder) :
    (seeking m out own orders).Best 9 4 := by
  have pockets : (seeking m out own orders).heater.pockets = #v[.ready 10 none 600 0, .loading 9 none 5,
      .heating 9 none 7, .ready 9 none 600 990, .ready 9 none 600 980, .ready 10 (some 0) 600 900] := rfl
  refine ⟨.inr (.inr ⟨600, 980, by simp [State.pocket, pockets]⟩), fun q takeable ne => ?_⟩
  have time : (seeking m out own orders).time = 1000 := rfl
  match q with
  | 0 => simp [State.Takeable, State.pocket, pockets] at takeable
  | 1 => simp [State.Preferred, State.pocket, pockets, Pocket.stateCode]
  | 2 => simp [State.Preferred, State.pocket, pockets, Pocket.stateCode]
  | 3 => simp [State.Preferred, State.pocket, pockets, time]
  | 4 => exact absurd rfl ne
  | 5 => simp [State.Takeable, State.pocket, pockets] at takeable

/-- No pocket holds an unowned rivet of code 11. -/
theorem seeking_none (m : Mode) (out : Option HeadOutcome) (own : Option PocketNo) (orders : List HeatOrder) :
    ∀ p, ¬ (seeking m out own orders).Takeable 11 p := by
  have pockets : (seeking m out own orders).heater.pockets = #v[.ready 10 none 600 0, .loading 9 none 5,
      .heating 9 none 7, .ready 9 none 600 990, .ready 9 none 600 980, .ready 10 (some 0) 600 900] := rfl
  intro p takeable
  match p with
  | 0 | 1 | 2 | 3 | 4 | 5 => simp [State.Takeable, State.pocket, pockets] at takeable

/-- A DEMAND order ahead of a PRE-HEAT order of joint 1. -/
def twoOrders : List HeatOrder := [⟨.demand, 10, 7⟩] ++ [⟨.preHeat, 10, 1⟩]

theorem witness_RivetsSought_seek :
    (seeking .running none none []).Best 9 4 ∧ (seeking .running none none []).joint? 0 = some (joint1 14 0 .drilling) ∧
      (seeking .running none none []).holderOf 0 = some 0 ∧ (seeking .running none none []).holderOf 1 = none ∧
      (seeking .running none none []).joint? 1 = some (joint1 20 0 .assigned) ∧
      (∀ p, ¬ (seeking .running none none twoOrders).Takeable 11 p) ∧
      (seeking .running none none twoOrders).heater.orders = [⟨.demand, 10, 7⟩] ++ [⟨.preHeat, 10, 1⟩] ∧
      ((seeking .running none none []).head 0).outcome = none ∧
      ((seeking .running (some .good) none []).head 0).outcome = some .good ∧
      ((seeking .running (some (.rejected .depthLimit)) none []).head 0).outcome = some (.rejected .depthLimit) := by
  (with_reducible and_intros) <;> first
    | exact seeking_best _ _ _ _
    | exact seeking_none _ _ _ _
    | decide +kernel

/-- At drilling end: a pocket of the measured code, one of another code, none beside a best one, and none at all with
the joint's own order waiting. -/
theorem witness_RivetsSought_drillingEnd :
    (seeking .running (some .good) (some 5) []).joint? 0 = some { joint1 14 0 .drilling with pocket := some 5 } ∧
      ((seeking .running (some .good) (some 5) []).pocket 5).code? = some 10 ∧
      ((seeking .running (some .good) (some 5) []).pocket 5).code? ≠ some 9 ∧
      (seeking .running (some .good) none twoOrders).Best 9 4 ∧
      (∀ p, ¬ (seeking .running (some .good) none (⟨.demand, 9, 0⟩ :: twoOrders)).Takeable 11 p) ∧
      (seeking .running (some .good) none (⟨.demand, 9, 0⟩ :: twoOrders)).heater.orders.filter (fun o => o.joint ≠ 0) =
        [⟨.demand, 10, 7⟩] ++ [⟨.preHeat, 10, 1⟩] := by
  (with_reducible and_intros) <;> first
    | exact seeking_best _ _ _ _
    | exact seeking_none _ _ _ _
    | decide +kernel

/-- A released pocket passes to the first order of its code, or stays unowned. -/
theorem witness_RivetsSought_release :
    ((seeking .running none (some 5) [⟨.demand, 9, 7⟩, ⟨.preHeat, 10, 1⟩]).pocket 5).code? = some 10 ∧
      (seeking .running none (some 5) [⟨.demand, 9, 7⟩, ⟨.preHeat, 10, 1⟩]).heater.orders =
        [⟨.demand, 9, 7⟩] ++ (⟨.preHeat, 10, 1⟩ : HeatOrder) :: [] ∧
      (seeking .running none (some 5) [⟨.demand, 9, 7⟩, ⟨.preHeat, 10, 1⟩]).joint? 1 = some (joint1 20 0 .assigned) ∧
      (seeking .running none (some 5) [⟨.demand, 9, 7⟩, ⟨.preHeat, 10, 1⟩]).holderOf 1 = none ∧
      ∀ o ∈ (seeking .running none (some 5) [⟨.demand, 9, 7⟩]).heater.orders, o.code ≠ 10 := by
  decide +kernel

/-- The state of `test_ejectDone` once its pocket is EMPTY: one EMPTY pocket, an order that cannot be served and one
that can. -/
def hungry : State :=
  let s := withClass (withJoints (base .running) [joint1 20 0 .assigned, joint1 21 0 .assigned])
  { s with heater := { s.heater with
      pockets := (Vector.replicate 6 (.disabled : Pocket)).set 2 .empty
      orders := [⟨.preHeat, 10, 0⟩, ⟨.preHeat, 9, 1⟩] } }

theorem witness_ServingStep :
    (base .setup).mode = .setup ∧ hungry.mode ≠ .setup ∧ hungry.mode ≠ .arming ∧ hungry.mode ≠ .aborted ∧
      (∀ q, hungry.pocket q = .empty ↔ q = 2) ∧
      hungry.heater.orders = [⟨.preHeat, 10, 0⟩] ++ (⟨.preHeat, 9, 1⟩ : HeatOrder) :: [] ∧
      (∀ e ∈ ([⟨.preHeat, 10, 0⟩] : List HeatOrder), hungry.heater.magazines[e.code] = 0) ∧
      0 < hungry.heater.magazines[(9 : RivetCode)] ∧ hungry.joint? 1 = some (joint1 21 0 .assigned) := by
  (with_reducible and_intros) <;> decide +kernel

/-- Section 6.8: H1 and H0 wait for rivets READY at 52,000 and 51,000, with the permits FREE or held by others. -/
def hot (k0 k1 : Option PermitGrant) (queue : List HeadNo) : State :=
  let s := withJoints (base .running)
    [{ joint1 14 0 .drilled with pocket := some 2 }, { joint1 30 0 .drilled with pocket := some 4 }]
  ((((((s.setHead 0 (head1 .awaitRivet (some 0))).setHead 1 (head1 .awaitRivet (some 1))).setPocket 2
    (.ready 9 (some 0) 60000 51000)).setPocket 4 (.ready 10 (some 1) 60000 52000)).setPermit 0 k0).setPermit 1
      k1).setPermitQueue queue

theorem witness_PermitGranted :
    (hot (some ⟨3, 1, 10, none⟩) none []).Asks 0 ∧ ((hot (some ⟨3, 1, 10, none⟩) none []).head 0).held = some 0 ∧
      (hot (some ⟨3, 1, 10, none⟩) none []).joint? 0 = some { joint1 14 0 .drilled with pocket := some 2 } ∧
      (hot (some ⟨3, 1, 10, none⟩) none []).pocket 2 = .ready 9 (some 0) 60000 51000 ∧
      (hot (some ⟨3, 1, 10, none⟩) none []).permitOf 0 = none ∧ (hot (some ⟨3, 1, 10, none⟩) none []).PassRule ∧
      (hot (some ⟨3, 1, 10, none⟩) none []).arbiter.queue = [] ∧
      (hot (some ⟨3, 1, 10, none⟩) none []).permit 1 = none ∧ (hot (some ⟨3, 1, 10, none⟩) none []).permit 0 ≠ none ∧
      (hot (some ⟨3, 1, 10, none⟩) (some ⟨2, 1, 9, none⟩) [1]).Asks 0 ∧
      0 ∉ (hot (some ⟨3, 1, 10, none⟩) (some ⟨2, 1, 9, none⟩) [1]).arbiter.queue ∧
      ∀ k, (hot (some ⟨3, 1, 10, none⟩) (some ⟨2, 1, 9, none⟩) [1]).permit k ≠ none := by
  simp only [State.PassRule, State.Asks]
  decide +kernel

/-- The front of the queue beside a FREE permit, alone or ahead of another head; and two heads that ask with nobody
queued. -/
theorem witness_PermitGranted_queue :
    (hot none none [0, 1]).arbiter.queue = 0 :: [1] ∧ (hot none none [0, 1]).permit 0 = none ∧
      (hot none none [0, 1]).PassRule ∧ (hot (some ⟨3, 1, 10, none⟩) none [0]).arbiter.queue = 0 :: [] ∧
      (hot none none []).arbiter.queue = [] ∧ (hot none none []).Asks 0 ∧ (hot none none []).Asks 1 ∧
      (hot none none []).permitOf 0 = none := by
  simp only [State.PassRule, State.Asks]
  decide +kernel

/-- A head that does not ask, one that waits already and one that holds a permit; and the stamp of one that asks. -/
theorem witness_PermitGranted_idle :
    ¬ (base .running).Asks 0 ∧ 1 ∈ (hot none none [1]).arbiter.queue ∧
      (hot (some ⟨0, 0, 9, none⟩) none []).permitOf 0 ≠ none ∧ (hot none none []).stampOf 0 = some 51000 := by
  simp only [State.Asks]
  decide +kernel

/-- Section 6.8: H0 is placed ahead of H1. -/
theorem test_permit_queue_order :
    ((hot (some ⟨3, 1, 10, none⟩) (some ⟨2, 1, 9, none⟩) [1]).requestPermit 0).arbiter.queue = [0, 1] := by
  decide +kernel

/-- H0 IDLE at 0 with joint 1, at 200, the only one it can take. -/
def dispatching : State :=
  ((withClass (withJoints (base .running) [joint1 1 100 .complete, joint1 2 200 .pending])).setHead 0
    (head1 .idle none)).setClaim 0 (some ⟨0, 0⟩)

theorem witness_DispatchRound :
    dispatching.mode = .running ∧ (base .held).mode ≠ .running ∧ (dispatching.head 1).state ≠ .idle ∧
      dispatching.PassRule ∧ (dispatching.head 0).state = .idle ∧ (dispatching.head 0).position = some 0 ∧
      dispatching.search 0 0 = some 1 ∧ dispatching.joint? 1 = some (joint1 2 200 .pending) ∧
      (joint1 2 200 .pending).corrected = some 200 ∧ (joint1 2 200 .pending).identity.expectedGrip = some 3600 ∧
      lookupRivet dispatching.heater.table 2 3600 = some 9 ∧ lookupRivet dispatching.heater.table 2 3701 = none ∧
      (base .running).search 0 0 = none := by
  simp only [State.PassRule]
  (with_reducible and_intros) <;> decide +kernel

/-! ### Measurement and the rules -/

theorem witness_FilterComputed :
    (0 : Nat) < 15 ∧ 14 < 15 ∧
      (∀ n, n ≤ ([8192] : List Int).length → InAccumulator (2 * ((List.range n).map
        (fun k => ([8192] : List Int).getD k 0 * ringRead (Channel.cold.push 16384).ring
          (Channel.cold.push 16384).writeIndex k)).sum)) ∧
      (-2147483648 : Int) ≤ 2147483647 ∧ (2147483647 : Int) < 2147483648 ∧ (-2147483649 : Int) < -2147483648 := by
  refine ⟨by decide, by decide, fun n le => ?_, by decide, by decide, by decide⟩
  have : n = 0 ∨ n = 1 := by
    rw [List.length_singleton] at le
    omega
  simp only [InAccumulator]
  rcases this with rfl | rfl <;> decide +kernel

/-- A measurement with an interface at 30 and an exit run of one. -/
def outputs1 : List (Int × Nat) := [(20000, 10), (9000, 20), (8000, 30), (11000, 40), (1200, 50), (1100, 60)]

theorem witness_StackMeasured :
    1 ≤ { filter4 with confirm := 1 }.confirm ∧ (outputs1.map Prod.snd).Pairwise (· < ·) ∧
      (outputs1.foldl (fun c y => c.take { filter4 with confirm := 1 } y.1 y.2)
        (Channel.grantTo 0 (some 0))).ending = some .finished := by
  (with_reducible and_intros) <;> decide +kernel

/-- A channel in a state of the machine, with a peak of 20,000 and a valley of 1,000 at 300. -/
def machine1 (m : MachineState) (layers run : Nat) : Channel :=
  { Channel.cold with
    machine := m, lastOutput := some 5000, peak := some 20000, valley := some 1000, valleyDepth := some 300
    layers := some layers, runCount := run }

/-- Each clause at the value where it begins: N - 1 for the recorded depth, T_e, the drop level, the valley plus M,
eight layers, T_x and a run of K. -/
theorem witness_StackMeasured_machine :
    (machine1 .waiting 1 0).lastOutput = some 5000 ∧ 2 < filter4.taps.length - 1 ∧ filter4.taps.length - 1 ≤ 3 ∧
      (machine1 .waiting 1 0).machine = .waiting ∧ (filter4.engage : Int) ≤ 3000 ∧ (2999 : Int) < filter4.engage ∧
      (machine1 .cutting 1 0).machine = .cutting ∧ (machine1 .cutting 1 0).peak = some 20000 ∧
      (20000 : Int) = max 20000 9999 ∧ (32768 : Int) * 10000 ≤ 20000 * filter4.dropRatio ∧
      (20000 : Int) * filter4.dropRatio < 32768 * (10000 + 1) ∧ (9999 : Int) < 10000 ∧
      (machine1 .dip 7 0).machine = .dip ∧ (machine1 .dip 7 0).valley = some 1000 ∧
      (1000 : Int) + filter4.rebound ≤ 3000 ∧ (machine1 .dip 7 0).layers = some 7 ∧
      (machine1 .dip 8 0).layers = some 8 ∧ (machine1 .dip 7 0).valleyDepth = some 300 ∧
      (2999 : Int) < 1000 + filter4.rebound ∧ (filter4.exitLevel : Int) ≤ 1500 ∧ 1 ≤ filter4.confirm ∧
      (1499 : Int) < filter4.exitLevel ∧ (machine1 .dip 7 8).runCount + 1 < filter4.confirm ∧
      filter4.confirm ≤ (machine1 .dip 7 9).runCount + 1 ∧ (machine1 .finished 7 0).machine = .finished := by
  decide +kernel

theorem witness_DrillingEndChecked :
    (identity1 14 0).tolerance.isSome = (identity1 14 0).expectedGrip.isSome ∧
      (∃ n, (identity1 14 0).expectedLayers = some n ∧ some 3 ≠ some n) ∧
      (∃ g t, (identity1 14 0).expectedGrip = some g ∧ (identity1 14 0).tolerance = some t ∧
        (3499 + t < g ∨ g + t < 3499)) ∧
      ∀ e ∈ ([] : List RivetEntry), e.diameter = 2 → 3600 < e.gripMin ∨ e.gripMax < 3600 :=
  ⟨rfl, ⟨2, rfl, by decide⟩, ⟨3600, 100, rfl, rfl, by decide⟩, by simp⟩

theorem witness_rules_kept :
    pecking.LinkRule ∧ pecking.PassRule ∧ pecking.TableRule ∧ pecking.ModeRule ∧ pecking.SharingRule ∧
      hungry.HeaterRule ∧ ∃ t, step pecking = .next t := by
  simp only [State.LinkRule, State.PassRule, State.TableRule, State.ModeRule, State.ControllerRests, State.SharingRule,
    State.HeaterRule]
  (with_reducible and_intros) <;> first | exact ⟨_, rfl⟩ | decide +kernel

theorem witness_ReportRuleKept : twoReports.ReportRule ∧ ∃ t, step twoReports = .next t := by
  simp only [State.ReportRule]
  refine ⟨⟨by decide +kernel, by decide +kernel, fun k => ?_, .inr fun k => ?_⟩, _, rfl⟩ <;> cases k <;>
    decide +kernel

theorem witness_HeaterRulesKept : hungry.ClassRule ∧ ∃ t, step hungry = .next t := by
  simp only [State.ClassRule]
  exact ⟨by decide +kernel, _, rfl⟩

theorem witness_ChannelRuleKept :
    pecking.ChannelRule ∧ (squeezed 34359738367).ChannelRule ∧ pecking.DepthRule ∧
      (∀ c ∈ { pecking with pending := [.drillSample 2 20000 0] }.pending.head?, c.wellFormed = true) := by
  simp only [State.ChannelRule, State.DepthRule, Channel.InRange, Channel.Reaches, InAccumulator, InSixteen, InReach,
    FilterSettings.InRange]
  (with_reducible and_intros) <;> decide +kernel

theorem witness_RailRuleKept : dispatching.RailRule ∧ ∃ t, step dispatching = .next t := by
  simp only [State.RailRule, State.RailCompatible, Claim.onRail]
  exact ⟨by decide +kernel, _, rfl⟩

end Sys2Proof.Tests
end

section
/-! O5: JOINT_READ and JOINT_FIND answer from the table and change nothing (R12, R13). What each request answers is
said first, as a lemma on `State.answer`; `State.request_refused` then delivers the reply. -/

namespace Sys2Proof.Machine

/-! ## Looking an id up (R13) -/

/-- The lookup finds the first record that carries the id. -/
theorem State.findId_first {s : State} {i : Nat} {j : Joint} (hj : s.joint? i = some j)
    (first : ∀ (i' : Nat) (j' : Joint), i' < i → s.joint? i' = some j' → j'.identity.id ≠ j.identity.id) :
    s.findId j.identity.id = some i := by
  obtain ⟨inUse, rfl⟩ := List.getElem?_eq_some_iff.1 hj
  refine List.findIdx?_eq_some_iff_getElem.2 ⟨inUse, by simp, fun i' lt => ?_⟩
  simpa using first i' _ lt (List.getElem?_eq_getElem (lt.trans inUse))

/-- The lookup finds nothing exactly where no record carries the id. -/
theorem State.findId_eq_none_iff {s : State} {n : Nat} :
    s.findId n = none ↔ ∀ j ∈ s.table.joints, j.identity.id ≠ n := by
  simp [State.findId, List.findIdx?_eq_none_iff]

/-! ## What the two requests answer -/

/-- A request that no mode excludes and whose payload has its length goes on to its own checks (R180). -/
theorem checked_passes {n : Nat} {s : State} {p : List Byte} {rest : Answer} (h : p.length = n) :
    checked true n s p rest = rest := by
  simp [checked, h]

theorem State.answer_jointRead_inUse {s : State} {i : Nat} {j : Joint} (hi : i < 65536) (hj : s.joint? i = some j) :
    s.answer (b16 i) .jointRead = ⟨s, .ok, j.content i⟩ := by
  simp only [State.answer, State.jointRead, checked_passes (b16_length i), u16At_b16_alone hi, hj, done]

theorem State.answer_jointRead_unused {s : State} {i : Nat} (hi : i < 65536) (hj : s.joint? i = none) :
    s.answer (b16 i) .jointRead = ⟨s, .notFound, []⟩ := by
  simp only [State.answer, State.jointRead, checked_passes (b16_length i), u16At_b16_alone hi, hj, refuse]

theorem State.answer_jointFind_found {s : State} {n i : Nat} (hn : n < 65536) (hf : s.findId n = some i) :
    s.answer (b16 n) .jointFind = ⟨s, .ok, b16 i⟩ := by
  simp only [State.answer, State.jointFind, checked_passes (b16_length n), u16At_b16_alone hn, hf, done]

theorem State.answer_jointFind_unknown {s : State} {n : Nat} (hn : n < 65536) (hf : s.findId n = none) :
    s.answer (b16 n) .jointFind = ⟨s, .notFound, []⟩ := by
  simp only [State.answer, State.jointFind, checked_passes (b16_length n), u16At_b16_alone hn, hf, refuse]

/-! ## The obligation -/

/-- Settles O5: each of the four answers leaves the state as it was, so each reply is delivered in the old state. -/
theorem jointReadsReply : Obligations.JointReadsReply := by
  intro s tag ready
  refine ⟨fun i j hi hj => ?_, fun i hi hj => ?_, fun i j hj hid first => ?_, fun n hn unknown => ?_⟩
  · exact State.request_refused ready .jointRead tag (b16 i) (State.answer_jointRead_inUse hi hj)
  · exact State.request_refused ready .jointRead tag (b16 i) (State.answer_jointRead_unused hi hj)
  · have found : s.cleared.findId j.identity.id = some i := State.findId_first hj first
    exact State.request_refused ready .jointFind tag (b16 j.identity.id) (State.answer_jointFind_found hid found)
  · have notFound : s.cleared.findId n = none := State.findId_eq_none_iff.2 unknown
    exact State.request_refused ready .jointFind tag (b16 n) (State.answer_jointFind_unknown hn notFound)

end Sys2Proof.Machine
end

section
/-! O49: a dispatch round (R26, R27, R33 to R36). The search is a `find?` over the table's indices in strictly
monotone order, so it answers the extreme eligible index; an assignment leaves the current pass as it was and posts
nothing, because the assigned joint was PENDING and is now in work. -/

namespace Sys2Proof.Machine

/-! ## The search (R34) -/

/-- In a strictly ordered list the first element with a property is the least one that has it. -/
theorem find?_eq_some_iff_of_pairwise {α : Type} {r : α → α → Prop} [Std.Asymm r] {q : α → Bool} {a : α}
    {l : List α} (sorted : l.Pairwise r) :
    l.find? q = some a ↔ (a ∈ l ∧ q a = true) ∧ ∀ b ∈ l, q b = true → b = a ∨ r a b := by
  induction l with
  | nil => simp
  | cons x l ih =>
    obtain ⟨ahead, sorted⟩ := List.pairwise_cons.1 sorted
    cases hx : q x with
    | true =>
      rw [List.find?_cons_of_pos hx, Option.some_inj]
      constructor
      · rintro rfl
        exact ⟨⟨List.mem_cons_self, hx⟩, fun b mem _ =>
          (List.mem_cons.1 mem).imp_right (ahead b)⟩
      · rintro ⟨⟨mem, -⟩, least⟩
        rcases List.mem_cons.1 mem with rfl | mem
        · rfl
        · exact (least x List.mem_cons_self hx).elim id fun behind => (Std.Asymm.asymm _ _ behind (ahead a mem)).elim
    | false =>
      rw [List.find?_cons_of_neg (by simp [hx]), ih sorted]
      have skip : ∀ b, q b = true → b ≠ x := fun b hb e => by simp [e, hx] at hb
      simp only [List.mem_cons]
      grind

theorem searchOrder_lower {h : HeadNo} (lower : h.val % 2 = 0) (n : Nat) : searchOrder h n = List.range n := by
  simp [searchOrder, isLower, lower]

theorem searchOrder_upper {h : HeadNo} (upper : h.val % 2 ≠ 0) (n : Nat) :
    searchOrder h n = (List.range n).reverse := by
  simp [searchOrder, isLower, upper]

/-- The test the search makes at an index is the six conditions. -/
theorem State.canTake_iff_eligible {s : State} {h : HeadNo} {p i : Nat} :
    s.CanTake h p i ↔ (s.joint? i).any (s.eligible h p) = true := by
  have gate (g : Option (Fin 4)) : s.gateOpen g = true ↔ ∀ k ∈ g, s.dispatcher.flags[k] = true := by
    cases g <;> simp [State.gateOpen]
  have span (t : Nat) : s.spanClear h p t = true ↔
      if h.val % 2 = 0 then max p t + s.station.clearance ≤ s.claimLo (neighbour h)
      else s.claimHi (neighbour h) + s.station.clearance ≤ min p t := by
    by_cases lower : h.val % 2 = 0 <;> simp [State.spanClear, isLower, lower]
  simp only [State.CanTake, State.eligible, Option.any_eq_true, Bool.and_eq_true, beq_iff_eq, gate, span, railOf]
  constructor
  · rintro ⟨j, t, hj, pending, pass, side, gates, hp, clear⟩
    exact ⟨j, hj, ⟨⟨⟨pending, pass⟩, side⟩, gates⟩, t, hp, clear⟩
  · rintro ⟨j, hj, ⟨⟨⟨pending, pass⟩, side⟩, gates⟩, t, hp, clear⟩
    exact ⟨j, t, hj, pending, pass, side, gates, hp, clear⟩

/-- A joint that can be taken is a record in use. -/
theorem State.CanTake.lt_length {s : State} {h : HeadNo} {p i : Nat} (can : s.CanTake h p i) :
    i < s.table.joints.length := by
  obtain ⟨j, -, hj, -⟩ := can
  exact (List.getElem?_eq_some_iff.1 hj).1

/-- R34: the search finds the lowest index that can be taken for a lower head, and the highest for an upper one. -/
theorem State.search_eq_some_iff {s : State} {h : HeadNo} {p i : Nat} : s.search h p = some i ↔
    s.CanTake h p i ∧ ∀ i', s.CanTake h p i' → if h.val % 2 = 0 then i ≤ i' else i' ≤ i := by
  have ascending : (List.range s.table.joints.length).Pairwise (· < ·) := List.pairwise_lt_range
  by_cases lower : h.val % 2 = 0
  · simp only [State.search, searchOrder_lower lower, find?_eq_some_iff_of_pairwise ascending, if_pos lower,
      ← State.canTake_iff_eligible, List.mem_range, le_iff_eq_or_lt, eq_comm (a := i)]
    exact and_congr ⟨And.right, fun can => ⟨can.lt_length, can⟩⟩
      ⟨fun least i' can => least i' can.lt_length can, fun least i' _ can => least i' can⟩
  · have descending : (List.range s.table.joints.length).reverse.Pairwise (· > ·) := List.pairwise_reverse.2 ascending
    simp only [State.search, searchOrder_upper lower, find?_eq_some_iff_of_pairwise descending, if_neg lower,
      ← State.canTake_iff_eligible, List.mem_reverse, List.mem_range, le_iff_eq_or_lt]
    exact and_congr ⟨And.right, fun can => ⟨can.lt_length, can⟩⟩
      ⟨fun greatest i' can => greatest i' can.lt_length can, fun greatest i' _ can => greatest i' can⟩

/-! ## The table's change at an assignment (R4, R20 to R22) -/

/-- A test of some record is blind to replacing a record by one that tests alike. -/
theorem any_set_of_eq {α : Type} {l : List α} {i : Nat} {a b : α} {f : α → Bool} (ha : l[i]? = some a)
    (alike : f b = f a) : (l.set i b).any f = l.any f := by
  obtain ⟨inUse, rfl⟩ := List.getElem?_eq_some_iff.1 ha
  have same : (l.set i b).map f = l.map f :=
    calc (l.set i b).map f
      _ = (l.set i l[i]).map f := by rw [List.map_set, List.map_set, alike]
      _ = l.map f := by rw [List.set_getElem_self]
  have any_eq (l : List α) : l.any f = (l.map f).any id := by rw [List.any_map, Function.id_comp]
  rw [any_eq, same, ← any_eq]

/-- The current pass does not see a record replaced by one of the same pass that counts alike. -/
theorem currentPassOf_set {js : List Joint} {i : Nat} {j k : Joint} (hj : js[i]? = some j)
    (counts : k.counts = j.counts) (pass : k.identity.pass = j.identity.pass) :
    currentPassOf (js.set i k) = currentPassOf js := by
  have any (p : Pass) : (js.set i k).any (fun x => x.counts && x.identity.pass == p) =
      js.any (fun x => x.counts && x.identity.pass == p) := any_set_of_eq hj (by simp only [counts, pass])
  simp only [currentPassOf, any]

/-- PASS_ADVANCED is not posted where the current pass is the old one (R21). -/
theorem State.postAdvance_unchanged (s : State) : s.postAdvance s.table.currentPass = s := by
  cases hp : s.table.currentPass <;> simp [State.postAdvance, hp]

/-- While a joint is in work the blocked condition does not hold (R22). -/
theorem State.blockedBy_inWork {s : State} (busy : s.anyInWork = true) : s.blockedBy = none := by
  simp only [State.blockedBy, busy]
  split <;> simp

/-- The state with the joint record at an index replaced. -/
def State.setJoint (s : State) (i : Nat) (k : Joint) : State :=
  { s with table := { s.table with joints := s.table.joints.set i k } }

theorem State.modJoint_eq_setJoint {s : State} {i : Nat} {f : Joint → Joint} {j : Joint} (hj : s.joint? i = some j) :
    s.modJoint i f = s.setJoint i (f j) := by
  have joints := State.modJoint_joints (f := f) hj
  simp only [State.modJoint, State.setJoint] at joints ⊢
  rw [joints]

/-- With a joint in work and the current pass as its rule has it, recomputing the pass changes nothing (R20 to R22). -/
theorem State.recompute_inWork {s : State} (rule : s.PassRule) (busy : s.anyInWork = true) (was : Bool) :
    s.recompute was = s := by
  have blocked : s.postBlocked was = s := by simp only [State.postBlocked, State.blockedBy_inWork busy]
  rw [State.recompute, ← rule, State.postAdvance_unchanged, blocked]

/-- Assigning a PENDING joint changes its record alone: the current pass stays, and nothing is posted. -/
theorem State.changeJoint_assignTo {s : State} {i : Nat} {j : Joint} (rule : s.PassRule) (hj : s.joint? i = some j)
    (pending : j.state = .pending) (h : HeadNo) :
    s.changeJoint i (Joint.assignTo h) = s.setJoint i (j.assignTo h) := by
  have counts : (j.assignTo h).counts = j.counts := by
    simp [Joint.counts, Joint.assignTo, JointState.inWork, pending]
  have rule' : (s.setJoint i (j.assignTo h)).PassRule := rule.trans (currentPassOf_set hj counts rfl).symm
  have busy : (s.setJoint i (j.assignTo h)).anyInWork = true :=
    List.any_eq_true.2 ⟨j.assignTo h, List.mem_set (List.getElem?_eq_some_iff.1 hj).1 _, rfl⟩
  rw [State.changeJoint, State.modJoint_eq_setJoint hj, State.recompute_inWork rule' busy]

/-! ## The assignment (R27, R35, R36) -/

/-- The state in which an IDLE head standing at `p` has been given the joint at `i` and started its travel to `t`,
before the pre-heat request (R35). -/
def State.travelling (s : State) (h : HeadNo) (p i t : Nat) (j : Joint) : State :=
  { (s.setHead h { s.head h with
      state := .travel, held := some i, target := some t, phaseTimer := some s.station.travelTime,
      order := some (.move t) }).setClaim h (some ⟨min p t, max p t⟩) with
    table := { s.table with joints := s.table.joints.set i { j with
      state := .assigned, head := some h, pocket := none } }
    outgoing := s.outgoing ++ [.drive h (.move t)] }

@[simp] theorem State.travelling_heater (s : State) (h : HeadNo) (p i t : Nat) (j : Joint) :
    (s.travelling h p i t j).heater = s.heater := rfl

theorem State.travelling_joint {s : State} {i : Nat} {j : Joint} (hj : s.joint? i = some j) (h : HeadNo) (p t : Nat) :
    (s.travelling h p i t j).joint? i = some (j.assignTo h) :=
  List.getElem?_set_self (List.getElem?_eq_some_iff.1 hj).1

/-- The assignment's first three effects give the travelling state; the fourth is the pre-heat request. -/
theorem State.assign_eq {s : State} {i : Nat} {j : Joint} (rule : s.PassRule) (hj : s.joint? i = some j)
    (pending : j.state = .pending) (h : HeadNo) (p t : Nat) :
    s.assign h p i t = (s.travelling h p i t j).preHeat i := by
  rw [State.assign, State.changeJoint_assignTo rule hj pending]
  congr 1
  simp [State.travelling, State.setJoint, State.enterPhase, State.sendDrive, State.modHead, State.setHead,
    State.setClaim, State.head, Joint.assignTo, travelSpan, State.station]

/-- A joint without a rivet to heat, by its kind, its grip or the rivet table, is not pre-heated (R36). -/
theorem State.preHeat_eq_self {s : State} {i : Nat} {j : Joint} (hj : s.joint? i = some j)
    (cold : j.identity.kind = .hole ∨ j.identity.expectedGrip = none ∨
      ∃ g, j.identity.expectedGrip = some g ∧ lookupRivet s.heater.table j.identity.diameter g = none) :
    s.preHeat i = s := by
  simp only [State.preHeat, hj]
  rcases cold with hole | noGrip | ⟨g, grip, noCode⟩
  · rw [hole]
  · rw [noGrip]
    cases j.identity.kind <;> rfl
  · rw [grip]
    cases j.identity.kind
    · simp only [noCode]
    · rfl

/-- A RIVET joint whose expected grip has a code in the rivet table seeks it with a PRE-HEAT order (R36). -/
theorem State.preHeat_eq_seekAs {s : State} {i g : Nat} {j : Joint} {code : RivetCode} (hj : s.joint? i = some j)
    (rivet : j.identity.kind = .rivet) (grip : j.identity.expectedGrip = some g)
    (hc : lookupRivet s.heater.table j.identity.diameter g = some code) :
    s.preHeat i = s.seekAs i code .preHeat false := by
  simp only [State.preHeat, hj, rivet, grip, hc]

/-! ## One head of a round (R33) -/

theorem State.serveHead_not_idle {s : State} {h : HeadNo} (busy : (s.head h).state ≠ .idle) : s.serveHead h = s :=
  if_neg busy

theorem State.serveHead_nothing_found {s : State} {h : HeadNo} {p : Nat} (at_p : (s.head h).position = some p)
    (nothing : s.search h p = none) : s.serveHead h = s := by
  simp only [State.serveHead, at_p, nothing, ite_self]

theorem State.serveHead_found {s : State} {h : HeadNo} {p i t : Nat} {j : Joint} (idle : (s.head h).state = .idle)
    (at_p : (s.head h).position = some p) (found : s.search h p = some i) (hj : s.joint? i = some j)
    (target : j.corrected = some t) : s.serveHead h = s.assign h p i t := by
  simp only [State.serveHead, idle, at_p, found, hj, Option.bind_some, target, if_true]

/-- What the search finds is PENDING (R34). -/
theorem State.pending_of_search {s : State} {h : HeadNo} {p i : Nat} {j : Joint} (found : s.search h p = some i)
    (hj : s.joint? i = some j) : j.state = .pending := by
  obtain ⟨⟨k, _, hk, pending, -⟩, -⟩ := State.search_eq_some_iff.1 found
  rw [hj, Option.some_inj] at hk
  exact hk ▸ pending

/-! ## The round -/

theorem State.round_not_running {s : State} (m : s.mode ≠ .running) : s.round = s := if_neg m

/-- R33: a round serves the heads in ascending number. -/
theorem State.round_running {s : State} (m : s.mode = .running) :
    s.round = (((s.serveHead 0).serveHead 1).serveHead 2).serveHead 3 := by
  simp only [State.round, m, if_true, headNos, List.foldl]

/-- Settles O49: the search by its order, and an IDLE head's turn as the travelling state with its pre-heat request. -/
theorem dispatchRound : Obligations.DispatchRound := by
  refine ⟨fun _ _ _ _ => State.search_eq_some_iff, fun s => ⟨State.round_not_running, State.round_running,
    fun _ => State.serveHead_not_idle, fun _ _ => State.serveHead_nothing_found, ?_⟩⟩
  intro h p i t j u rule idle at_p found hj target hu
  have turn : s.serveHead h = (s.travelling h p i t j).preHeat i :=
    (State.serveHead_found idle at_p found hj target).trans
      (State.assign_eq rule hj (State.pending_of_search found hj) h p t)
  have held := State.travelling_joint hj h p t
  rw [turn, show u = s.travelling h p i t j from hu]
  exact ⟨State.preHeat_eq_self held, fun g code rivet grip hc => State.preHeat_eq_seekAs held rivet grip hc⟩

end Sys2Proof.Machine
end

section
/-! O17: PECK_SET writes a head's peck profile (R49, R50). The fields of its payload are read back first, then what it
answers in each case; `State.request_replies` delivers the reply. -/

namespace Sys2Proof.Machine

/-! ## The checks and the fields of a request -/

/-- A request in a mode that excludes it is refused before anything else is looked at (R180). -/
theorem checked_excluded (n : Nat) (s : State) (p : List Byte) (rest : Answer) :
    checked false n s p rest = refuse s .wrongMode := rfl

/-- A field that stands behind the bytes of `l`. -/
theorem u16At_append (l m : List Byte) (i : Nat) : u16At (l ++ m) (l.length + i) = u16At m i := by
  simp only [u16At, byteAt, Nat.add_assoc, List.getD_append_right _ _ _ _ (Nat.le_add_right _ _), Nat.add_sub_cancel_left]

theorem finOf_val {n : Nat} (i : Fin n) : finOf n i.val = some i := by simp [finOf]

theorem finOf_of_le {n x : Nat} (h : n ≤ x) : finOf n x = none := by simp [finOf, Nat.not_lt.2 h]

theorem withHead_named {p : List Byte} {h : HeadNo} (named : byteAt p 0 = h.val) (s : State) (f : HeadNo → Answer) :
    withHead s p f = f h := by
  simp only [withHead, named, finOf_val]

theorem withHead_above {p : List Byte} (above : 4 ≤ byteAt p 0) (s : State) (f : HeadNo → Answer) :
    withHead s p f = refuse s .badField := by
  simp only [withHead, finOf_of_le above]

/-! ## The profile (R49) -/

/-- The profiles that PECK_SET takes. -/
theorem profileOf_eq_some_iff {a b : Nat} {q : PeckProfile} :
    profileOf a b = some q ↔ b = 0 ∧ q = ⟨0, 0⟩ ∨ 0 < b ∧ b ≤ 2000 ∧ a < b ∧ q = ⟨a, b⟩ := by
  unfold profileOf
  split
  next zero => simp [zero, eq_comm]
  next nonzero => simp [nonzero, Nat.pos_iff_ne_zero, and_assoc, eq_comm]

/-- The profiles that PECK_SET refuses. -/
theorem profileOf_eq_none_iff {a b : Nat} : profileOf a b = none ↔ 2000 < b ∨ 0 < b ∧ b ≤ a := by
  unfold profileOf
  split
  next zero => simp [zero]
  next nonzero =>
    simp only [ite_eq_right_iff, reduceCtorEq, imp_false]
    omega

theorem Head.setProfile_drill {x : Head} (drill : x.state = .drill) (q : PeckProfile) :
    x.setProfile q = { x with buffered := some q } := if_pos drill

theorem Head.setProfile_not_drill {x : Head} (other : x.state ≠ .drill) (q : PeckProfile) :
    x.setProfile q = { x with active := q, buffered := none } := if_neg other

/-! ## The fields of the payload (Table 10-3) -/

theorem byteAt_peckPayload {n : Nat} (hn : n < 256) (a b : Nat) : byteAt (b8 n ++ b16 a ++ b16 b) 0 = n :=
  byteAt_b8 hn (b16 a ++ b16 b)

theorem peckPayload_length (n a b : Nat) : (b8 n ++ b16 a ++ b16 b).length = 5 := rfl

theorem u16At_peckPayload_a {a : Nat} (ha : a < 65536) (n b : Nat) : u16At (b8 n ++ b16 a ++ b16 b) 1 = a := by
  calc u16At (b8 n ++ b16 a ++ b16 b) 1
    _ = u16At (b16 a ++ b16 b) 0 := u16At_append (b8 n) (b16 a ++ b16 b) 0
    _ = a := u16At_b16 ha _

theorem u16At_peckPayload_b {b : Nat} (hb : b < 65536) (n a : Nat) : u16At (b8 n ++ b16 a ++ b16 b) 3 = b := by
  calc u16At (b8 n ++ b16 a ++ b16 b) 3
    _ = u16At (b16 b) 0 := u16At_append (b8 n ++ b16 a) (b16 b) 0
    _ = b := u16At_b16_alone hb

/-! ## What PECK_SET answers -/

/-- In ABORTED every PECK_SET is refused with WRONG_MODE, whatever its payload. -/
theorem State.answer_peckSet_aborted {s : State} (aborted : s.mode = .aborted) (p : List Byte) :
    s.answer p .peckSet = ⟨s, .wrongMode, []⟩ := by
  simp only [State.answer, State.peckSet, aborted, bne_self_eq_false, checked_excluded, refuse]

/-- Outside ABORTED a head above H3 is refused with BAD_FIELD. -/
theorem State.answer_peckSet_above {s : State} {n : Nat} (mode : s.mode ≠ .aborted) (above : 4 ≤ n) (byte : n < 256)
    (a b : Nat) : s.answer (b8 n ++ b16 a ++ b16 b) .peckSet = ⟨s, .badField, []⟩ := by
  have named : 4 ≤ byteAt (b8 n ++ b16 a ++ b16 b) 0 := above.trans_eq (byteAt_peckPayload byte a b).symm
  rw [State.answer, State.peckSet, bne_iff_ne.2 mode, checked_passes (peckPayload_length n a b),
    withHead_above named, refuse]

section Profile

variable {s : State} {a b : Nat} (mode : s.mode ≠ .aborted) (ha : a < 65536) (hb : b < 65536) (h : HeadNo)
include mode ha hb

/-- Outside ABORTED a profile out of range is refused with BAD_FIELD. -/
theorem State.answer_peckSet_refused (bad : profileOf a b = none) :
    s.answer (b8 h.val ++ b16 a ++ b16 b) .peckSet = ⟨s, .badField, []⟩ := by
  have named : byteAt (b8 h.val ++ b16 a ++ b16 b) 0 = h.val := byteAt_peckPayload (by omega) a b
  simp only [State.answer, State.peckSet, bne_iff_ne.2 mode, checked_passes (peckPayload_length h.val a b),
    withHead_named named, u16At_peckPayload_a ha, u16At_peckPayload_b hb, bad, refuse]

/-- Outside ABORTED a profile in range is set at the head, and the reply carries both of the head's profiles. -/
theorem State.answer_peckSet_taken {q : PeckProfile} {x : Head} (good : profileOf a b = some q)
    (set : (s.head h).setProfile q = x) :
    s.answer (b8 h.val ++ b16 a ++ b16 b) .peckSet =
      ⟨s.setHead h x, .ok, x.active.bytes ++ bufferBytes x.buffered⟩ := by
  have named : byteAt (b8 h.val ++ b16 a ++ b16 b) 0 = h.val := byteAt_peckPayload (by omega) a b
  simp only [State.answer, State.peckSet, bne_iff_ne.2 mode, checked_passes (peckPayload_length h.val a b),
    withHead_named named, u16At_peckPayload_a ha, u16At_peckPayload_b hb, good, done, State.modHead, set,
    State.setHead_head]

end Profile

/-! ## The obligation -/

/-- Settles O17: each answer is delivered as its reply; the refusals leave the state as it was. -/
theorem peckSetTakes : Obligations.PeckSetTakes := by
  intro s tag h a b q ready ha hb
  refine ⟨fun aborted p => ?_, fun mode => ⟨fun range => ⟨fun drill => ?_, fun other => ?_⟩, fun bad => ?_,
    fun n above byte => ?_⟩⟩
  · exact State.request_refused ready .peckSet tag p (State.answer_peckSet_aborted (s := s.cleared) aborted p)
  · have answer := State.answer_peckSet_taken (s := s.cleared) mode ha hb h (profileOf_eq_some_iff.2 range)
      (Head.setProfile_drill drill q)
    exact State.request_replies ready .peckSet tag _ answer rfl
  · have answer := State.answer_peckSet_taken (s := s.cleared) mode ha hb h (profileOf_eq_some_iff.2 range)
      (Head.setProfile_not_drill other q)
    exact State.request_replies ready .peckSet tag _ answer rfl
  · exact State.request_refused ready .peckSet tag _
      (State.answer_peckSet_refused (s := s.cleared) mode ha hb h (profileOf_eq_none_iff.2 bad))
  · exact State.request_refused ready .peckSet tag _
      (State.answer_peckSet_above (s := s.cleared) mode above byte a b)

end Sys2Proof.Machine
end

section
/-! O42: SET_DONE verifies the set and hands its permit on (R83, R94, R131, R132, R134). The conversion and the
verification are arithmetic on the channel's figures. A report depends on the latches, the time and the mode alone, so
the mark's report is the same before and after the channel and the joint are written; with this the event is one update
of the state, the grants following it. -/

namespace Sys2Proof.Machine

/-! ## The set work and its verification (R81, R94, R132) -/

/-- EV tells that the accumulator lies outside 32 bits. -/
theorem convert_snd_iff {a : Int} : (convert a).2 = true ↔ a < -2147483648 ∨ 2147483647 < a := by
  unfold convert
  split_ifs <;> simp <;> omega

/-- The conversion gives the limit on the side where the accumulator leaves 32 bits, and rounds within them. -/
theorem convert_fst_eq {a y : Int} (below : a < -2147483648 → y = -32768) (above : 2147483647 < a → y = 32767)
    (within : ¬ (a < -2147483648 ∨ 2147483647 < a) → y = min 32767 ((a + 32768) / 65536)) : (convert a).1 = y := by
  unfold convert
  split_ifs with high low carry
  · exact (above high).symm
  · exact (below low).symm
  all_goals
    rw [within (not_or_intro low high)]
    omega

/-- What a channel is after its set work is formed, its conversion being known (R94). -/
theorem Channel.formWork_eq {ch : Channel} {work : Int} {ev : Bool} (hwork : ch.work = work)
    (hev : ev = true ↔ ch.ev = true ∨ ch.accumulator < -2147483648 ∨ 2147483647 < ch.accumulator) :
    ch.formWork = { ch with setWork := some work, ev, machine := .finished, holder := none } := by
  have ev_eq : (ch.ev || (convert ch.accumulator).2) = ev := by
    rw [Bool.eq_iff_iff, Bool.or_eq_true, convert_snd_iff, hev]
  rw [Channel.formWork, hwork, ev_eq]

/-- The outcome is that of the first check that fails, and GOOD where none does. -/
theorem verifySet_eq {target workMin workMax work peak : Int} {out : HeadOutcome}
    (first : peak < target ∧ out = .rejected .setForceShort ∨
      target ≤ peak ∧ work < workMin ∧ out = .rejected .setWorkLow ∨
      target ≤ peak ∧ workMin ≤ work ∧ workMax < work ∧ out = .rejected .setWorkHigh ∨
      target ≤ peak ∧ workMin ≤ work ∧ work ≤ workMax ∧ out = .good) :
    verifySet target workMin workMax work peak = out := by
  unfold verifySet
  rcases first with ⟨short, rfl⟩ | ⟨force, low, rfl⟩ | ⟨force, least, high, rfl⟩ | ⟨force, least, greatest, rfl⟩
  · rw [if_pos short]
  · rw [if_neg force.not_gt, if_pos low]
  · rw [if_neg force.not_gt, if_neg least.not_gt, if_pos high]
  · rw [if_neg force.not_gt, if_neg least.not_gt, if_neg greatest.not_gt]

/-! ## The mark and its report (R83, R164) -/

/-- Posting changes the reports alone, and depends on the reports, the time and the mode alone. -/
theorem State.post_eq_of_same {s t : State} (reports : t.reports = s.reports) (time : t.time = s.time)
    (mode : t.mode = s.mode) (k : EventKind) (n : Nat) :
    t.post k n = { t with reports := (s.post k n).reports } := by
  have latch : t.latch k = s.latch k := by rw [State.latch, reports, State.latch]
  have room : t.reportRoom = s.reportRoom := by rw [State.reportRoom, reports, State.reportRoom]
  have record (p : Place) : t.firstRecord p n = s.firstRecord p n := by
    rw [State.firstRecord, time, mode, State.firstRecord]
  simp only [State.post, latch, room, record]
  cases (s.latch k).held with
  | some r => simp only [State.holdReport, State.setLatch, latch, reports]
  | none =>
    by_cases queued : ((s.latch k).enabled && s.reportRoom) = true
    · simp only [if_pos queued, State.enqueueReport, latch, reports]
    · simp only [if_neg queued, State.holdReport, State.setLatch, latch, reports]

/-- So does the occurrence of a joint's mark. -/
theorem State.markOf_eq_of_same {s t : State} (reports : t.reports = s.reports) (time : t.time = s.time)
    (mode : t.mode = s.mode) (k : EventKind) (i : Nat) (was now : Bool) :
    t.markOf k i was now = { t with reports := (s.markOf k i was now).reports } := by
  unfold State.markOf
  split
  · exact State.post_eq_of_same reports time mode k i
  · rw [← reports]

/-- A mark's report leaves the joints as they were. -/
theorem State.markOf_joint (s : State) (k : EventKind) (i : Nat) (was now : Bool) (n : Nat) :
    (s.markOf k i was now).joint? n = s.joint? n := by
  rw [State.markOf_eq_of_same (s := s) rfl rfl rfl]
  rfl

/-- A record replaced by itself leaves the table as it was. -/
theorem State.setJoint_self {s : State} {i : Nat} {j : Joint} (hj : s.joint? i = some j) : s.setJoint i j = s := by
  obtain ⟨inUse, rfl⟩ := List.getElem?_eq_some_iff.1 hj
  rw [State.setJoint, List.set_getElem_self]

/-- The joint with its flag set where a mark is called for. -/
def Joint.marked (j : Joint) (now : Bool) : Joint :=
  { j with result := { j.result with saturated := j.result.saturated || now } }

theorem Joint.marked_eq_self {j : Joint} {now : Bool} (kept : (j.result.saturated || now) = j.result.saturated) :
    j.marked now = j := by
  rw [Joint.marked, kept]

/-- A mark that is called for sets the held joint's flag, and is posted where the flag was not set before. -/
theorem State.markSaturated_eq {s : State} {h : HeadNo} {i : Nat} {j : Joint} (held : (s.head h).held = some i)
    (hj : s.joint? i = some j) (now : Bool) :
    (if now then s.markSaturated h else s) =
      (s.setJoint i (j.marked now)).markOf .signalSaturated i j.result.saturated now := by
  have joint : s.heldJoint h = some j := by rw [State.heldJoint, held, Option.bind_some, hj]
  cases now with
  | false =>
    have unmarked : j.marked false = j := Joint.marked_eq_self (Bool.or_false _)
    simp [State.markOf, unmarked, State.setJoint_self hj]
  | true =>
    cases before : j.result.saturated with
    | false =>
      simp [State.markSaturated, State.markOf, State.writeResult, State.modJoint_eq_setJoint hj, Joint.marked, held,
        joint, before]
    | true =>
      have unmarked : j.marked true = j := Joint.marked_eq_self ((Bool.or_true _).trans before.symm)
      simp [State.markSaturated, State.markOf, unmarked, State.setJoint_self hj, held, joint, before]

/-- An index in use reads back the record written there. -/
theorem State.joint_setJoint {s : State} {i : Nat} {j : Joint} (hj : s.joint? i = some j) (a : Joint) :
    (s.setJoint i a).joint? i = some a :=
  List.getElem?_set_self (List.getElem?_eq_some_iff.1 hj).1

/-! ## The set's end (R131, R134) -/

/-- The head with its outcome as it enters RELEASE (R52, R56). -/
def Head.releasing (x : Head) (out : HeadOutcome) (timeout : Nat) : Head :=
  { x with state := .release, outcome := some out, phaseTimer := some timeout, order := some .release }

/-- The joint with the figures of its set, and its flag set by the channel's MV and EV (R83, R131 step 3). -/
def Joint.withSet (j : Joint) (code : RivetCode) (work peak : Int) (ch : Channel) : Joint :=
  { j with result := { j.result with
      code := some code, setWork := some work, peakForce := some peak
      saturated := j.result.saturated || ch.mv || ch.ev } }

/-- The state in which a head has ended its set with outcome `out`, the channel being left as `ch`: the mark, RELEASE,
the permit given back and the figures in the joint's result, before the grants (R131). -/
def State.setEnded (s : State) (h : HeadNo) (k : PermitNo) (g : PermitGrant) (j : Joint) (ch : Channel)
    (work peak : Int) (out : HeadOutcome) : State :=
  { (((s.markOf .signalSaturated g.joint j.result.saturated (ch.mv || ch.ev)).setHead h
        ((s.head h).releasing out s.station.releaseTime)).setChannel (setChannelOf k) ch).setPermit k none with
    table := { s.table with joints := s.table.joints.set g.joint (j.withSet g.code work peak ch) }
    outgoing := s.outgoing ++ [.drive h .release] }

/-- The end of a set leaves the permit wait queue as it was. -/
theorem State.setEnded_queue (s : State) (h : HeadNo) (k : PermitNo) (g : PermitGrant) (j : Joint) (ch : Channel)
    (work peak : Int) (out : HeadOutcome) : (s.setEnded h k g j ch work peak out).arbiter.queue = s.arbiter.queue := by
  rw [State.setEnded, State.markOf_eq_of_same (s := s) rfl rfl rfl]
  rfl

/-- With nobody waiting there is nothing to grant (R127). -/
theorem State.grantAll_nobody {s : State} (nobody : s.arbiter.queue = []) : s.grantAll = s := by
  rw [State.grantAll, nobody]
  rfl

/-- A head that is given its outcome and enters RELEASE: one write of its record, and one order (R56). -/
theorem State.enterRelease_outcome (s : State) (h : HeadNo) (out : HeadOutcome) :
    (s.modHead h (fun x => { x with outcome := some out })).enterRelease h =
      { s.setHead h ((s.head h).releasing out s.station.releaseTime) with
        outgoing := s.outgoing ++ [.drive h .release] } := by
  simp [State.enterRelease, State.enterPhase, State.sendDrive, State.modHead, State.setHead, State.head,
    Head.releasing, State.station]

section SetEnding

variable {s : State} {h : HeadNo} {k : PermitNo} {g : PermitGrant} {j : Joint} {ch : Channel}

/-- The channel, the mark and the figures of a set, as one write of the joint beside the mark's report. -/
theorem State.figures_eq (held : (s.head h).held = some g.joint) (hj : s.joint? g.joint = some j) (work peak : Int) :
    (if ch.mv || ch.ev then (s.setChannel (setChannelOf k) ch).markSaturated h
      else s.setChannel (setChannelOf k) ch).modJoint g.joint
        (fun j => { j with result := j.result.withSet g.code work peak }) =
      { (s.setChannel (setChannelOf k) ch).setJoint g.joint (j.withSet g.code work peak ch) with
        reports := (s.markOf .signalSaturated g.joint j.result.saturated (ch.mv || ch.ev)).reports } := by
  have hj' : (s.setChannel (setChannelOf k) ch).joint? g.joint = some j := hj
  rw [State.markSaturated_eq (s := s.setChannel (setChannelOf k) ch) held hj',
    State.modJoint_eq_setJoint ((State.markOf_joint ..).trans (State.joint_setJoint hj' _)),
    State.markOf_eq_of_same (t := (s.setChannel (setChannelOf k) ch).setJoint g.joint _) (s := s) rfl rfl rfl]
  simp only [State.setJoint, List.set_set, JointResult.withSet, Joint.withSet, Joint.marked, Bool.or_assoc]

/-- SET_DONE at the holder of a permit ends the set with the outcome of its verification, and grants what it can. -/
theorem State.finishSet_eq {cls : RivetClass} {target work peak : Int} {out : HeadOutcome}
    (held : (s.head h).held = some g.joint) (hj : s.joint? g.joint = some j) (force : g.forceTarget = some target)
    (defined : s.heater.classes[g.code] = some cls) (formed : (s.channel (setChannelOf k)).formWork = ch)
    (hwork : (s.channel (setChannelOf k)).work = work) (hpeak : (s.channel (setChannelOf k)).peakHanded = peak)
    (verified : verifySet target cls.workMin cls.workMax work peak = out) :
    s.finishSet h k g = (s.setEnded h k g j ch work peak out).grantAll := by
  have settings : s.rivetClass g.code = cls := by rw [State.rivetClass, defined, Option.getD_some]
  simp only [State.finishSet, settings, force, Option.getD_some, formed, hwork, hpeak, verified,
    State.figures_eq held hj, State.enterRelease_outcome]
  rw [State.setEnded, State.markOf_eq_of_same (s := s) rfl rfl rfl]
  rfl

end SetEnding

/-- SET_DONE in SET, at the holder of a permit. -/
theorem State.setDone_eq_finishSet {s : State} {h : HeadNo} {k : PermitNo} {g : PermitGrant}
    (set : (s.head h).state = .set) (holds : s.permitOf h = some k) (grant : s.permit k = some g) :
    s.setDone h = s.finishSet h k g := by
  simp only [State.setDone, set, holds, grant, if_true]

/-- SET_DONE on a quiet part is its effect, which leaves the link and the controller as they were. -/
theorem State.exec_setDone {s v : State} {h : HeadNo} (quiet : s.Quiet) (effect : s.cleared.setDone h = v) :
    exec (.setDone h) s = .next v.transmitTurn := by
  obtain ⟨-, control, link, -⟩ := effect ▸ State.setDone_frame s.cleared h
  exact congrArg Host.Outcome.next (State.command_next quiet effect link (congrArg ModeControl.restartMark control)
    (congrArg ModeControl.pendingSet control))

/-! ## The obligation -/

/-- Settles O42: the event's effect is the set's end, with the outcome of the first failing check, and the grants after
it, of which there are none where nobody waits. -/
theorem setVerified : Obligations.SetVerified := by
  intro s h k g c j cls ch target work peak outside out quiet set holds grant held hj hc hch force defined houtside
    below above within hpeak first ev u v hev hu hv
  subst hc hch houtside hu
  obtain rfl : v = s.cleared.setEnded h k g j { s.channel (setChannelOf k) with
    setWork := some work, ev, machine := .finished, holder := none } work peak out := hv
  have work_eq : (s.channel (setChannelOf k)).work = work := convert_fst_eq below above within
  have effect := (State.setDone_eq_finishSet (s := s.cleared) set holds grant).trans
    (State.finishSet_eq (s := s.cleared) held hj force defined (Channel.formWork_eq work_eq hev) work_eq hpeak.symm
      (verifySet_eq first))
  refine ⟨State.exec_setDone quiet effect, fun nobody => State.exec_setDone quiet (effect.trans ?_)⟩
  exact State.grantAll_nobody ((State.setEnded_queue ..).trans nobody)

end Sys2Proof.Machine
end

section
/-! O27: an occurrence at its latch (R164, R165). `State.post` has three ways to go, and each is one of the two moves
by which a latch takes a record. -/

namespace Sys2Proof.Machine

theorem State.reportRoom_iff {s : State} : s.reportRoom = true ↔ s.reports.queue.length < 8 := decide_eq_true_iff

section Occurrence

variable {s : State} {k : EventKind}

/-- A first occurrence of an enabled kind enters the report queue where it has room. -/
theorem State.post_queued (clear : (s.latch k).held = none) (enabled : (s.latch k).enabled = true)
    (room : s.reports.queue.length < 8) (n : Nat) : s.post k n = s.enqueueReport k (s.firstRecord .queued n) := by
  have may : ((s.latch k).enabled && s.reportRoom) = true := by rw [enabled, State.reportRoom_iff.2 room, Bool.and_self]
  simp only [State.post, clear, if_pos may]

/-- A first occurrence of a disabled kind, or at a full queue, is held back. -/
theorem State.post_heldBack (clear : (s.latch k).held = none)
    (barred : (s.latch k).enabled = false ∨ 8 ≤ s.reports.queue.length) (n : Nat) :
    s.post k n = s.holdReport k (s.firstRecord .heldBack n) := by
  have mayNot : ¬ ((s.latch k).enabled && s.reportRoom) = true := by
    rw [Bool.and_eq_true, State.reportRoom_iff, not_and_or, Bool.not_eq_true, Nat.not_lt]
    exact barred
  simp only [State.post, clear, if_neg mayNot]

/-- A further occurrence is counted against the record that stands, wherever that is. -/
theorem State.post_counted {r : Held} (held : (s.latch k).held = some r) (n : Nat) :
    s.post k n = s.holdReport k r.again := by
  simp only [State.post, held]

end Occurrence

/-! ## The obligation -/

/-- Settles O27: the three cases of `State.post`, each read as the update of the reports that it is. -/
theorem occurrencePosted : Obligations.OccurrencePosted := by
  intro s k n
  exact ⟨fun clear enabled room => State.post_queued clear enabled room n,
    fun clear barred => State.post_heldBack clear barred n, fun _ held => State.post_counted held n⟩

end Sys2Proof.Machine
end

section
/-! O20: EVENT_CONFIG and EVENT_ACK (R168 to R170). A configured kind whose record may now leave its latch for the queue
does so in one update of the reports. The kinds of an acknowledgement are cleared one after another, which comes to
clearing each latch the mask names and dropping those kinds from the queue; a mask stands for its kinds because it
is the sum of distinct powers of 2. -/

namespace Sys2Proof.Machine

/-! ## The kinds by number (R162) -/

theorem EventKind.all_index (k : EventKind) : EventKind.all[k.index.val]? = some k := by cases k <;> rfl

theorem EventKind.mem_all (k : EventKind) : k ∈ EventKind.all := List.mem_of_getElem? k.all_index

theorem EventKind.all_above {n : Nat} (above : 14 ≤ n) : EventKind.all[n]? = none := List.getElem?_eq_none above

/-- The mask of some kinds as a sum over the set of their numbers. -/
theorem maskOf_eq_sum {ks : List EventKind} (distinct : ks.Nodup) :
    maskOf ks = ∑ i ∈ (ks.map (fun k => k.index.val)).toFinset, 2 ^ i := by
  have numbers : (ks.map (fun k => k.index.val)).Nodup :=
    distinct.map fun _ _ same => EventKind.index_inj (Fin.ext same)
  rw [List.sum_toFinset _ numbers, List.map_map, maskOf]
  rfl

/-- A mask stays below the bit of a kind beyond 13. -/
theorem maskOf_lt {ks : List EventKind} (distinct : ks.Nodup) : maskOf ks < 16384 := by
  rw [maskOf_eq_sum distinct]
  refine Nat.geomSum_lt (n := 14) le_rfl fun i mem => ?_
  obtain ⟨k, -, rfl⟩ := List.mem_map.1 (List.mem_toFinset.1 mem)
  exact k.index.isLt

/-- A mask has the bits of its kinds. -/
theorem maskOf_testBit {ks : List EventKind} (distinct : ks.Nodup) (k : EventKind) :
    (maskOf ks).testBit k.index = true ↔ k ∈ ks := by
  rw [← Nat.mem_bitIndices, ← List.mem_toFinset, maskOf_eq_sum distinct, Finset.toFinset_bitIndices_sum_two_pow,
    List.mem_toFinset, List.mem_map]
  exact ⟨fun ⟨_, mem, same⟩ => EventKind.index_inj (Fin.ext same) ▸ mem, fun mem => ⟨k, mem, rfl⟩⟩

theorem mem_kindsOf {m : Nat} {k : EventKind} : k ∈ kindsOf m ↔ m.testBit k.index = true := by
  simp only [kindsOf, List.mem_filter, EventKind.mem_all, true_and]

/-! ## Configuring a kind (R170) -/

section Configure

variable {s : State} {k : EventKind} {e : Bool}

/-- A held-back record that its kind's new settings and the queue's room let go enters the queue. -/
theorem State.configureKind_released {r : Held} (enabled : e = true) (room : s.reports.queue.length < 8)
    (held : (s.latch k).held = some r) (back : r.place = .heldBack) (p : Fin 8) :
    s.configureKind k e p = { s with reports :=
      { latches := s.reports.latches.set k.index ⟨true, p, some { r with place := .queued }⟩
        queue := s.reports.queue ++ [k] } } := by
  subst enabled
  have may (l : Latch) : (s.setLatch k l).reportRoom = true := State.reportRoom_iff.2 room
  simp only [State.configureKind, State.setLatch_latch, held, back, may, and_self, if_true, State.enqueueReport]
  simp only [State.setLatch, Vector.set_set]

/-- In every other case the settings alone are replaced. -/
theorem State.configureKind_stays
    (stays : ¬ (e = true ∧ s.reports.queue.length < 8 ∧ ∃ r, (s.latch k).held = some r ∧ r.place = .heldBack))
    (p : Fin 8) : s.configureKind k e p = s.setLatch k { s.latch k with enabled := e, priority := p } := by
  simp only [State.configureKind, State.setLatch_latch]
  cases held : (s.latch k).held with
  | none => rfl
  | some r =>
    exact if_neg fun ⟨back, enabled, room⟩ => stays ⟨enabled, State.reportRoom_iff.1 room, r, held, back⟩

end Configure

/-! ## Acknowledging kinds (R169) -/

theorem State.clearLatch_latch (s : State) (k l : EventKind) :
    (s.clearLatch k).latch l = if k = l then { s.latch k with held := none } else s.latch l :=
  s.latch_setLatch k l { s.latch k with held := none }

/-- Clearing some kinds writes the reports alone. -/
theorem State.clearKinds_reports (ks : List EventKind) (s : State) :
    ks.foldl State.clearLatch s = { s with reports := (ks.foldl State.clearLatch s).reports } := by
  induction ks generalizing s with
  | nil => rfl
  | cons k ks ih => exact ih (s.clearLatch k)

/-- Clearing some kinds clears their latches, each of which keeps its settings. -/
theorem State.clearKinds_latch (ks : List EventKind) (s : State) (l : EventKind) :
    (ks.foldl State.clearLatch s).latch l = if l ∈ ks then { s.latch l with held := none } else s.latch l := by
  induction ks generalizing s with
  | nil => rfl
  | cons k ks ih =>
    rw [List.foldl_cons, ih, State.clearLatch_latch]
    by_cases first : k = l
    · subst first
      simp
    · simp [first, Ne.symm first]

/-- Clearing some kinds takes them from the report queue. -/
theorem State.clearKinds_queue (ks : List EventKind) (s : State) :
    (ks.foldl State.clearLatch s).reports.queue = s.reports.queue.filter (· ∉ ks) := by
  induction ks generalizing s with
  | nil => simp
  | cons k ks ih =>
    calc (ks.foldl State.clearLatch (s.clearLatch k)).reports.queue
      _ = (s.reports.queue.filter (· ≠ k)).filter (· ∉ ks) := ih (s.clearLatch k)
      _ = s.reports.queue.filter (· ∉ k :: ks) := by
        rw [List.filter_filter]
        refine List.filter_congr fun l _ => ?_
        simp [Bool.and_comm]

/-! ## The fields of EVENT_CONFIG (Table 10-3) -/

/-- A byte that stands behind the bytes of `l`. -/
theorem byteAt_append (l m : List Byte) (i : Nat) : byteAt (l ++ m) (l.length + i) = byteAt m i := by
  simp only [byteAt, List.getD_append_right _ _ _ _ (Nat.le_add_right _ _), Nat.add_sub_cancel_left]

section ConfigPayload

variable {k e p : Nat}

theorem byteAt_configPayload_kind (hk : k < 256) : byteAt (b8 k ++ b8 e ++ b8 p) 0 = k :=
  byteAt_b8 hk (b8 e ++ b8 p)

theorem byteAt_configPayload_enable (he : e < 256) : byteAt (b8 k ++ b8 e ++ b8 p) 1 = e := by
  calc byteAt (b8 k ++ b8 e ++ b8 p) 1
    _ = byteAt (b8 e ++ b8 p) 0 := byteAt_append (b8 k) (b8 e ++ b8 p) 0
    _ = e := byteAt_b8 he (b8 p)

theorem byteAt_configPayload_priority (hp : p < 256) : byteAt (b8 k ++ b8 e ++ b8 p) 2 = p := by
  calc byteAt (b8 k ++ b8 e ++ b8 p) 2
    _ = byteAt (b8 p) 0 := byteAt_append (b8 k ++ b8 e) (b8 p) 0
    _ = p := byteAt_b8 hp []

theorem configPayload_length : (b8 k ++ b8 e ++ b8 p).length = 3 := rfl

end ConfigPayload

/-! ## What the two requests answer -/

/-- EVENT_CONFIG with its fields in range configures the kind and answers with what its latch then is. -/
theorem State.answer_eventConfig_taken {s t : State} {k : EventKind} {e : Bool} {p : Fin 8}
    (configured : s.configureKind k e p = t) :
    s.answer (b8 k.index.val ++ mark e ++ b8 p.val) .eventConfig = ⟨t, .ok, (t.latch k).settingsBytes⟩ := by
  have enable : (if e then 1 else 0) < 256 := by split <;> decide
  simp only [State.answer, State.eventConfig, mark, checked_passes configPayload_length,
    byteAt_configPayload_kind (show k.index.val < 256 by omega), byteAt_configPayload_enable enable,
    byteAt_configPayload_priority (show p.val < 256 by omega), EventKind.all_index, finOf_val]
  cases e <;> simp [configured, done]

/-- EVENT_CONFIG with a field out of range is refused with BAD_FIELD. -/
theorem State.answer_eventConfig_refused {k e p : Nat} (hk : k < 256) (he : e < 256) (hp : p < 256)
    (bad : 14 ≤ k ∨ 2 ≤ e ∨ 8 ≤ p) (s : State) :
    s.answer (b8 k ++ b8 e ++ b8 p) .eventConfig = ⟨s, .badField, []⟩ := by
  simp only [State.answer, State.eventConfig, checked_passes configPayload_length, byteAt_configPayload_kind hk,
    byteAt_configPayload_enable he, byteAt_configPayload_priority hp]
  split
  next _ _ named priority =>
    have kind : k < 14 := (List.getElem?_eq_some_iff.1 named).1
    have least : p < 8 := Nat.not_le.1 fun above => by simp [finOf_of_le above] at priority
    rw [if_neg (by omega), refuse]
  · rfl
  · rfl

/-- EVENT_ACK with a mask of kinds clears them, fills the freed room and answers with those that held a record. -/
theorem State.answer_eventAck_taken {m : Nat} (named : m < 16384) (s : State) :
    s.answer (b16 m) .eventAck = ⟨((kindsOf m).foldl State.clearLatch s).fill, .ok,
      b16 (maskOf ((kindsOf m).filter (fun k => (s.latch k).held.isSome)))⟩ := by
  simp only [State.answer, State.eventAck, checked_passes (b16_length m), u16At_b16_alone (by omega : m < 65536),
    if_pos named, State.acknowledge, done]

/-- EVENT_ACK with a bit beyond kind 13 is refused with BAD_FIELD. -/
theorem State.answer_eventAck_refused {m : Nat} (hm : m < 65536) (beyond : 16384 ≤ m) (s : State) :
    s.answer (b16 m) .eventAck = ⟨s, .badField, []⟩ := by
  simp only [State.answer, State.eventAck, checked_passes (b16_length m), u16At_b16_alone hm,
    if_neg (Nat.not_lt.2 beyond), refuse]

/-! ## The obligation -/

/-- EVENT_CONFIG on a ready part, whatever its latch is. -/
theorem State.exec_eventConfig {s t : State} (ready : s.Ready) {k : EventKind} {e : Bool} {p : Fin 8}
    (configured : s.cleared.configureKind k e p = t) (tag : Byte) :
    exec (.eventConfig tag (b8 k.index.val ++ mark e ++ b8 p.val)) s =
      .next (t.withReply ⟨0x51, tag, .ok, (t.latch k).settingsBytes⟩) := by
  obtain ⟨-, -, -, -, -, -, control, -⟩ := configured ▸ State.configureKind_frame s.cleared k e p
  exact State.request_replies ready .eventConfig tag _ (State.answer_eventConfig_taken configured) control

/-- The kinds of a mask that hold a record, in one selection. -/
theorem kindsOf_filter (m : Nat) (f : EventKind → Bool) :
    (kindsOf m).filter f = EventKind.all.filter (fun k => m.testBit k.index && f k) := by
  simp only [kindsOf, List.filter_filter, Bool.and_comm]

/-- Settles O20: the outcomes of a configuration and of an acknowledgement, delivered with their replies. -/
theorem eventSettingsTaken : Obligations.EventSettingsTaken := by
  refine ⟨fun s tag ready => ⟨fun k e p => ⟨fun stays => ?_, fun r enabled room held back => ?_⟩,
      fun k e p hk he hp bad => ?_⟩,
    fun ks k distinct => ⟨maskOf_lt distinct, maskOf_testBit distinct k⟩,
    fun s tag m ready hm => ⟨fun named => ⟨(kindsOf m).foldl State.clearLatch s.cleared, ?_, ?_, fun k => ?_, ?_⟩,
      fun beyond => ?_⟩⟩
  · have replied := State.exec_eventConfig ready (State.configureKind_stays (s := s.cleared) stays p) tag
    rw [State.setLatch_latch] at replied
    exact replied
  · have replied := State.exec_eventConfig ready
      (State.configureKind_released (s := s.cleared) enabled room held back p) tag
    simp only [State.latch, Fin.getElem_fin, Vector.getElem_set_self] at replied
    exact replied
  · exact State.request_refused ready .eventConfig tag _ (State.answer_eventConfig_refused hk he hp bad s.cleared)
  · have answer := State.answer_eventAck_taken named s.cleared
    rw [kindsOf_filter] at answer
    obtain ⟨-, -, -, -, -, -, control, -⟩ := State.acknowledge_frame s.cleared (kindsOf m)
    exact State.request_replies ready .eventAck tag (b16 m) answer control
  · exact State.clearKinds_reports (kindsOf m) s.cleared
  · have latch := State.clearKinds_latch (kindsOf m) s.cleared k
    simp only [mem_kindsOf] at latch
    exact latch
  · have queue := State.clearKinds_queue (kindsOf m) s.cleared
    simp only [mem_kindsOf, Bool.not_eq_true, Bool.decide_eq_false] at queue
    exact queue
  · exact State.request_refused ready .eventAck tag (b16 m) (State.answer_eventAck_refused hm beyond s.cleared)

end Sys2Proof.Machine
end

section
/-! The rules that every step keeps (O53 to O59), first part: what it is to keep a rule, and the report unit. -/

namespace Sys2Proof.Machine
set_option Elab.async false

/-! ## Keeping rules -/

/-- The rules that the part's updates keep; the link's rule and the emptying of the pending set hold only where an event
has ended, and are not among them. -/
inductive Rule where
  | report | pass | table | progress | permits | drills | classes | heater | channel | depth | rail

/-- What a rule says of a state. -/
def Rule.Holds (s : State) : Rule → Prop
  | .report => s.ReportRule
  | .pass => s.PassRule
  | .table => s.TableRule
  | .progress => s.control.inProgress = s.mode.progress
  | .permits => s.arbiter.queue = [] ∨ ∀ k, s.permit k ≠ none
  | .drills => s.signature.drillQueue = [] ∨ ((s.channel 0).holder ≠ none ∧ (s.channel 1).holder ≠ none)
  | .classes => s.ClassRule
  | .heater => s.HeaterRule
  | .channel => s.ChannelRule
  | .depth => s.ChannelRule ∧ s.DepthRule
  | .rail => s.RailRule

/-- Every rule but those of a list that holds of the first state holds of the second. -/
def State.KeepsBut (but : List Rule) (s t : State) : Prop := ∀ r, r ∉ but → r.Holds s → r.Holds t

/-- Every rule that holds of the first state holds of the second. -/
abbrev State.Keeps (s t : State) : Prop := s.KeepsBut [] t

namespace State.KeepsBut

variable {but : List Rule} {s t u : State}

theorem refl (s : State) : s.KeepsBut but s := fun _ _ h => h

theorem trans (first : s.KeepsBut but t) (second : t.KeepsBut but u) : s.KeepsBut but u :=
  fun r hr h => second r hr (first r hr h)

theorem of_keeps (h : s.Keeps t) : s.KeepsBut but t := fun r _ => h r List.not_mem_nil

/-- Updates that keep every rule, after some that keep all but a few. -/
theorem andThen (first : s.KeepsBut but t) (second : t.Keeps u) : s.KeepsBut but u := first.trans (of_keeps second)

/-- A rule that the second state has anyhow is kept too. -/
theorem restore {r : Rule} (h : s.KeepsBut (r :: but) t) (holds : r.Holds t) : s.KeepsBut but t := by
  intro q hq hs
  by_cases e : q = r
  · exact e ▸ holds
  · exact h q (by simp [e, hq]) hs

/-- A rule that is kept by itself is kept with the others. -/
theorem restore_of {r : Rule} (h : s.KeepsBut (r :: but) t) (holds : r.Holds s → r.Holds t) : s.KeepsBut but t := by
  intro q hq hs
  by_cases e : q = r
  · exact e ▸ holds (e ▸ hs)
  · exact h q (by simp [e, hq]) hs

/-- Of two states, one of which follows, both keep the rules. -/
theorem ite {c : Prop} [Decidable c] (yes : c → s.KeepsBut but t) (no : ¬ c → s.KeepsBut but u) :
    s.KeepsBut but (if c then t else u) := by
  split
  · exact yes ‹_›
  · exact no ‹_›

/-- Updates repeated along a list keep what each keeps. -/
theorem foldl {α : Type} {f : State → α → State} (l : List α) (each : ∀ s : State, ∀ a ∈ l, s.KeepsBut but (f s a)) (s : State) :
    s.KeepsBut but (l.foldl f s) := by
  induction l generalizing s with
  | nil => exact refl s
  | cons a l ih =>
    exact (each s a List.mem_cons_self).trans (ih (fun s b mem => each s b (List.mem_cons_of_mem a mem)) (f s a))

end State.KeepsBut

/-! ## Pieces of the state that few rules read, or none -/

/-- No rule reads the station time, the port orders or the commands that wait. -/
theorem State.withTime_keeps (s : State) (time : Stamp) : s.Keeps { s with time } := fun r _ => by cases r <;> exact id

theorem State.withOutgoing_keeps (s : State) (outgoing : List PortOrder) : s.Keeps { s with outgoing } :=
  fun r _ => by cases r <;> exact id

theorem State.withPending_keeps (s : State) (pending : List Instr) : s.Keeps { s with pending } :=
  fun r _ => by cases r <;> exact id

/-- No rule reads the pockets. -/
theorem State.withPockets_keeps (s : State) (pockets : Vector Pocket 6) :
    s.Keeps { s with heater := { s.heater with pockets } } := fun r _ => by cases r <;> exact id

theorem State.setPocket_keeps (s : State) (p : PocketNo) (x : Pocket) : s.Keeps (s.setPocket p x) :=
  s.withPockets_keeps _

theorem State.sendHeater_keeps (s : State) (o : HeaterOrder) : s.Keeps (s.sendHeater o) := s.withOutgoing_keeps _

/-- What the rail rule reads. -/
theorem State.RailRule.of_same {s t : State} (rule : s.RailRule) (mode : t.mode = s.mode)
    (joints : t.table.joints = s.table.joints) (settings : t.link.settings = s.link.settings)
    (claims : t.dispatcher.claims = s.dispatcher.claims) (heads : t.heads = s.heads) : t.RailRule := by
  simp only [State.RailRule, State.RailCompatible, State.claimLo, State.claimHi, State.homePoint, State.station,
    State.claim, State.head, mode, joints, settings, claims, heads] at rule ⊢
  exact rule

/-- Of the link the rules read the station settings alone. -/
theorem State.withLink_keeps {s : State} {link : Link} (same : link.settings = s.link.settings) :
    s.Keeps { s with link } := by
  intro r _ h
  cases r
  case rail => exact State.RailRule.of_same h rfl rfl same rfl rfl
  all_goals exact h

/-- Of the control record the rules read the mode and the directive in progress. -/
theorem State.withControl_keeps {s : State} {control : ModeControl} (mode : control.mode = s.control.mode)
    (progress : control.inProgress = s.control.inProgress) : s.Keeps { s with control } := by
  have modes : State.mode { s with control } = s.mode := mode
  intro r _ h
  cases r
  case progress => simpa only [Rule.Holds, modes, progress] using h
  case classes => simpa only [Rule.Holds, State.ClassRule, modes] using h
  case rail => exact State.RailRule.of_same h modes rfl rfl rfl rfl
  all_goals exact h

/-- The reports are read by their own rule alone. -/
theorem State.withReports_keeps (s : State) {reports : Reports} (rule : s.ReportRule → State.ReportRule { s with reports }) :
    s.Keeps { s with reports } := by
  intro r _ h
  cases r
  case report => exact rule h
  all_goals exact h

/-! ## The report unit (R163 to R168) -/

/-- The queue holds exactly the QUEUED kinds, at most eight, none twice (R163, R166). -/
def State.QueueRule (s : State) : Prop :=
  s.reports.queue.length ≤ 8 ∧ s.reports.queue.Nodup ∧
    ∀ k, k ∈ s.reports.queue ↔ (s.latch k).held.any (fun r => r.place == .queued) = true

/-- The queue is full or no enabled kind is held back (R166, R168). -/
def State.RoomRule (s : State) : Prop := s.reports.queue.length = 8 ∨ ∀ k, s.waitsForRoom k = false

theorem State.reportRule_iff {s : State} : s.ReportRule ↔ s.QueueRule ∧ s.RoomRule := by
  simp only [State.ReportRule, State.QueueRule, State.RoomRule, and_assoc]

theorem State.enqueueReport_latch (s : State) (k l : EventKind) (r : Held) :
    (s.enqueueReport k r).latch l =
      if k = l then { s.latch k with held := some { r with place := .queued } } else s.latch l :=
  s.latch_setLatch k l { s.latch k with held := some { r with place := .queued } }

theorem State.holdReport_latch (s : State) (k l : EventKind) (r : Held) :
    (s.holdReport k r).latch l = if k = l then { s.latch k with held := some r } else s.latch l :=
  s.latch_setLatch k l { s.latch k with held := some r }

/-- A kind that is not QUEUED may enter a queue with room. -/
theorem State.QueueRule.enqueueReport {s : State} (rule : s.QueueRule) {k : EventKind} (room : s.reports.queue.length < 8)
    (out : k ∉ s.reports.queue) (r : Held) : (s.enqueueReport k r).QueueRule := by
  obtain ⟨-, distinct, queued⟩ := rule
  refine ⟨by simpa [State.enqueueReport] using room, ?_, fun l => ?_⟩
  · exact List.nodup_append.2 ⟨distinct, List.nodup_singleton k, fun a ha b hb => by
      rw [List.mem_singleton.1 hb]; exact fun e => out (e ▸ ha)⟩
  · rw [State.enqueueReport_latch]
    by_cases e : k = l
    · simp [State.enqueueReport, e]
    · simpa [State.enqueueReport, e, Ne.symm e] using queued l

/-- A latch that is not QUEUED may take any record that is not. -/
theorem State.QueueRule.holdReport {s : State} (rule : s.QueueRule) {k : EventKind} {r : Held}
    (place : r.place = .queued ↔ k ∈ s.reports.queue) : (s.holdReport k r).QueueRule := by
  obtain ⟨bound, distinct, queued⟩ := rule
  refine ⟨bound, distinct, fun l => ?_⟩
  rw [State.holdReport_latch]
  by_cases e : k = l
  · subst e
    simpa [State.holdReport, State.setLatch] using place.symm
  · simpa [State.holdReport, State.setLatch, e] using queued l

theorem State.QueueRule.room {s : State} (rule : s.QueueRule) : s.reportRoom = false ↔ s.reports.queue.length = 8 := by
  rw [← Bool.not_eq_true, State.reportRoom_iff]
  have := rule.1
  omega

/-- Posting keeps the report rule: a record is held back only where its kind is disabled or the queue is full. -/
theorem State.ReportRule.post {s : State} (rule : s.ReportRule) (k : EventKind) (n : Nat) : (s.post k n).ReportRule := by
  obtain ⟨queue, fair⟩ := State.reportRule_iff.1 rule
  have queued := queue.2.2 k
  rw [State.reportRule_iff]
  cases held : (s.latch k).held with
  | some r =>
    rw [State.post_counted held]
    refine ⟨queue.holdReport (by rw [queued, held]; simp [Held.again]), fair.imp id fun none l => ?_⟩
    have := none l
    by_cases e : k = l
    · subst e
      simpa [State.waitsForRoom, State.holdReport_latch, held, Held.again] using this
    · simpa [State.waitsForRoom, State.holdReport_latch, e] using this
  | none =>
    have out : k ∉ s.reports.queue := by rw [queued, held]; simp
    by_cases enter : (s.latch k).enabled = true ∧ s.reports.queue.length < 8
    · rw [State.post_queued held enter.1 enter.2]
      refine ⟨queue.enqueueReport enter.2 out _, .inr fun l => ?_⟩
      have none := fair.resolve_left (by omega) l
      by_cases e : k = l
      · simp [State.waitsForRoom, State.enqueueReport_latch, e]
      · simpa [State.waitsForRoom, State.enqueueReport_latch, e] using none
    · have barred : (s.latch k).enabled = false ∨ 8 ≤ s.reports.queue.length := by
        rw [not_and_or, Bool.not_eq_true, Nat.not_lt] at enter
        exact enter
      rw [State.post_heldBack held barred]
      refine ⟨queue.holdReport (by simp [State.firstRecord, out]), ?_⟩
      refine (Nat.lt_or_ge s.reports.queue.length 8).elim (fun room => .inr fun l => ?_) fun full =>
        .inl (Nat.le_antisymm queue.1 full)
      have none := fair.resolve_left (by omega) l
      by_cases e : k = l
      · subst e
        simp [State.waitsForRoom, State.holdReport_latch, barred.resolve_right (by omega)]
      · simpa [State.waitsForRoom, State.holdReport_latch, e] using none

/-- Posting writes the reports alone. -/
theorem State.post_eq_withReports (s : State) (k : EventKind) (n : Nat) :
    s.post k n = { s with reports := (s.post k n).reports } :=
  State.post_eq_of_same (s := s) (t := s) rfl rfl rfl k n

theorem State.post_keeps (s : State) (k : EventKind) (n : Nat) : s.Keeps (s.post k n) := by
  rw [State.post_eq_withReports]
  refine s.withReports_keeps fun rule => ?_
  rw [← State.post_eq_withReports]
  exact rule.post k n

/-- One turn of filling takes a kind that waits for room into the queue, or finds nothing to do. -/
theorem State.fillOne_cases (s : State) :
    s.fillOne = s ∧ (s.reportRoom = false ∨ ∀ k, s.waitsForRoom k = false) ∨
      ∃ k r, s.reportRoom = true ∧ (s.latch k).held = some r ∧ r.place = .heldBack ∧ s.fillOne = s.enqueueReport k r := by
  unfold State.fillOne
  split
  next room =>
    split
    next none =>
      refine .inl ⟨rfl, .inr fun k => ?_⟩
      have empty := pickFirst_none none
      by_contra waits
      have : k ∈ EventKind.all.filter s.waitsForRoom :=
        List.mem_filter.2 ⟨EventKind.mem_all k, by simpa using waits⟩
      simp [empty] at this
    next k first =>
      have waits := (List.mem_filter.1 (pickFirst_mem first)).2
      simp only [State.waitsForRoom, Bool.and_eq_true, Option.any_eq_true, beq_iff_eq] at waits
      obtain ⟨-, r, held, place⟩ := waits
      exact .inr ⟨k, r, room, held, place, by simp [held]⟩
  next full => exact .inl ⟨rfl, .inl (by simpa using full)⟩

/-- The queue keeps its rule over some turns of filling, which fill it up or leave no kind waiting. -/
theorem State.QueueRule.fillTurns (n : Nat) {s : State} (rule : s.QueueRule) :
    (s.fillTurns n).QueueRule ∧
      ((s.fillTurns n).RoomRule ∨ s.reports.queue.length + n ≤ (s.fillTurns n).reports.queue.length) := by
  induction n generalizing s with
  | zero => exact ⟨rule, .inr (Nat.le_refl _)⟩
  | succ n ih =>
    rw [State.fillTurns]
    rcases s.fillOne_cases with ⟨same, done⟩ | ⟨k, r, room, held, place, entered⟩
    · have fair : s.RoomRule := done.imp rule.room.1 id
      have still (m : Nat) : s.fillTurns m = s := by
        induction m with
        | zero => rfl
        | succ m ih => rw [State.fillTurns, same, ih]
      rw [same, still]
      exact ⟨rule, .inl fair⟩
    · have out : k ∉ s.reports.queue := by rw [rule.2.2 k, held]; simp [place]
      have next := ih (rule.enqueueReport (State.reportRoom_iff.1 room) out r)
      rw [entered]
      refine ⟨next.1, next.2.imp id fun more => ?_⟩
      have : (s.enqueueReport k r).reports.queue.length = s.reports.queue.length + 1 := by simp [State.enqueueReport]
      omega

/-- Filling freed room restores the report rule (R168). -/
theorem State.QueueRule.fill {s : State} (rule : s.QueueRule) : s.fill.ReportRule := by
  have filled := rule.fillTurns 8
  rw [State.fill, Config.maxReports, State.reportRule_iff]
  generalize s.fillTurns 8 = t at filled ⊢
  obtain ⟨queue, filled⟩ := filled
  exact ⟨queue, filled.elim id fun long => .inl (Nat.le_antisymm queue.1 ((Nat.le_add_left 8 _).trans long))⟩

/-- Taking a kind out of the queue, its latch CLEAR or its record no longer QUEUED, keeps the queue's rule. -/
theorem State.QueueRule.leave {s t : State} (rule : s.QueueRule) {k : EventKind}
    (queue : t.reports.queue = s.reports.queue.filter (· ≠ k)) (others : ∀ l, k ≠ l → t.latch l = s.latch l)
    (left : (t.latch k).held.any (fun r => r.place == .queued) = false) : t.QueueRule := by
  obtain ⟨bound, distinct, queued⟩ := rule
  refine ⟨by rw [queue]; exact (List.length_filter_le _ _).trans bound, by rw [queue]; exact distinct.filter _,
    fun l => ?_⟩
  rw [queue, List.mem_filter]
  by_cases e : k = l
  · subst e
    simp [left]
  · simpa [others l e, Ne.symm e] using queued l

theorem State.QueueRule.sendRecord {s : State} (rule : s.QueueRule) (k : EventKind) : (s.sendRecord k).QueueRule := by
  cases held : (s.latch k).held with
  | none =>
    have sent : s.sendRecord k = { s with reports := { s.reports with queue := s.reports.queue.filter (· ≠ k) } } := by
      simp only [State.sendRecord, held]
    rw [sent]
    exact rule.leave rfl (fun _ _ => rfl) (by show ((s.latch k).held.any _) = false; simp [held])
  | some r =>
    have latch (l : EventKind) : (s.sendRecord k).latch l =
        if k = l then { s.latch k with held := some { r with place := .sent } } else s.latch l := by
      simp only [State.sendRecord, held]
      exact s.latch_setLatch k l { s.latch k with held := some { r with place := .sent } }
    exact rule.leave (k := k) (by simp only [State.sendRecord, held]) (fun l e => by rw [latch, if_neg e]) (by simp [latch])

theorem State.QueueRule.clearLatch {s : State} (rule : s.QueueRule) (k : EventKind) : (s.clearLatch k).QueueRule :=
  rule.leave rfl (fun l e => by rw [State.clearLatch_latch, if_neg e]) (by simp [State.clearLatch_latch])

theorem State.QueueRule.foldl {α : Type} {f : State → α → State} (each : ∀ s a, s.QueueRule → (f s a).QueueRule)
    (l : List α) {s : State} (rule : s.QueueRule) : (l.foldl f s).QueueRule := by
  induction l generalizing s with
  | nil => exact rule
  | cons a l ih => exact ih (each s a rule)

/-- An operation on the reports alone that keeps their rule keeps every rule. -/
theorem State.keeps_of_frame {s t : State} (frame : t.table = s.table ∧ t.dispatcher = s.dispatcher ∧ t.heads = s.heads ∧
    t.signature = s.signature ∧ t.heater = s.heater ∧ t.arbiter = s.arbiter ∧ t.control = s.control ∧ t.link = s.link ∧
    t.time = s.time ∧ t.outgoing = s.outgoing ∧ t.pending = s.pending) (rule : s.ReportRule → t.ReportRule) :
    s.Keeps t := by
  have only : t = { s with reports := t.reports } := by
    cases t
    simp only at frame
    obtain ⟨rfl, rfl, rfl, rfl, rfl, rfl, rfl, rfl, rfl, rfl, rfl⟩ := frame
    rfl
  rw [only] at rule ⊢
  exact s.withReports_keeps rule

theorem State.acknowledge_keeps (s : State) (ks : List EventKind) : s.Keeps (s.acknowledge ks) :=
  State.keeps_of_frame (s.acknowledge_frame ks) fun rule =>
    (State.QueueRule.foldl (fun _ k rule => rule.clearLatch k) ks (State.reportRule_iff.1 rule).1).fill

theorem State.flushReports_keeps (s : State) : s.Keeps s.flushReports :=
  State.keeps_of_frame s.flushReports_frame fun rule =>
    (State.QueueRule.foldl (fun _ k rule => rule.sendRecord k) _ (State.reportRule_iff.1 rule).1).fill

/-- The record first in rank order leaves the queue, and the freed room is filled (R167, R168). -/
theorem State.sendRecord_fill_keeps (s : State) (k : EventKind) : s.Keeps (s.sendRecord k).fill :=
  State.keeps_of_frame (by simp) fun rule => ((State.reportRule_iff.1 rule).1.sendRecord k).fill

/-- A kind's new settings let a record that is held back into the queue where it has room (R170). -/
theorem State.configureKind_keeps (s : State) (k : EventKind) (e : Bool) (p : Fin 8) : s.Keeps (s.configureKind k e p) := by
  refine State.keeps_of_frame (s.configureKind_frame k e p) fun rule => ?_
  obtain ⟨queue, fair⟩ := State.reportRule_iff.1 rule
  have set : (s.setLatch k { s.latch k with enabled := e, priority := p }).QueueRule := by
    refine ⟨queue.1, queue.2.1, fun l => ?_⟩
    rw [State.latch_setLatch]
    have := queue.2.2 l
    split
    next h => subst h; exact this
    next => exact this
  have waits (l : EventKind) (other : k ≠ l) :
      (s.setLatch k { s.latch k with enabled := e, priority := p }).waitsForRoom l = s.waitsForRoom l := by
    simp [State.waitsForRoom, other]
  by_cases released : e = true ∧ s.reports.queue.length < 8 ∧ ∃ r, (s.latch k).held = some r ∧ r.place = .heldBack
  · obtain ⟨enabled, room, r, held, back⟩ := released
    have out : k ∉ s.reports.queue := by rw [queue.2.2 k, held]; simp [back]
    have entered := set.enqueueReport (k := k) room out r
    have is : s.configureKind k e p = (s.setLatch k { s.latch k with enabled := e, priority := p }).enqueueReport k r := by
      have mayEnter (l : Latch) : (s.setLatch k l).reportRoom = true := State.reportRoom_iff.2 room
      simp [State.configureKind, State.latch_setLatch, held, back, enabled, mayEnter]
    rw [is]
    refine State.reportRule_iff.2 ⟨entered, .inr fun l => ?_⟩
    have none := fair.resolve_left (by omega) l
    by_cases other : k = l
    · simp [State.waitsForRoom, State.enqueueReport_latch, other]
    · rw [← waits l other] at none
      simpa [State.waitsForRoom, State.enqueueReport_latch, other] using none
  · rw [State.configureKind_stays released]
    refine State.reportRule_iff.2 ⟨set, ?_⟩
    refine (Nat.lt_or_ge s.reports.queue.length 8).elim (fun room => .inr fun l => ?_) fun full =>
      .inl (Nat.le_antisymm queue.1 full)
    have none := fair.resolve_left (by omega) l
    by_cases other : k = l
    · subst other
      simp only [State.waitsForRoom, State.latch_setLatch, if_true, Bool.and_eq_false_iff]
      cases e with
      | false => exact .inl rfl
      | true =>
        refine .inr (Bool.eq_false_iff.2 fun any => released ⟨rfl, room, ?_⟩)
        obtain ⟨r, held, back⟩ := (Option.any_eq_true _ _).1 any
        exact ⟨r, held, by simpa using back⟩
    · rw [waits l other]
      exact none

end Sys2Proof.Machine
end

section
/-! The rules that every step keeps, second part: the joint table and the heads. -/

namespace Sys2Proof.Machine
set_option Elab.async false

/-! ## The joint table (R1, R10, R15, R20) -/

/-- What no change of a joint's state or working fields touches. -/
def Joint.fixed (j : Joint) : JointIdentity × Nat × Option Nat := (j.identity, j.reworks, j.corrected)

theorem map_modify_of_eq {α β : Type} {f : α → α} {g : α → β} (same : ∀ a, g (f a) = g a) (l : List α) (i : Nat) :
    (l.modify i f).map g = l.map g := by
  refine List.ext_getElem? fun n => ?_
  simp only [List.getElem?_map, List.getElem?_modify]
  cases l[n]? with
  | none => rfl
  | some a =>
    by_cases e : i = n
    · simp [e, same]
    · simp [e]

/-- The current pass reads of the joints whether they count, and their passes. -/
theorem currentPassOf_of_map {js ks : List Joint}
    (same : ks.map (fun j => (j.counts, j.identity.pass)) = js.map (fun j => (j.counts, j.identity.pass))) :
    currentPassOf ks = currentPassOf js := by
  have any (l : List Joint) (p : Pass) : l.any (fun j => j.counts && j.identity.pass == p) =
      (l.map (fun j => (j.counts, j.identity.pass))).any (fun x => x.1 && x.2 == p) := by rw [List.any_map]; rfl
  simp only [currentPassOf, any, same]

/-- The table's bounds read of the joints their ids and rework counts. -/
theorem State.TableRule.of_map {s : State} (rule : s.TableRule) {js : List Joint}
    (same : js.map (fun j => (j.identity.id, j.reworks)) = s.table.joints.map (fun j => (j.identity.id, j.reworks))) :
    js.length ≤ 1024 ∧ (js.map (·.identity.id)).Nodup ∧ ∀ j ∈ js, j.identity.id ≠ 0 ∧ j.reworks ≤ 3 := by
  obtain ⟨bound, distinct, each⟩ := rule
  have length : js.length = s.table.joints.length := by simpa using congrArg List.length same
  have ids : js.map (·.identity.id) = s.table.joints.map (·.identity.id) := by
    simpa [Function.comp_def] using congrArg (List.map Prod.fst) same
  refine ⟨length ▸ bound, ids ▸ distinct, fun j mem => ?_⟩
  have : (j.identity.id, j.reworks) ∈ s.table.joints.map (fun j => (j.identity.id, j.reworks)) :=
    same ▸ List.mem_map_of_mem mem
  obtain ⟨k, hk, e⟩ := List.mem_map.1 this
  obtain ⟨hid, hre⟩ := Prod.mk.inj e
  exact hid ▸ hre ▸ each k hk

/-- A joint whose corrected position stands in another list of joints. -/
theorem corrected_mem_of_map {js ks : List Joint} (same : ks.map (·.corrected) = js.map (·.corrected)) {k : Joint}
    (mem : k ∈ ks) : ∃ j ∈ js, j.corrected = k.corrected := by
  have : k.corrected ∈ js.map (·.corrected) := same ▸ List.mem_map_of_mem mem
  simpa using this

/-- The rail rule reads of the joints their corrected positions. -/
theorem State.RailRule.withTable {s : State} (rule : s.RailRule) {table : JointTable}
    (positions : ∀ k ∈ table.joints, k.corrected = none ∨ ∃ j ∈ s.table.joints, j.corrected = k.corrected) :
    State.RailRule { s with table } := by
  obtain ⟨setup, rest⟩ := rule
  refine ⟨fun m k mem => ?_, fun accepted => ?_⟩
  · rcases positions k mem with none | ⟨j, hj, e⟩
    · exact none
    · exact e ▸ setup m j hj
  · obtain ⟨railA, railB, claims, heads, joints, travel⟩ := rest accepted
    refine ⟨railA, railB, claims, heads, fun k mem t ht => ?_, travel⟩
    rcases positions k mem with none | ⟨j, hj, e⟩
    · simp [none] at ht
    · exact joints j hj t (e ▸ ht)

/-- Joint records may change but for what is fixed in them; the current pass may then have to be recomputed. -/
theorem State.withTable_keepsBut {s : State} {table : JointTable}
    (fixed : table.joints.map Joint.fixed = s.table.joints.map Joint.fixed) : s.KeepsBut [.pass] { s with table } := by
  have bounds : table.joints.map (fun j => (j.identity.id, j.reworks)) =
      s.table.joints.map (fun j => (j.identity.id, j.reworks)) := by
    simpa [Joint.fixed, Function.comp_def] using congrArg (List.map (fun x => (x.1.id, x.2.1))) fixed
  have positions : table.joints.map (·.corrected) = s.table.joints.map (·.corrected) := by
    simpa [Joint.fixed, Function.comp_def] using congrArg (List.map (fun x => x.2.2)) fixed
  intro r other h
  cases r
  case pass => exact absurd List.mem_cons_self other
  case table => exact State.TableRule.of_map h bounds
  case rail => exact State.RailRule.withTable h fun k mem => .inr (corrected_mem_of_map positions mem)
  all_goals exact h

theorem State.modJoint_keepsBut (s : State) (i : Nat) {f : Joint → Joint}
    (fixed : ∀ j, (f j).fixed = j.fixed := by intro; rfl) :
    s.KeepsBut [.pass] (s.modJoint i f) := State.withTable_keepsBut (map_modify_of_eq fixed _ i)

/-- A joint's working fields may change while its state stays (R2, R3). -/
theorem State.modJoint_keeps (s : State) (i : Nat) {f : Joint → Joint} (fixed : ∀ j, (f j).fixed = j.fixed := by intro; rfl)
    (state : ∀ j, (f j).state = j.state := by intro; rfl) : s.Keeps (s.modJoint i f) := by
  refine (s.modJoint_keepsBut i fixed).restore_of fun pass => ?_
  refine Eq.trans pass (currentPassOf_of_map (map_modify_of_eq (fun j => ?_) _ i)).symm
  have identity : (f j).identity = j.identity := congrArg Prod.fst (fixed j)
  simp only [Joint.counts, Joint.blocks, state, identity]

theorem State.mapJoints_keepsBut (s : State) {f : Joint → Joint} (fixed : ∀ j, (f j).fixed = j.fixed := by intro; rfl) :
    s.KeepsBut [.pass] (s.mapJoints f) := by
  refine State.withTable_keepsBut ?_
  simp only [List.map_map]
  exact List.map_congr_left fun j _ => fixed j

theorem State.mapJoints_keeps (s : State) {f : Joint → Joint} (fixed : ∀ j, (f j).fixed = j.fixed := by intro; rfl)
    (state : ∀ j, (f j).state = j.state := by intro; rfl) : s.Keeps (s.mapJoints f) := by
  refine (s.mapJoints_keepsBut fixed).restore_of fun pass => ?_
  refine Eq.trans pass (currentPassOf_of_map ?_).symm
  simp only [State.mapJoints, List.map_map]
  refine List.map_congr_left fun j _ => ?_
  have identity : (f j).identity = j.identity := congrArg Prod.fst (fixed j)
  simp only [Function.comp_apply, Joint.counts, Joint.blocks, state, identity]

theorem State.writeResult_keeps (s : State) (h : HeadNo) (f : JointResult → JointResult) : s.Keeps (s.writeResult h f) := by
  unfold State.writeResult
  split
  · exact .refl s
  · exact s.modJoint_keeps _

theorem State.setJointPocket_keeps (s : State) (i : Nat) (p : Option PocketNo) : s.Keeps (s.setJointPocket i p) :=
  s.modJoint_keeps i

theorem State.postAdvance_keeps (s : State) (old : Option Pass) : s.Keeps (s.postAdvance old) := by
  unfold State.postAdvance
  split
  · split
    · exact s.post_keeps _ _
    · exact .refl s
  · exact .refl s
  · exact .refl s

theorem State.postBlocked_keeps (s : State) (was : Bool) : s.Keeps (s.postBlocked was) := by
  unfold State.postBlocked
  split
  · exact .refl s
  · exact .ite (fun _ => .refl s) fun _ => s.post_keeps _ _

/-- Recomputing the current pass restores its rule and keeps the others (R20 to R22). -/
theorem State.recompute_keeps {s t : State} {but : List Rule} (h : s.KeepsBut (.pass :: but) t) (was : Bool) :
    s.KeepsBut but (t.recompute was) := by
  have written : s.KeepsBut but
      { t with table := { t.table with currentPass := currentPassOf t.table.joints } } := by
    refine KeepsBut.restore (r := .pass) (h.trans fun r other holds => ?_) rfl
    exact State.withTable_keepsBut (s := t)
      (table := { t.table with currentPass := currentPassOf t.table.joints }) rfl r
      (fun mem => other (List.mem_cons.2 (.inl (List.mem_singleton.1 mem)))) holds
  exact (written.andThen (State.postAdvance_keeps _ _)).andThen (State.postBlocked_keeps _ _)

/-- A joint changes state, and the current pass is recomputed. -/
theorem State.changeJoint_keeps (s : State) (i : Nat) {f : Joint → Joint} (fixed : ∀ j, (f j).fixed = j.fixed := by intro; rfl) :
    s.Keeps (s.changeJoint i f) := State.recompute_keeps (s.modJoint_keepsBut i fixed) _

theorem State.setJointState_keeps (s : State) (h : HeadNo) (st : JointState) : s.Keeps (s.setJointState h st) := by
  unfold State.setJointState
  split
  · exact .refl s
  · exact s.changeJoint_keeps _

theorem State.markSaturated_keeps (s : State) (h : HeadNo) : s.Keeps (s.markSaturated h) := by
  unfold State.markSaturated
  split
  · exact .ite (fun _ => .refl s) fun _ => (s.writeResult_keeps h _).trans (State.post_keeps _ _ _)
  · exact .refl s
  · exact .refl s

theorem State.markOverflow_keeps (s : State) (h : HeadNo) : s.Keeps (s.markOverflow h) := by
  unfold State.markOverflow
  split
  · exact .ite (fun _ => .refl s) fun _ => (s.writeResult_keeps h _).trans (State.post_keeps _ _ _)
  · exact .refl s
  · exact .refl s

theorem State.postRejected_keeps (s : State) (is : List Nat) : s.Keeps (s.postRejected is) := by
  unfold State.postRejected
  exact KeepsBut.foldl is (fun s i _ => s.post_keeps .jointRejected i) s

theorem Joint.reject_fixed (j : Joint) (r : Reason) (w : Bool) (p : Option HeadState) :
    (j.reject r w p).fixed = j.fixed := rfl

theorem Joint.conclude_fixed (j : Joint) (out : Option HeadOutcome) : (j.conclude out).fixed = j.fixed := by
  unfold Joint.conclude
  split <;> rfl

theorem Joint.unlock_fixed (j : Joint) : j.unlock.fixed = j.fixed := by
  unfold Joint.unlock
  split <;> rfl

/-! ## Heads (R26, R40) -/

/-- A change of a head's record that keeps its position and neither starts a travel nor gives one another target. -/
def Head.StaysOnRail (x y : Head) : Prop :=
  y.position = x.position ∧ (y.state = .travel → ∀ t ∈ y.target, x.state = .travel ∧ t ∈ x.target)

theorem Head.StaysOnRail.refl (x : Head) : x.StaysOnRail x := ⟨rfl, fun m _ ht => ⟨m, ht⟩⟩

theorem Head.StaysOnRail.of_state {x y : Head} (position : y.position = x.position) (state : y.state ≠ .travel) :
    x.StaysOnRail y := ⟨position, fun m => absurd m state⟩

theorem Head.StaysOnRail.of_same {x y : Head} (position : y.position = x.position) (state : y.state = x.state)
    (target : y.target = x.target) : x.StaysOnRail y :=
  ⟨position, fun m _ ht => ⟨state ▸ m, target ▸ ht⟩⟩

/-- The heads' records are read by the rail rule alone. -/
theorem State.withHeads_keeps {s : State} {heads : Vector Head 4}
    (stays : ∀ h : HeadNo, (s.head h).StaysOnRail heads[h]) : s.Keeps { s with heads } := by
  intro r _ holds
  cases r
  case rail =>
    obtain ⟨setup, rest⟩ := holds
    refine ⟨setup, fun accepted => ?_⟩
    obtain ⟨railA, railB, claims, positions, joints, travel⟩ := rest accepted
    refine ⟨railA, railB, claims, fun h p hp => positions h p ((stays h).1 ▸ hp), joints, fun h m t ht => ?_⟩
    obtain ⟨was, target⟩ := (stays h).2 m t ht
    exact travel h was t target
  all_goals exact holds

theorem State.setHead_keeps {s : State} {h : HeadNo} {x : Head} (stays : (s.head h).StaysOnRail x) :
    s.Keeps (s.setHead h x) := by
  refine State.withHeads_keeps fun g => ?_
  show (s.head g).StaysOnRail ((s.setHead h x).head g)
  rw [State.head_setHead]
  split
  next e => exact e ▸ stays
  next => exact .refl _

theorem State.modHead_keeps {s : State} {h : HeadNo} {f : Head → Head} (stays : ∀ x : Head, x.StaysOnRail (f x)) :
    s.Keeps (s.modHead h f) := State.setHead_keeps (stays _)

/-- A head changes but for its position, its state and its target. -/
theorem State.modHead_keeps_same (s : State) (h : HeadNo) {f : Head → Head}
    (position : ∀ x, (f x).position = x.position := by intro; rfl) (state : ∀ x, (f x).state = x.state := by intro; rfl)
    (target : ∀ x, (f x).target = x.target := by intro; rfl) : s.Keeps (s.modHead h f) :=
  State.modHead_keeps fun x => .of_same (position x) (state x) (target x)

/-- A head enters a state other than TRAVEL where it stands. -/
theorem State.modHead_keeps_entry (s : State) (h : HeadNo) {f : Head → Head} {st : HeadState}
    (state : ∀ x, (f x).state = st := by intro; rfl) (other : st ≠ .travel := by decide)
    (position : ∀ x, (f x).position = x.position := by intro; rfl) : s.Keeps (s.modHead h f) :=
  State.modHead_keeps fun x => .of_state (position x) (state x ▸ other)

theorem State.sendDrive_keeps (s : State) (h : HeadNo) (o : DriveOrder) : s.Keeps (s.sendDrive h o) :=
  (s.modHead_keeps_same h).trans (State.withOutgoing_keeps _ _)

/-- Entering any timed phase but TRAVEL keeps the rules. -/
theorem State.enterPhase_keeps (s : State) (h : HeadNo) {phase : HeadState} (n : Nat) (o : DriveOrder)
    (other : phase ≠ .travel := by decide) : s.Keeps (s.enterPhase h phase n o) :=
  (s.modHead_keeps_entry h (other := other)).trans (State.sendDrive_keeps _ h o)

theorem State.mapWaits_keeps (s : State) (f : WaitTimer → WaitTimer) : s.Keeps (s.mapWaits f) :=
  State.withHeads_keeps fun h => by
    simp only [State.head, Fin.getElem_fin, Vector.getElem_map]
    exact .of_same rfl rfl rfl

theorem State.stopHoming_keeps (s : State) (h : HeadNo) : s.Keeps (s.stopHoming h) :=
  .ite (fun _ => s.sendDrive_keeps h .stop) fun _ => .refl s

theorem State.park_keeps (s : State) (h : HeadNo) : s.Keeps (s.park h) :=
  (s.stopHoming_keeps h).trans (State.modHead_keeps_entry _ h)

theorem State.parkWhere_keeps (s : State) (which : HeadState → Bool) : s.Keeps (s.parkWhere which) :=
  .foldl headNos (fun s h _ => .ite (fun _ => s.park_keeps h) fun _ => .refl s) s

theorem State.stopHeads_keeps (s : State) : s.Keeps s.stopHeads :=
  .foldl headNos (fun s h _ => .ite (fun _ => .refl s) fun _ =>
    (s.modHead_keeps_entry h).trans (State.sendDrive_keeps _ h .stop)) s

theorem State.takeOffline_keeps (s : State) (h : HeadNo) : s.Keeps (s.takeOffline h) :=
  s.modHead_keeps_entry h

end Sys2Proof.Machine
end

section
/-! The rules that every step keeps, third part: heat orders and permits (R102, R111, R127). -/

namespace Sys2Proof.Machine
set_option Elab.async false

/-! ## Heat orders (R111, R117) -/

/-- DEMAND orders stand before PRE-HEAT orders (R111). -/
def DemandsFirst (q : List HeatOrder) : Prop := q.Pairwise (fun a b => a.cls = .demand ∨ b.cls = .preHeat)

theorem State.setOrders_keeps {s : State} {q : List HeatOrder} (ordered : DemandsFirst s.heater.orders → DemandsFirst q) :
    s.Keeps (s.setOrders q) := by
  intro r _ holds
  cases r
  case heater => exact ⟨holds.1, ordered holds.2⟩
  all_goals exact holds

/-- Taking orders out of the queue keeps its order. -/
theorem State.setOrders_keeps_of_sublist {s : State} {q : List HeatOrder} (part : q.Sublist s.heater.orders) :
    s.Keeps (s.setOrders q) := State.setOrders_keeps fun ordered => ordered.sublist part

/-- A queue of DEMAND orders followed by one of PRE-HEAT orders is in order. -/
theorem demandsFirst_append {p q : List HeatOrder} (demands : ∀ a ∈ p, a.cls = .demand)
    (preHeats : ∀ a ∈ q, a.cls = .preHeat) : DemandsFirst (p ++ q) :=
  List.pairwise_append.2 ⟨List.pairwise_of_forall_mem_list fun a ha _ _ => .inl (demands a ha),
    List.pairwise_of_forall_mem_list fun _ _ b hb => .inr (preHeats b hb), fun a ha _ _ => .inl (demands a ha)⟩

/-- An order that is placed stands in order, wherever in its class (R111). -/
theorem demandsFirst_placeOrder (front : Bool) (o : HeatOrder) (q : List HeatOrder) :
    DemandsFirst (placeOrder front o q) := by
  have demands : ∀ a ∈ q.filter (fun x => x.cls == .demand), a.cls = .demand := fun a mem => by
    simpa using (List.mem_filter.1 mem).2
  have preHeats : ∀ a ∈ q.filter (fun x => x.cls == .preHeat), a.cls = .preHeat := fun a mem => by
    simpa using (List.mem_filter.1 mem).2
  unfold placeOrder
  cases cls : o.cls <;> cases front <;> simp only
  · rw [List.append_cons]
    exact demandsFirst_append (by simp [or_imp, cls]) preHeats
  · exact demandsFirst_append (by simp [cls]) preHeats
  · rw [List.append_assoc]
    exact demandsFirst_append demands (by simp [or_imp, cls])
  · exact demandsFirst_append demands (by simp [cls])

theorem State.placeOrder_keeps (s : State) (front : Bool) (o : HeatOrder) (q : List HeatOrder) :
    s.Keeps (s.setOrders (placeOrder front o q)) := State.setOrders_keeps fun _ => demandsFirst_placeOrder front o q

/-- An order served takes one rivet from its magazine and leaves the queue (R117). -/
theorem State.serveInto_keeps (s : State) (p : PocketNo) (o : HeatOrder) : s.Keeps (s.serveInto p o) := by
  have taken : s.Keeps { s with heater := { s.heater with
      orders := s.heater.orders.erase o
      magazines := s.heater.magazines.set o.code (s.heater.magazines[o.code] - 1) } } := by
    intro r _ holds
    cases r
    case heater =>
      obtain ⟨counts, ordered⟩ := holds
      refine ⟨fun c => ?_, ordered.sublist List.erase_sublist⟩
      have := counts c
      have := counts o.code
      simp only [Fin.getElem_fin, Vector.getElem_set] at *
      split <;> omega
    all_goals exact holds
  exact ((taken.trans (State.setPocket_keeps _ _ _)).trans (State.setJointPocket_keeps _ _ _)).trans
    (State.sendHeater_keeps _ _)

theorem State.serveTurns_keeps (n : Nat) (s : State) : s.Keeps (s.serveTurns n) := by
  induction n generalizing s with
  | zero => exact .refl s
  | succ n ih =>
    rw [State.serveTurns]
    split
    · exact (s.serveInto_keeps _ _).trans (ih _)
    · exact .refl s
    · exact .refl s

theorem State.postStarved_keeps (s : State) (cs : List RivetCode) : s.Keeps (s.postStarved cs) := by
  unfold State.postStarved
  exact KeepsBut.foldl cs (fun s c _ => s.post_keeps .magazineEmpty c.val) s

theorem State.serve_keeps (s : State) : s.Keeps s.serve :=
  .ite (fun _ => (s.serveTurns_keeps _).trans (State.postStarved_keeps _ _)) fun _ => .refl s

theorem State.ownPocket_keeps (s : State) (p : PocketNo) (i : Nat) : s.Keeps (s.ownPocket p i) :=
  (s.setPocket_keeps p _).trans (State.setJointPocket_keeps _ i _)

/-! ## Permits (R125 to R129) -/

theorem State.withArbiter_keepsBut (s : State) (arbiter : Arbiter) : s.KeepsBut [.permits] { s with arbiter } := by
  intro r other holds
  cases r
  case permits => exact absurd List.mem_cons_self other
  all_goals exact holds

theorem State.setPermit_keepsBut (s : State) (k : PermitNo) (g : Option PermitGrant) :
    s.KeepsBut [.permits] (s.setPermit k g) := s.withArbiter_keepsBut _

theorem State.setPermitQueue_keepsBut (s : State) (q : List HeadNo) : s.KeepsBut [.permits] (s.setPermitQueue q) :=
  s.withArbiter_keepsBut _

/-- With nobody waiting the permits may be as they are. -/
theorem State.setPermitQueue_nil_keeps (s : State) : s.Keeps (s.setPermitQueue []) :=
  (s.setPermitQueue_keepsBut []).restore (.inl rfl)

/-- A permit written to with a grant is not FREE (R129, R130). -/
theorem State.setPermit_some_keeps (s : State) (k : PermitNo) (g : PermitGrant) : s.Keeps (s.setPermit k (some g)) := by
  refine (s.setPermit_keepsBut k (some g)).restore_of fun holds => holds.imp id fun granted l => ?_
  rw [State.permit_setPermit]
  split
  · exact Option.some_ne_none g
  · exact granted l

theorem State.withdraw_keeps (s : State) (h : HeadNo) : s.Keeps (s.withdraw h) :=
  (s.setPermitQueue_keepsBut _).restore_of fun holds => holds.imp
    (fun nobody => by simp [State.setPermitQueue, nobody]) id

theorem State.joinPermitQueue_keepsBut (s : State) (h : HeadNo) : s.KeepsBut [.permits] (s.joinPermitQueue h) :=
  .ite (fun _ => s.setPermitQueue_keepsBut _) fun _ => .refl s

theorem State.enterFeed_keeps (s : State) (h : HeadNo) (p : PocketNo) : s.Keeps (s.enterFeed h p) :=
  ((s.modHead_keeps_same h).trans (State.enterPhase_keeps _ h _ _)).trans (State.setJointState_keeps _ h _)

theorem State.grantPermit_keepsBut (s : State) (k : PermitNo) (h : HeadNo) (i : Nat) (p : PocketNo) (c : RivetCode) :
    s.KeepsBut [.permits] (s.grantPermit k h i p c) :=
  ((((s.setPermit_keepsBut k _).andThen (State.enterFeed_keeps _ h p)).andThen (State.setPocket_keeps _ p _)).andThen
    (State.setJointPocket_keeps _ i _)).andThen (State.serve_keeps _)

theorem State.grantFront_keepsBut (s : State) (k : PermitNo) (h : HeadNo) : s.KeepsBut [.permits] (s.grantFront k h) := by
  unfold State.grantFront
  split
  · split
    · exact s.grantPermit_keepsBut _ _ _ _ _
    · exact .refl s
  · exact .refl s
  · exact .refl s

/-- A grant leaves the queue as it is. -/
@[simp] theorem State.grantFront_queue (s : State) (k : PermitNo) (h : HeadNo) :
    (s.grantFront k h).arbiter.queue = s.arbiter.queue := by
  unfold State.grantFront
  split
  · split
    · simp [State.grantPermit, State.setPermit]
    · rfl
  · rfl
  · rfl

theorem State.freePermit_none_iff {s : State} : s.freePermit = none ↔ ∀ k, s.permit k ≠ none := by
  simp [State.freePermit, Fin.forall_fin_two]

/-- As many turns of granting as heads wait leave no head waiting beside a FREE permit (R127). -/
theorem State.grantTurns_keeps (n : Nat) (s : State) : s.KeepsBut [.permits] (s.grantTurns n) ∧
    (s.arbiter.queue.length ≤ n → Rule.permits.Holds (s.grantTurns n)) := by
  induction n generalizing s with
  | zero => exact ⟨.refl s, fun short => .inl (List.eq_nil_of_length_eq_zero (Nat.le_zero.1 short))⟩
  | succ n ih =>
    unfold State.grantTurns
    split
    next k h rest _ queue =>
      obtain ⟨keeps, served⟩ := ih ((s.setPermitQueue rest).grantFront k h)
      refine ⟨((s.setPermitQueue_keepsBut rest).trans (State.grantFront_keepsBut _ k h)).trans keeps, fun short => ?_⟩
      exact served (by simpa [queue] using short)
    next queue => exact ⟨.refl s, fun _ => .inl queue⟩
    next none => exact ⟨.refl s, fun _ => .inr (State.freePermit_none_iff.1 none)⟩

/-- Granting all that can be granted restores the rule of the permits. -/
theorem State.grantAll_keeps {s t : State} {but : List Rule} (h : s.KeepsBut (.permits :: but) t) :
    s.KeepsBut but t.grantAll := by
  obtain ⟨keeps, served⟩ := State.grantTurns_keeps t.arbiter.queue.length t
  refine (h.trans fun r other => keeps r fun mem => other ?_).restore (served (Nat.le_refl _))
  exact List.mem_cons.2 (.inl (List.mem_singleton.1 mem))

theorem State.requestPermit_keeps (s : State) (h : HeadNo) : s.Keeps (s.requestPermit h) :=
  State.grantAll_keeps (s.joinPermitQueue_keepsBut h)

theorem State.reRaise_keeps (s : State) : s.Keeps s.reRaise :=
  State.grantAll_keeps (.foldl headNos (fun s h _ => s.joinPermitQueue_keepsBut h) s)

theorem State.tellReady_keeps (s : State) (i : Nat) : s.Keeps (s.tellReady i) := by
  unfold State.tellReady
  split
  · exact .refl s
  · exact s.requestPermit_keeps _

/-! ## Seeking and releasing (R112 to R116) -/

theorem State.takePocket_keeps (s : State) (p : PocketNo) (i : Nat) : s.Keeps (s.takePocket p i) :=
  (s.ownPocket_keeps p i).trans (State.tellReady_keeps _ i)

theorem State.seekAs_keeps (s : State) (i : Nat) (c : RivetCode) (cls : OrderClass) (front : Bool) :
    s.Keeps (s.seekAs i c cls front) := by
  unfold State.seekAs
  split
  · exact s.takePocket_keeps _ i
  · exact (s.placeOrder_keeps front _ _).trans (State.serve_keeps _)

theorem State.seek_keeps (s : State) (i : Nat) (c : RivetCode) (front : Bool) : s.Keeps (s.seek i c front) := by
  unfold State.seek
  split
  · exact .refl s
  · exact s.seekAs_keeps i c _ front

theorem State.preHeat_keeps (s : State) (i : Nat) : s.Keeps (s.preHeat i) := by
  unfold State.preHeat
  split
  · exact .refl s
  · split
    · split
      · exact s.seekAs_keeps i _ _ _
      · exact .refl s
    · exact .refl s
    · exact .refl s

theorem State.handOver_keeps (s : State) (p : PocketNo) : s.Keeps (s.handOver p) := by
  unfold State.handOver
  split
  · exact .refl s
  · split
    · exact .refl s
    · exact (State.setOrders_keeps_of_sublist List.erase_sublist).trans (State.takePocket_keeps _ p _)

theorem State.releasePocket_keeps (s : State) (p : PocketNo) (i : Nat) : s.Keeps (s.releasePocket p i) :=
  ((s.setPocket_keeps p _).trans (State.setJointPocket_keeps _ i _)).trans (State.handOver_keeps _ p)

theorem State.endHeaterUse_keeps (s : State) (i : Nat) : s.Keeps (s.endHeaterUse i) := by
  unfold State.endHeaterUse
  split
  · exact State.setOrders_keeps_of_sublist List.filter_sublist
  · exact (s.releasePocket_keeps _ i).trans (State.setOrders_keeps_of_sublist List.filter_sublist)

theorem State.demandRivet_keeps (s : State) (i : Nat) (c : RivetCode) : s.Keeps (s.demandRivet i c) := by
  unfold State.demandRivet
  split
  · exact (State.setOrders_keeps_of_sublist List.filter_sublist).trans (State.takePocket_keeps _ _ i)
  · exact (s.placeOrder_keeps _ _ _).trans (State.serve_keeps _)

theorem State.drillingEndStep_keeps (s : State) (i : Nat) (c : RivetCode) : s.Keeps (s.drillingEndStep i c) := by
  unfold State.drillingEndStep
  split
  · exact .ite (fun _ => .refl s) fun _ => (s.releasePocket_keeps _ i).trans (State.demandRivet_keeps _ i c)
  · exact s.demandRivet_keeps i c

/-! ## Pocket events (R105 to R109, R120) -/

theorem State.ejectPocket_keeps (s : State) (p : PocketNo) (c : RivetCode) : s.Keeps (s.ejectPocket p c) :=
  (s.setPocket_keeps p _).trans (State.sendHeater_keeps _ _)

theorem State.loadDone_keeps (s : State) (p : PocketNo) : s.Keeps (s.loadDone p) := by
  unfold State.loadDone
  cases s.pocket p with
  | loading => exact s.setPocket_keeps p _
  | empty | heating | ready | ejecting | disabled => exact .refl s

theorem State.heatExpired_keeps (s : State) (p : PocketNo) : s.Keeps (s.heatExpired p) := by
  unfold State.heatExpired
  cases s.pocket p with
  | heating c o t =>
    cases o with
    | none => exact s.setPocket_keeps p _
    | some i => exact (s.setPocket_keeps p _).trans (State.tellReady_keeps _ i)
  | empty | loading | ready | ejecting | disabled => exact .refl s

theorem State.losePocket_keeps (s : State) (i : Nat) : s.Keeps (s.losePocket i) := by
  unfold State.losePocket
  split
  · exact s.setJointPocket_keeps i none
  · exact (s.setJointPocket_keeps i none).trans (State.withdraw_keeps _ _)

theorem State.holdExpired_keeps (s : State) (p : PocketNo) : s.Keeps (s.holdExpired p) := by
  unfold State.holdExpired
  cases s.pocket p with
  | ready c o t st =>
    have scrapped := (s.ejectPocket_keeps p c).trans (State.post_keeps _ .rivetScrapped p.val)
    cases o with
    | none => exact scrapped
    | some i => exact (scrapped.trans (State.losePocket_keeps _ i)).trans (State.seek_keeps _ i c false)
  | empty | loading | heating | ejecting | disabled => exact .refl s

theorem State.ejectDone_keeps (s : State) (p : PocketNo) : s.Keeps (s.ejectDone p) := by
  unfold State.ejectDone
  cases s.pocket p with
  | ejecting => exact (s.setPocket_keeps p .empty).trans (State.serve_keeps _)
  | empty | loading | heating | ready | disabled => exact .refl s

theorem State.portExpired_keeps (s : State) (p : PocketNo) : s.Keeps (s.portExpired p) := by
  have failed := (s.setPocket_keeps p .disabled).trans (State.post_keeps _ .heaterFault p.val)
  unfold State.portExpired
  cases s.pocket p with
  | loading c o t =>
    cases o with
    | none => exact failed
    | some i => exact (failed.trans (State.setJointPocket_keeps _ i none)).trans (State.seek_keeps _ i c true)
  | ejecting => exact failed
  | empty | heating | ready | disabled => exact .refl s

theorem State.ejectIfLoaded_keeps (s : State) (p : PocketNo) : s.Keeps (s.ejectIfLoaded p) := by
  unfold State.ejectIfLoaded
  cases s.pocket p with
  | loading c | heating c | ready c => exact s.ejectPocket_keeps p c
  | empty | ejecting | disabled => exact .refl s

theorem State.ejectAll_keeps (s : State) : s.Keeps s.ejectAll :=
  ((KeepsBut.foldl pocketNos (fun s p _ => s.ejectIfLoaded_keeps p) s).trans
    (State.setOrders_keeps_of_sublist (List.nil_sublist _))).trans (State.mapJoints_keeps _)

theorem State.restorePockets_keeps (s : State) : s.Keeps s.restorePockets := s.withPockets_keeps _

end Sys2Proof.Machine
end

section
/-! The rules that every step keeps, fourth part: the channel records (R71, R78 to R94). -/

namespace Sys2Proof.Machine
set_option Elab.async false

/-! ## The arithmetic of a channel (R80, R81) -/

theorem holdAcc_inAccumulator (x : Int) : InAccumulator (holdAcc x).1 := by
  unfold holdAcc accMax accMin InAccumulator
  split_ifs <;> simp only <;> omega

theorem addProduct_inAccumulator (acc : Int × Bool) (c x : Int) : InAccumulator (addProduct acc c x).1 :=
  holdAcc_inAccumulator _

theorem sumTaps_inAccumulator (ring : Vector Int 16) (w : Fin 16) (taps : List Int) (k : Nat) {acc : Int × Bool}
    (start : InAccumulator acc.1) : InAccumulator (sumTaps ring w taps k acc).1 := by
  induction taps generalizing k acc with
  | nil => exact start
  | cons c taps ih => exact ih (k + 1) (addProduct_inAccumulator acc c _)

theorem filterPass_inAccumulator (ring : Vector Int 16) (w : Fin 16) (taps : List Int) :
    InAccumulator (filterPass ring w taps).1 := sumTaps_inAccumulator ring w taps 0 (by simp [InAccumulator])

theorem convert_inSixteen (a : Int) : InSixteen (convert a).1 := by
  unfold convert InSixteen
  split_ifs <;> simp only <;> omega

theorem sampleOf_inSixteen (x : Half) : InSixteen (sampleOf x) := by
  unfold sampleOf InSixteen
  have := BitVec.le_toInt x
  have := BitVec.toInt_lt (x := x)
  omega

theorem InSixteen.max {x y : Int} (hx : InSixteen x) (hy : InSixteen y) : InSixteen (max x y) := by
  unfold InSixteen at *
  omega

/-! ## The updates of a channel record keep its ranges (R71) -/

theorem Channel.inRange_cold : Channel.cold.InRange := by
  simp [Channel.InRange, Channel.cold, InAccumulator, InSixteen]

theorem Channel.reaches_cold : Channel.cold.Reaches := by simp [Channel.Reaches, Channel.cold]

theorem Channel.inRange_grantTo (h : HeadNo) (i : Option Nat) : (Channel.grantTo h i).InRange := by
  simp [Channel.InRange, Channel.grantTo, Channel.cold, InAccumulator, InSixteen]

theorem Channel.reaches_grantTo (h : HeadNo) (i : Option Nat) : (Channel.grantTo h i).Reaches := by
  simp [Channel.Reaches, Channel.grantTo, Channel.cold]

theorem Channel.InRange.free {c : Channel} (h : c.InRange) : c.free.InRange := by
  simp only [Channel.InRange, Channel.free] at h ⊢
  grind

theorem Channel.InRange.cutShort {c : Channel} (h : c.InRange) : c.cutShort.InRange := by
  simp only [Channel.InRange, Channel.cutShort] at h ⊢
  grind

theorem Channel.InRange.push {c : Channel} (h : c.InRange) {x : Int} (hx : InSixteen x) : (c.push x).InRange := by
  obtain ⟨acc, count, ring, rest⟩ := h
  refine ⟨acc, Nat.min_le_left _ _, fun k => ?_, rest⟩
  simp only [Channel.push, Fin.getElem_fin, Vector.getElem_set]
  split
  · exact hx
  · exact ring k

theorem Channel.InRange.filter {c : Channel} (h : c.InRange) (f : FilterSettings) (depth : Nat) {thrust : Int}
    (ht : InSixteen thrust) : (c.filter f depth thrust).InRange := by
  obtain ⟨-, count, ring, -, rest⟩ := h.push ht
  exact ⟨filterPass_inAccumulator _ _ _, count, ring, by simpa [Channel.filter] using convert_inSixteen _, rest⟩

/-- What the machine reads of the filter settings (R95). -/
theorem FilterSettings.InRange.confirm {f : FilterSettings} (h : f.InRange) : 1 ≤ f.confirm ∧ f.confirm ≤ 64 := by
  obtain ⟨valid, -⟩ := h
  simp only [FilterSettings.valid, within, Bool.and_eq_true, decide_eq_true_eq] at valid
  omega

section Measure

variable {c : Channel} (h : c.InRange) {f : FilterSettings} {y : Int} (hy : InSixteen y) (d : Nat)
include h hy

theorem Channel.InRange.takeWaiting : (c.takeWaiting f y d).InRange := by
  unfold Channel.takeWaiting
  split
  · simp only [Channel.InRange] at h ⊢
    grind
  · exact h

theorem Channel.inSixteen_raisedPeak : InSixteen (c.raisedPeak y) := by
  obtain ⟨-, -, -, -, peak, -⟩ := h
  unfold Channel.raisedPeak
  split
  · exact hy
  · exact (peak _ ‹_›).max hy

theorem Channel.InRange.takeCutting (m : c.machine = .cutting) : (c.takeCutting f y d).InRange := by
  have peak := Channel.inSixteen_raisedPeak h hy
  unfold Channel.takeCutting
  split <;>
  · simp only [Channel.InRange] at h ⊢
    grind

theorem Channel.InRange.rebound (m : c.machine = .dip) : (c.rebound y).InRange := by
  have one : c.valleyDepth.toList.length ≤ 1 := by cases c.valleyDepth <;> simp
  obtain ⟨n, layers⟩ : ∃ n, c.layers = some n := by
    obtain ⟨-, -, -, -, -, -, -, -, -, -, -, -, present, -⟩ := h
    exact Option.ne_none_iff_exists'.1 (present (.inr m))
  unfold Channel.rebound Channel.layersFull
  simp only [Channel.InRange, layers, Option.any_some, Option.map_some, Option.mem_some, forall_eq',
    decide_eq_true_eq] at h ⊢
  split
  · grind
  · simp only [List.length_append, Option.mem_some, forall_eq']
    grind

theorem Channel.InRange.deepen : (c.deepen y d).InRange := by
  unfold Channel.deepen
  split
  · simp only [Channel.InRange] at h ⊢
    grind
  · exact h

omit hy in
/-- A longer exit run has at most 64 outputs, and starts somewhere; it ends the measurement where it is full. -/
theorem Channel.InRange.run_breakThrough (m : c.machine = .dip) (hf : f.InRange) :
    ((c.run f y d).breakThrough f).InRange := by
  have := hf.confirm
  unfold Channel.run
  split <;>
  · unfold Channel.breakThrough
    simp only [Channel.InRange] at h ⊢
    split <;> grind

theorem Channel.InRange.takeDip (m : c.machine = .dip) (hf : f.InRange) : (c.takeDip f y d).InRange := by
  have dip : (c.deepen y d).machine = .dip := by
    unfold Channel.deepen
    split <;> exact m
  unfold Channel.takeDip
  split
  · exact h.rebound hy m
  · exact (h.deepen hy d).run_breakThrough d dip hf

theorem Channel.InRange.take (hf : f.InRange) : (c.take f y d).InRange := by
  unfold Channel.take
  split
  next => exact h.takeWaiting hy d
  next m => exact h.takeCutting hy d m
  next m => exact h.takeDip hy d m hf
  next => exact h

end Measure

theorem Channel.InRange.lastOutput_getD {c : Channel} (h : c.InRange) : InSixteen (c.lastOutput.getD 0) := by
  obtain ⟨-, -, -, output, -⟩ := h
  cases e : c.lastOutput with
  | none => simp [InSixteen]
  | some y => exact output y (by simp [e])

theorem Channel.InRange.measure {c : Channel} (h : c.InRange) {f : FilterSettings} (hf : f.InRange) (depth : Nat) :
    (c.measure f depth).InRange := by
  unfold Channel.measure
  split
  · exact h
  · exact h.take h.lastOutput_getD _ hf

theorem Channel.InRange.limit {c : Channel} (h : c.InRange) (f : FilterSettings) (depth : Nat) :
    (c.limit f depth).InRange := by
  unfold Channel.limit
  split
  · simp only [Channel.InRange] at h ⊢
    grind
  · exact h

theorem Channel.InRange.integrate {c : Channel} (h : c.InRange) (f : FilterSettings) (stroke : Nat) {force : Int}
    (hx : InSixteen force) : (c.integrate f stroke force).InRange := by
  obtain ⟨-, count, ring, output, peak, valley, force', rest⟩ := h.push hx
  refine ⟨addProduct_inAccumulator _ _ _, count, ring, output, peak, valley, fun y hy => ?_, rest⟩
  simp only [Channel.integrate, Option.mem_some] at hy
  subst hy
  split
  · exact hx
  · exact InSixteen.max (force' _ ‹_›) hx

theorem Channel.InRange.formWork {c : Channel} (h : c.InRange) : c.formWork.InRange := by
  have work : InSixteen c.work := convert_inSixteen _
  simp only [Channel.InRange, Channel.formWork] at h ⊢
  grind

/-! ## The updates of a channel record keep its depths within reach (R71, R84) -/

theorem recordedDepth_le (f : FilterSettings) (depth : Nat) : recordedDepth f depth ≤ depth := by
  unfold recordedDepth
  omega

theorem machineDepth_le {f : FilterSettings} {depth d : Nat} (h : machineDepth f depth = some d) : d ≤ depth := by
  have := recordedDepth_le f depth
  unfold machineDepth at h
  split at h
  · cases h
    omega
  · cases h

theorem Channel.Reaches.take {c : Channel} (h : c.Reaches) (f : FilterSettings) (y : Int) {d : Nat} (hd : InReach d) :
    (c.take f y d).Reaches := by
  have here : ∀ x ∈ some d, InReach x := by simpa using hd
  obtain ⟨last, stroke, valley, start, entry, boundaries, exit⟩ := h
  unfold Channel.take
  split
  · unfold Channel.takeWaiting
    split
    · exact ⟨last, stroke, valley, start, here, by simp, exit⟩
    · exact ⟨last, stroke, valley, start, entry, boundaries, exit⟩
  · unfold Channel.takeCutting
    split
    · exact ⟨last, stroke, here, by simp, entry, boundaries, exit⟩
    · exact ⟨last, stroke, valley, start, entry, boundaries, exit⟩
  · unfold Channel.takeDip
    split
    · unfold Channel.rebound
      split
      · exact ⟨last, stroke, valley, by simp, entry, boundaries, exit⟩
      · exact ⟨last, stroke, valley, by simp, entry,
          fun x hx => (List.mem_append.1 hx).elim (boundaries x) fun hx => valley x (Option.mem_toList.1 hx), exit⟩
    · have deeper : (c.deepen y d).Reaches := by
        unfold Channel.deepen
        split
        · exact ⟨last, stroke, here, start, entry, boundaries, exit⟩
        · exact ⟨last, stroke, valley, start, entry, boundaries, exit⟩
      generalize c.deepen y d = c' at deeper
      obtain ⟨last, stroke, valley, start, entry, boundaries, exit⟩ := deeper
      have run : (c'.run f y d).Reaches := by
        unfold Channel.run
        split
        · refine ⟨last, stroke, valley, ?_, entry, boundaries, exit⟩
          simp only
          split
          · exact here
          · exact start
        · exact ⟨last, stroke, valley, by simp, entry, boundaries, exit⟩
      generalize c'.run f y d = c'' at run
      obtain ⟨last, stroke, valley, start, entry, boundaries, exit⟩ := run
      unfold Channel.breakThrough
      split
      · exact ⟨last, stroke, valley, start, entry, boundaries, start⟩
      · exact ⟨last, stroke, valley, start, entry, boundaries, exit⟩
  · exact ⟨last, stroke, valley, start, entry, boundaries, exit⟩

theorem Channel.Reaches.filter {c : Channel} (h : c.Reaches) {f : FilterSettings} (hf : f.InRange) {depth : Nat}
    (hd : InReach depth) (thrust : Int) : (c.filter f depth thrust).Reaches := by
  obtain ⟨-, rest⟩ := h
  obtain ⟨-, -, taps, -⟩ := hf
  refine ⟨?_, rest⟩
  simp only [Channel.filter, recordedDepth, Option.mem_some, forall_eq', InReach] at hd ⊢
  omega

theorem Channel.Reaches.measure {c : Channel} (h : c.Reaches) (f : FilterSettings) {depth : Nat} (hd : InReach depth) :
    (c.measure f depth).Reaches := by
  unfold Channel.measure
  split
  · exact h
  · exact h.take f _ ((machineDepth_le ‹_›).trans hd)

theorem Channel.Reaches.limit {c : Channel} (h : c.Reaches) (f : FilterSettings) (depth : Nat) :
    (c.limit f depth).Reaches := by
  unfold Channel.limit
  split <;> exact h

theorem Channel.Reaches.integrate {c : Channel} (h : c.Reaches) (f : FilterSettings) {stroke : Nat}
    (hs : InReach stroke) (force : Int) : (c.integrate f stroke force).Reaches := by
  obtain ⟨last, -, rest⟩ := h
  exact ⟨last, by simpa [Channel.integrate] using hs, rest⟩

end Sys2Proof.Machine
end

section
/-! The rules that every step keeps, fifth part: the signature unit and the head cycle (R42 to R92). -/

namespace Sys2Proof.Machine
set_option Elab.async false

/-! ## The channels (R71 to R76) -/

/-- The drill channels are both GRANTED (R74). -/
theorem bothGranted_iff {s : State} : ((s.channel 0).holder ≠ none ∧ (s.channel 1).holder ≠ none) ↔
    ∀ d : ChannelNo, d.val < 2 → (s.channel d).holder ≠ none := by
  simp [Fin.forall_fin_succ]

/-- A channel is written within its ranges, a drill channel not becoming FREE by it. -/
theorem State.setChannel_keepsBut {but : List Rule} {s t : State} (h : s.KeepsBut but t) {c : ChannelNo} {x : Channel}
    (holder : .drills ∈ but ∨ (c.val < 2 → x.holder = none → (t.channel c).holder = none)) (range : s.ChannelRule → x.InRange)
    (reach : .depth ∈ but ∨ (s.ChannelRule → s.DepthRule → x.Reaches)) : s.KeepsBut but (t.setChannel c x) := by
  have written {P : Channel → Prop} (hx : P x) (others : ∀ d, P (t.channel d)) (d : ChannelNo) :
      P ((t.setChannel c x).channel d) := by
    rw [State.channel_setChannel]
    split
    · exact hx
    · exact others d
  intro r other holds
  have kept := h r other holds
  cases r
  case channel => exact ⟨kept.1, written (range holds) kept.2⟩
  case depth =>
    exact ⟨⟨kept.1.1, written (range holds.1) kept.1.2⟩,
      written (reach.resolve_left other holds.1 holds.2) kept.2⟩
  case drills =>
    refine kept.imp id fun granted => bothGranted_iff.2 fun d drill => ?_
    rw [State.channel_setChannel]
    split
    next e =>
      subst e
      exact fun free => bothGranted_iff.1 granted c drill (holder.resolve_left other drill free)
    next => exact bothGranted_iff.1 granted d drill
  all_goals exact kept

/-- A channel that is granted is initialised (R72, R77). -/
theorem State.grantChannel_keeps (s : State) (c : ChannelNo) (h : HeadNo) (i : Option Nat) :
    s.Keeps (s.setChannel c (Channel.grantTo h i)) :=
  State.setChannel_keepsBut (.refl s) (.inr fun _ => nofun) (fun _ => Channel.inRange_grantTo h i)
    (.inr fun _ _ => Channel.reaches_grantTo h i)

theorem State.setDrillQueue_keepsBut (s : State) (q : List HeadNo) : s.KeepsBut [.drills] (s.setDrillQueue q) := by
  intro r other holds
  cases r
  case drills => exact absurd List.mem_cons_self other
  all_goals exact holds

/-- Heads that leave the wait queue (R75). -/
theorem State.setDrillQueue_keeps {s : State} {q : List HeadNo} (fewer : s.signature.drillQueue = [] → q = []) :
    s.Keeps (s.setDrillQueue q) := (s.setDrillQueue_keepsBut q).restore_of fun holds => holds.imp fewer id

theorem State.sendFeed_keeps (s : State) (h : HeadNo) (r : FeedRate) : s.Keeps (s.sendFeed h r) :=
  (s.modHead_keeps_same h).trans (State.sendDrive_keeps _ h _)

theorem State.enterDrill_keeps (s : State) (h : HeadNo) : s.Keeps (s.enterDrill h) :=
  (((s.setJointState_keeps h .drilling).trans (State.writeResult_keeps _ h _)).trans
    (State.modHead_keeps_entry _ h)).trans (State.sendFeed_keeps _ h _)

theorem State.grantDrill_keeps (s : State) (c : ChannelNo) (h : HeadNo) : s.Keeps (s.grantDrill c h) :=
  (s.grantChannel_keeps c h _).trans (State.enterDrill_keeps _ h)

theorem State.freeDrill_none_iff {s : State} :
    s.freeDrill = none ↔ (s.channel 0).holder ≠ none ∧ (s.channel 1).holder ≠ none := by simp [State.freeDrill]

/-- A head that finds no FREE drill channel waits for one (R44, R72). -/
theorem State.waitForDrill_keeps {s : State} (busy : s.freeDrill = none) (h : HeadNo) : s.Keeps (s.waitForDrill h) := by
  have waits : s.Keeps (s.modHead h fun x => { x with state := .drillWait, phaseTimer := none, order := none }) :=
    s.modHead_keeps_entry h
  exact ((KeepsBut.of_keeps waits).trans (State.setDrillQueue_keepsBut _ _)).restore
    (.inr (State.freeDrill_none_iff.1 busy))

theorem State.askDrill_keeps (s : State) (h : HeadNo) : s.Keeps (s.askDrill h) := by
  unfold State.askDrill
  split
  · exact (s.modHead_keeps_same h).trans (State.grantDrill_keeps _ _ h)
  next busy => exact State.waitForDrill_keeps busy h

/-- A drill channel that is released passes to the head at the front of the queue, or becomes FREE with nobody waiting
(R74). -/
theorem State.releaseDrill_keeps {s t : State} {c : ChannelNo} (h : s.KeepsBut [.drills] t)
    (queue : t.signature.drillQueue = s.signature.drillQueue)
    (others : ∀ d, d ≠ c → (t.channel d).holder = (s.channel d).holder) : s.Keeps (t.releaseDrill c) := by
  unfold State.releaseDrill
  split
  next nobody =>
    have range (rule : s.ChannelRule) : (t.channel c).InRange := (h .channel (by simp) rule).2 c
    have reach (rule : s.ChannelRule) (depths : s.DepthRule) : (t.channel c).Reaches :=
      (h .depth (by simp) ⟨rule, depths⟩).2 c
    exact KeepsBut.restore (r := .drills) (State.setChannel_keepsBut h (x := (t.channel c).free) (.inl (by simp))
      (fun rule => (range rule).free) (.inr reach)) (.inl nobody)
  next g rest waits =>
    have granted := (h.trans (t.setDrillQueue_keepsBut rest)).andThen (State.grantDrill_keeps (t.setDrillQueue rest) c g)
    refine KeepsBut.restore_of (r := .drills) granted fun rule => .inr (bothGranted_iff.2 fun d drill => ?_)
    have both := bothGranted_iff.1 (rule.resolve_left (by rw [← queue, waits]; simp)) d drill
    have channel : (((t.setDrillQueue rest).grantDrill c g).channel d).holder =
        if c = d then some g else (t.channel d).holder := by
      show (((t.setDrillQueue rest).setChannel c _).enterDrill g).signature.channels[d].holder = _
      rw [(State.enterDrill_frame _ g).2.1]
      show (((t.setDrillQueue rest).setChannel c _).channel d).holder = _
      rw [State.channel_setChannel]
      split <;> rfl
    rw [channel]
    split
    · simp
    next other => rw [others d (Ne.symm other)]; exact both

/-! ## Drilling (R46 to R52) -/

theorem State.startPeck_keeps (s : State) (h : HeadNo) : s.Keeps (s.startPeck h) :=
  ((s.sendDrive_keeps h _).trans (State.writeResult_keeps _ h _)).trans (State.modHead_keeps_same _ h)

theorem State.refeed_keeps (s : State) (h : HeadNo) (m : MachineState) : s.Keeps (s.refeed h m) :=
  .ite (fun _ => .refl s) fun _ => s.sendFeed_keeps h _

theorem State.enterRetract_keeps (s : State) (h : HeadNo) : s.Keeps (s.enterRetract h) :=
  (s.modHead_keeps_same h).trans (State.enterPhase_keeps _ h _ _)

theorem State.askRivet_keeps (s : State) (i : Nat) (code : Option RivetCode) : s.Keeps (s.askRivet i code) := by
  cases code with
  | none => exact .refl s
  | some c => exact s.drillingEndStep_keeps i c

theorem State.endMeasurement_keeps (s : State) (h : HeadNo) (c : ChannelNo) (i : Nat) (j : Joint) :
    s.Keeps (s.endMeasurement h c i j) :=
  (((((State.releaseDrill_keeps (.refl s) rfl fun _ _ => rfl).trans (State.modHead_keeps_same _ h)).trans
    (State.writeResult_keeps _ h _)).trans (State.modHead_keeps_same _ h)).trans (State.askRivet_keeps _ i _)).trans
    (State.enterRetract_keeps _ h)

theorem State.afterSample_keeps (s : State) (h : HeadNo) (c : ChannelNo) (i : Nat) (j : Joint) :
    s.Keeps (s.afterSample h c i j) :=
  .ite (fun _ => s.endMeasurement_keeps h c i j) fun _ => .ite (fun _ => s.startPeck_keeps h) fun _ => s.refeed_keeps h _

@[simp] theorem Channel.filter_holder (c : Channel) (f : FilterSettings) (depth : Nat) (thrust : Int) :
    (c.filter f depth thrust).holder = c.holder := rfl

@[simp] theorem Channel.take_holder (c : Channel) (f : FilterSettings) (y : Int) (d : Nat) :
    (c.take f y d).holder = c.holder := by
  unfold Channel.take Channel.takeWaiting Channel.takeCutting Channel.takeDip Channel.rebound Channel.breakThrough
    Channel.run Channel.deepen
  split <;> (repeat' split) <;> rfl

@[simp] theorem Channel.measure_holder (c : Channel) (f : FilterSettings) (depth : Nat) :
    (c.measure f depth).holder = c.holder := by
  unfold Channel.measure
  split
  · rfl
  · exact Channel.take_holder _ _ _ _

@[simp] theorem Channel.limit_holder (c : Channel) (f : FilterSettings) (depth : Nat) :
    (c.limit f depth).holder = c.holder := by
  unfold Channel.limit
  split <;> rfl

/-- A sample keeps every rule, that of the depths where its own depth lies within reach. -/
theorem State.channelSample_keeps {but : List Rule} {depth : Nat} (reach : .depth ∈ but ∨ InReach depth) {thrust : Int}
    (sixteen : InSixteen thrust) (s : State) (h : HeadNo) (c : ChannelNo) :
    s.KeepsBut but (s.channelSample h c depth thrust) := by
  have range (rule : s.ChannelRule) := (rule.2 c).filter s.signature.filter depth sixteen
  have depths (hd : InReach depth) (rule : s.ChannelRule) (depths : s.DepthRule) :=
    (depths c).filter rule.1 hd thrust
  have marked {t : State} (signature : t.signature.channels[c].holder = (s.channel c).holder) (keeps : s.KeepsBut but t) :
      s.KeepsBut but (t.setChannel c
        ((((s.channel c).filter s.signature.filter depth thrust).measure s.signature.filter depth).limit
          s.signature.filter depth)) :=
    State.setChannel_keepsBut keeps (.inr fun _ free => signature.trans (by simpa using free))
      (fun rule => ((range rule).measure rule.1 depth).limit _ depth)
      (reach.imp id fun hd rule holds => ((depths hd rule holds).measure _ hd).limit _ depth)
  have filtered : s.KeepsBut but (s.setChannel c ((s.channel c).filter s.signature.filter depth thrust)) :=
    State.setChannel_keepsBut (.refl s) (.inr fun _ free => free) range
      (reach.imp id fun hd rule holds => depths hd rule holds)
  unfold State.channelSample
  refine marked ?_ ?_
  · split <;> split <;> simp [State.setChannel]
  · have saturated : s.KeepsBut but (if (s.channel c).saturates s.signature.filter thrust then
        (s.setChannel c ((s.channel c).filter s.signature.filter depth thrust)).markSaturated h
        else s.setChannel c ((s.channel c).filter s.signature.filter depth thrust)) :=
      .ite (fun _ => filtered.andThen (State.markSaturated_keeps _ h)) fun _ => filtered
    exact .ite (fun _ => saturated.andThen (State.markOverflow_keeps _ h)) fun _ => saturated

theorem State.drillSample_keeps {but : List Rule} {depth : Nat} (reach : .depth ∈ but ∨ InReach depth) {thrust : Int}
    (sixteen : InSixteen thrust) (s : State) (h : HeadNo) : s.KeepsBut but (s.drillSample h depth thrust) := by
  unfold State.drillSample
  split
  · split
    · exact ((KeepsBut.of_keeps (s.modHead_keeps_same h)).trans (State.channelSample_keeps reach sixteen _ h _)).andThen
        (State.afterSample_keeps _ h _ _ _)
    · exact .refl s
    · exact .refl s
    · exact .refl s
  · exact .refl s

theorem State.peckBack_keeps (s : State) (h : HeadNo) : s.Keeps (s.peckBack h) :=
  .ite (fun _ => (s.modHead_keeps_same h).trans (State.sendFeed_keeps _ h _)) fun _ => .refl s

theorem State.enterRelease_keeps (s : State) (h : HeadNo) : s.Keeps (s.enterRelease h) := s.enterPhase_keeps h _ _

theorem State.enterAwait_keeps (s : State) (h : HeadNo) : s.Keeps (s.enterAwait h) :=
  ((s.modHead_keeps_entry h).trans (State.setJointState_keeps _ h _)).trans (State.requestPermit_keeps _ h)

theorem State.retractDone_keeps (s : State) (h : HeadNo) : s.Keeps (s.retractDone h) :=
  .ite (fun _ => .ite (fun _ => s.enterAwait_keeps h) fun _ =>
    (s.enterRelease_keeps h).trans (State.setJointState_keeps _ h _)) fun _ => .refl s

theorem State.rivetWaitExpired_keeps (s : State) (h : HeadNo) : s.Keeps (s.rivetWaitExpired h) := by
  unfold State.rivetWaitExpired
  split
  · have withdrawn := (s.modHead_keeps_same h (f := fun x =>
      { x with rivetWait := .stopped, outcome := some (.rejected .rivetTimeout) })).trans (State.withdraw_keeps _ h)
    refine KeepsBut.trans ?_ (State.enterRelease_keeps _ h)
    split
    · exact withdrawn
    · exact withdrawn.trans (State.endHeaterUse_keeps _ _)
  · exact .refl s

/-! ## Setting (R55, R56, R93, R130, R131) -/

theorem State.feedDone_keeps (s : State) (h : HeadNo) : s.Keeps (s.feedDone h) := by
  unfold State.feedDone
  split
  · split
    · exact .refl s
    · split
      · exact .refl s
      · exact ((s.grantChannel_keeps _ h _).trans (State.setPermit_some_keeps _ _ _)).trans
          (State.enterPhase_keeps _ h _ _)
  · exact .refl s

theorem setChannelOf_not_drill (k : PermitNo) : ¬ (setChannelOf k).val < 2 := by revert k; decide

/-- A set sample keeps every rule, that of the depths where its stroke lies within reach. -/
theorem State.setSample_keeps {but : List Rule} {stroke : Nat} (reach : .depth ∈ but ∨ InReach stroke) {force : Int}
    (sixteen : InSixteen force) (s : State) (h : HeadNo) : s.KeepsBut but (s.setSample h stroke force) := by
  unfold State.setSample
  split
  · split
    · exact .refl s
    next k _ =>
      have integrated : s.KeepsBut but (s.setChannel (setChannelOf k)
          ((s.channel (setChannelOf k)).integrate s.signature.filter stroke force)) :=
        State.setChannel_keepsBut (.refl s) (.inr fun drill => absurd drill (setChannelOf_not_drill k))
          (fun rule => (rule.2 _).integrate _ stroke sixteen)
          (reach.imp id fun hd _ depths => (depths _).integrate _ hd force)
      exact .ite (fun _ => integrated.andThen (State.markSaturated_keeps _ h)) fun _ => integrated
  · exact .refl s

theorem State.finishSet_keeps (s : State) (h : HeadNo) (k : PermitNo) (g : PermitGrant) : s.Keeps (s.finishSet h k g) := by
  have formed : s.Keeps (s.setChannel (setChannelOf k) (s.channel (setChannelOf k)).formWork) :=
    State.setChannel_keepsBut (.refl s) (.inr fun drill => absurd drill (setChannelOf_not_drill k))
      (fun rule => (rule.2 _).formWork) (.inr fun _ depths => depths _)
  unfold State.finishSet
  refine State.grantAll_keeps ?_
  refine ((KeepsBut.trans (KeepsBut.of_keeps ?_) (State.setPermit_keepsBut _ k none)).andThen
    (State.modHead_keeps_same _ h)).andThen (State.enterRelease_keeps _ h)
  refine KeepsBut.trans ?_ (State.modJoint_keeps _ _)
  exact .ite (fun _ => formed.trans (State.markSaturated_keeps _ h)) fun _ => formed

theorem State.setDone_keeps (s : State) (h : HeadNo) : s.Keeps (s.setDone h) := by
  unfold State.setDone
  split
  · split
    · exact .refl s
    · split
      · exact .refl s
      · exact s.finishSet_keeps h _ _
  · exact .refl s

/-! ## Release (R5, R57) -/

theorem State.concludeJoint_keeps (s : State) (i : Nat) (out : Option HeadOutcome) : s.Keeps (s.concludeJoint i out) := by
  have concluded := (s.modJoint_keepsBut i (f := fun j => j.conclude out) (fun j => j.conclude_fixed out)).andThen
    (State.endHeaterUse_keeps _ i)
  have reported : s.KeepsBut [.pass] (if isRejection out then
      ((s.modJoint i (fun j => j.conclude out)).endHeaterUse i).post .jointRejected i
      else (s.modJoint i (fun j => j.conclude out)).endHeaterUse i) :=
    .ite (fun _ => concluded.andThen (State.post_keeps _ _ _)) fun _ => concluded
  exact State.recompute_keeps reported _

theorem State.release_keeps (s : State) (h : HeadNo) : s.Keeps (s.release h) := by
  unfold State.release
  refine KeepsBut.trans ?_ (State.modHead_keeps_entry _ h)
  split
  · exact .refl s
  · exact s.concludeJoint_keeps _ _

/-! ## Faults (R61, R75, R133) -/

theorem State.rejectHeld_keeps (s : State) (i : Nat) (phase : HeadState) : s.Keeps (s.rejectHeld i phase) :=
  State.recompute_keeps ((s.modJoint_keepsBut i).andThen (State.post_keeps _ _ _)) _

theorem State.dropDrill_keeps (s : State) (h : HeadNo) : s.Keeps (s.dropDrill h) := by
  unfold State.dropDrill
  split
  next c _ =>
    refine State.releaseDrill_keeps (State.setChannel_keepsBut (.refl s) (.inl (by simp))
      (fun rule => (rule.2 c).cutShort) (.inr fun _ depths => depths c)) rfl fun d other => ?_
    rw [State.channel_modChannel, if_neg (Ne.symm other)]
  next => exact State.setDrillQueue_keeps fun nobody => by simp [nobody]

theorem State.freeSetChannel_keeps (s : State) (k : PermitNo) (h : HeadNo) : s.Keeps (s.freeSetChannel k h) :=
  .ite (fun _ => State.setChannel_keepsBut (.refl s) (.inr fun drill => absurd drill (setChannelOf_not_drill k))
    (fun rule => (rule.2 _).free) (.inr fun _ depths => depths _)) fun _ => .refl s

theorem State.dropPermit_keeps (s : State) (h : HeadNo) : s.Keeps (s.dropPermit h) := by
  unfold State.dropPermit
  split
  next k _ =>
    exact State.grantAll_keeps ((KeepsBut.of_keeps (s.freeSetChannel_keeps k h)).trans (State.setPermit_keepsBut _ k none))
  next => exact s.withdraw_keeps h

theorem State.faultHead_keeps (s : State) (h : HeadNo) (cause : FaultCause) : s.Keeps (s.faultHead h cause) := by
  have faulted : s.Keeps ((s.modHead h (fun y => y.faulted cause s.time)).sendDrive h .stop) :=
    (s.modHead_keeps_entry h).trans (State.sendDrive_keeps _ h _)
  have freed {t : State} (keeps : s.Keeps t) : s.Keeps ((t.dropDrill h).dropPermit h) :=
    (keeps.trans (t.dropDrill_keeps h)).trans (State.dropPermit_keeps _ h)
  simp only [State.faultHead]
  cases (s.head h).held with
  | none => exact (freed faulted).trans (State.post_keeps _ _ _)
  | some i =>
    exact ((freed ((faulted.trans (State.rejectHeld_keeps _ i _)).trans (State.modHead_keeps_same _ h))).trans
      (State.endHeaterUse_keeps _ i)).trans (State.post_keeps _ _ _)

end Sys2Proof.Machine
end

section
/-! The rules that every step keeps, sixth part: rail claims, modes and directives (R26 to R36, R141 to R158). -/

namespace Sys2Proof.Machine
set_option Elab.async false

/-! ## Rail claims (R26) -/

/-- A claim `lo` to `hi` of a head is compatible with the other claim of its rail (R26). -/
def State.Apart (s : State) (h : HeadNo) (lo hi : Nat) : Prop :=
  if isLower h then hi + s.station.clearance ≤ s.claimLo (neighbour h)
  else s.claimHi (neighbour h) + s.station.clearance ≤ lo

theorem State.railCompatible_iff {s : State} :
    s.RailCompatible 0 1 ∧ s.RailCompatible 2 3 ↔ ∀ h, s.Apart h (s.claimLo h) (s.claimHi h) := by
  simp only [Fin.forall_fin_succ, State.Apart, State.RailCompatible]
  simp [isLower, neighbour]

/-- The rail rule after a head's claim and record have changed: the new claim lies on the rail and apart from the other,
the head stands on the rail, and the target of a travel lies within the claim. -/
theorem State.RailRule.withClaim {s t : State} (rule : s.RailRule) {h : HeadNo} {c : Claim} (mode : t.mode = s.mode)
    (joints : t.table.joints = s.table.joints) (settings : t.link.settings = s.link.settings)
    (claims : ∀ g, t.claim g = if h = g then some c else s.claim g) (others : ∀ g, h ≠ g → t.head g = s.head g)
    (fits : s.link.settings ≠ none → c.onRail s.station.railLength ∧ s.Apart h c.lo c.hi ∧
      (∀ p ∈ (t.head h).position, p ≤ s.station.railLength) ∧
      ((t.head h).state = .travel → ∀ x ∈ (t.head h).target, c.lo ≤ x ∧ x ≤ c.hi)) : t.RailRule := by
  have station : t.station = s.station := by simp only [State.station, settings]
  have claimLo (g : HeadNo) : t.claimLo g = if h = g then c.lo else s.claimLo g := by
    simp only [State.claimLo, claims, State.homePoint, station]
    split <;> rfl
  have claimHi (g : HeadNo) : t.claimHi g = if h = g then c.hi else s.claimHi g := by
    simp only [State.claimHi, claims, State.homePoint, station]
    split <;> rfl
  obtain ⟨setup, rest⟩ := rule
  refine ⟨fun m => by rw [joints]; exact setup (mode ▸ m), fun accepted => ?_⟩
  rw [settings] at accepted
  obtain ⟨railA, railB, onRail, positions, corrected, travel⟩ := rest accepted
  obtain ⟨newOnRail, apart, newPosition, newTarget⟩ := fits accepted
  rw [← and_assoc, State.railCompatible_iff, station, joints]
  refine ⟨fun g => ?_, fun g k hk => ?_, fun g p hp => ?_, corrected, fun g m x hx => ?_⟩
  · have old := State.railCompatible_iff.1 ⟨railA, railB⟩ g
    simp only [State.Apart, station, claimLo, claimHi] at apart old ⊢
    revert apart old
    fin_cases h <;> fin_cases g <;> simp [isLower, neighbour] <;> omega
  · rw [claims] at hk
    split at hk
    · rw [← Option.some_inj.1 hk]
      exact newOnRail
    · exact onRail g k hk
  · by_cases e : h = g
    · exact newPosition p (e ▸ hp)
    · exact positions g p (others g e ▸ hp)
  · by_cases e : h = g
    · subst e
      exact ⟨c, by simp [claims], newTarget m x hx⟩
    · rw [others g e] at m hx
      obtain ⟨k, hk, within⟩ := travel g m x hx
      exact ⟨k, by rw [claims, if_neg e]; exact hk, within⟩

/-- The rail rule with every corrected position absent, in whatever mode. -/
theorem State.RailRule.withoutPositions {s t : State} (rule : s.RailRule) (absent : ∀ j ∈ t.table.joints, j.corrected = none)
    (settings : t.link.settings = s.link.settings) (claims : t.dispatcher.claims = s.dispatcher.claims)
    (heads : t.heads = s.heads) : t.RailRule := by
  refine ⟨fun _ => absent, ?_⟩
  have kept := rule.2
  simp only [State.RailCompatible, State.claimLo, State.claimHi, State.homePoint, State.station, State.claim, State.head,
    settings, claims, heads] at kept ⊢
  intro accepted
  obtain ⟨railA, railB, onRail, positions, -, travel⟩ := kept accepted
  exact ⟨railA, railB, onRail, positions, fun j mem t ht => by simp [absent j mem] at ht, travel⟩

theorem State.setClaim_keepsBut (s : State) (h : HeadNo) (c : Option Claim) : s.KeepsBut [.rail] (s.setClaim h c) := by
  intro r other holds
  cases r
  case rail => exact absurd List.mem_cons_self other
  all_goals exact holds

theorem State.withHeads_keepsBut (s : State) (heads : Vector Head 4) : s.KeepsBut [.rail] { s with heads } := by
  intro r other holds
  cases r
  case rail => exact absurd List.mem_cons_self other
  all_goals exact holds

theorem State.modHead_keepsBut (s : State) (h : HeadNo) (f : Head → Head) : s.KeepsBut [.rail] (s.modHead h f) :=
  s.withHeads_keepsBut _

theorem State.enterPhase_keepsBut (s : State) (h : HeadNo) (phase : HeadState) (n : Nat) (o : DriveOrder) :
    s.KeepsBut [.rail] (s.enterPhase h phase n o) := (s.modHead_keepsBut h _).andThen (State.sendDrive_keeps _ h o)

/-- What the rail rule says of one head's own claim (R26). -/
theorem State.RailRule.own {s : State} (rule : s.RailRule) (accepted : s.link.settings ≠ none) (h : HeadNo) :
    s.Apart h (s.claimLo h) (s.claimHi h) ∧ s.claimLo h ≤ s.claimHi h ∧ s.claimHi h ≤ s.station.railLength := by
  obtain ⟨-, rest⟩ := rule
  obtain ⟨railA, railB, onRail, -⟩ := rest accepted
  refine ⟨State.railCompatible_iff.1 ⟨railA, railB⟩ h, ?_⟩
  unfold State.claimLo State.claimHi
  cases claim : s.claim h with
  | none =>
    simp only [Option.map_none, Option.getD_none, Nat.le_refl, true_and, State.homePoint]
    split <;> omega
  | some c => exact onRail h c (by simp [claim])

theorem State.homePoint_le (s : State) (h : HeadNo) : s.homePoint h ≤ s.station.railLength := by
  unfold State.homePoint
  split <;> omega

/-- A smaller claim is apart where a greater one is. -/
theorem State.Apart.mono {s : State} {h : HeadNo} {lo hi lo' hi' : Nat} (apart : s.Apart h lo hi)
    (upper : isLower h = true → hi' ≤ hi) (lower : isLower h = false → lo ≤ lo') : s.Apart h lo' hi' := by
  unfold State.Apart at *
  split
  next side =>
    rw [if_pos side] at apart
    have := upper side
    omega
  next side =>
    rw [if_neg side] at apart
    have := lower (by simpa using side)
    omega

theorem State.homingClaim_fits (s : State) (h : HeadNo) :
    (isLower h = true → (s.homingClaim h).lo = 0 ∧ (s.homingClaim h).hi = s.claimHi h) ∧
      (isLower h = false → (s.homingClaim h).lo = s.claimLo h ∧ (s.homingClaim h).hi = s.station.railLength) := by
  unfold State.homingClaim State.claimLo State.claimHi State.homePoint
  cases s.claim h <;> cases isLower h <;> simp

/-- A head enters HOMING with a claim towards its home end (R28, R63). -/
theorem State.enterHoming_keeps (s : State) (h : HeadNo) : s.Keeps (s.enterHoming h) := by
  have entered := (s.enterPhase_keepsBut h .homing s.station.homeTime .home).trans
    (State.setClaim_keepsBut _ h (some (s.homingClaim h)))
  refine entered.restore_of fun rule => ?_
  refine State.RailRule.withClaim rule (h := h) (c := s.homingClaim h) rfl rfl rfl (fun g => ?_) (fun g other => ?_)
    fun accepted => ?_
  · rw [State.claim_setClaim]; rfl
  · show (s.enterPhase h .homing _ _).head g = _
    rw [State.head_enterPhase, if_neg other]
  · have head : ((s.enterPhase h .homing s.station.homeTime .home).setClaim h (some (s.homingClaim h))).head h =
        { s.head h with state := .homing, phaseTimer := some s.station.homeTime, order := some .home } := by
      show (s.enterPhase h .homing _ _).head h = _
      rw [State.head_enterPhase, if_pos rfl]
    obtain ⟨apart, ordered, onRail⟩ := State.RailRule.own rule accepted h
    obtain ⟨lower, upper⟩ := s.homingClaim_fits h
    rw [head]
    refine ⟨?_, apart.mono (fun side => (lower side).2.le) (fun side => (upper side).1.ge),
      (rule.2 accepted).2.2.2.1 h, nofun⟩
    unfold Claim.onRail
    cases side : isLower h with
    | true => have := lower side; omega
    | false => have := upper side; omega

/-- A head that has homed stands at its home point, which is its claim (R28, R63). -/
theorem State.home_keeps (s : State) (h : HeadNo) : s.Keeps (s.home h) := by
  have homed := (s.modHead_keepsBut h (fun x =>
    { x with state := .idle, phaseTimer := none, position := some (s.homePoint h), order := none })).trans
    (State.setClaim_keepsBut _ h (some ⟨s.homePoint h, s.homePoint h⟩))
  refine homed.restore_of fun rule => ?_
  refine State.RailRule.withClaim rule (h := h) (c := ⟨s.homePoint h, s.homePoint h⟩) rfl rfl rfl (fun g => ?_)
    (fun g other => ?_) fun accepted => ?_
  · rw [State.claim_setClaim]; rfl
  · rw [State.setClaim_head, State.head_modHead, if_neg other]
  · obtain ⟨apart, ordered, onRail⟩ := State.RailRule.own rule accepted h
    have point := s.homePoint_le h
    rw [State.setClaim_head, State.head_modHead, if_pos rfl]
    refine ⟨⟨Nat.le_refl _, point⟩, apart.mono (fun side => ?_) (fun side => ?_), by simpa using point, nofun⟩
    · simp [State.homePoint, side]
    · simp only [State.homePoint, side]
      exact ordered.trans onRail

/-! ## Dispatch rounds (R33 to R36) -/

/-- A head starts its travel within the span its search found clear (R35). -/
theorem State.assign_keeps {s : State} {h : HeadNo} {p i t : Nat} {j : Joint} (at_p : (s.head h).position = some p)
    (hj : s.joint? i = some j) (target : j.corrected = some t) (clear : s.spanClear h p t = true) :
    s.Keeps (s.assign h p i t) := by
  have changed : s.Keeps (s.changeJoint i (Joint.assignTo h)) := s.changeJoint_keeps i
  have started : s.KeepsBut [.rail] ((((s.changeJoint i (Joint.assignTo h)).setClaim h (some (travelSpan p t))).modHead h
      (fun x => { x with held := some i, target := some t })).enterPhase h .travel s.station.travelTime (.move t)) :=
    (((KeepsBut.of_keeps changed).trans (State.setClaim_keepsBut _ h _)).trans (State.modHead_keepsBut _ h _)).trans
      (State.enterPhase_keepsBut _ h _ _ _)
  refine KeepsBut.trans (started.restore_of fun rule => ?_) (State.preHeat_keeps _ i)
  have positions := (rule.2 · |>.2.2.2.1 h p (by simp [at_p]))
  have corrected := (rule.2 · |>.2.2.2.2.1 j (List.mem_of_getElem? hj) t (by simp [target]))
  have rule' : (s.changeJoint i (Joint.assignTo h)).RailRule := changed .rail (by simp) rule
  obtain ⟨dispatcher, heads, -, -, -, -, link, -⟩ := s.changeJoint_frame i (Joint.assignTo h)
  have head (g : HeadNo) : (s.changeJoint i (Joint.assignTo h)).head g = s.head g := by simp only [State.head, heads]
  have station : (s.changeJoint i (Joint.assignTo h)).station = s.station := by simp only [State.station, link]
  refine State.RailRule.withClaim rule' (h := h) (c := travelSpan p t) rfl rfl rfl (fun g => ?_)
    (fun g other => ?_) fun accepted => ?_
  · show ((s.changeJoint i (Joint.assignTo h)).setClaim h _).claim g = _
    rw [State.claim_setClaim]
  · show State.head (State.enterPhase _ h .travel _ _) g = _
    rw [State.head_enterPhase, if_neg other, State.head_modHead, if_neg other]
    rfl
  · rw [link] at accepted
    have hp := positions accepted
    have ht := corrected accepted
    have apart : s.Apart h (min p t) (max p t) := by simpa [State.spanClear, State.Apart] using clear
    rw [station, State.head_enterPhase, if_pos rfl, State.head_modHead, if_pos rfl]
    refine ⟨⟨min_le_max, Nat.max_le.2 ⟨hp, ht⟩⟩, ?_, fun x hx => ?_, fun _ x hx => ?_⟩
    · simpa only [State.Apart, State.claimLo, State.claimHi, State.homePoint, State.claim, station, dispatcher,
        travelSpan] using apart
    · rw [State.setClaim_head, head] at hx
      rw [at_p] at hx
      exact Option.mem_some.1 hx ▸ hp
    · rw [← Option.mem_some.1 hx]
      exact ⟨Nat.min_le_right _ _, Nat.le_max_right _ _⟩

/-- The span to what a search finds is clear (R34). -/
theorem State.spanClear_of_search {s : State} {h : HeadNo} {p i t : Nat} {j : Joint} (found : s.search h p = some i)
    (hj : s.joint? i = some j) (target : j.corrected = some t) : s.spanClear h p t = true := by
  have eligible := List.find?_some found
  simp only [hj, Option.any_some, State.eligible, Bool.and_eq_true, target] at eligible
  exact eligible.2

theorem State.serveHead_keeps (s : State) (h : HeadNo) : s.Keeps (s.serveHead h) := by
  unfold State.serveHead
  split
  · split
    · exact .refl s
    next p at_p =>
      split
      · exact .refl s
      next i found =>
        split
        · exact .refl s
        next t target =>
          obtain ⟨j, hj, target⟩ := Option.bind_eq_some_iff.1 target
          exact State.assign_keeps at_p hj target (State.spanClear_of_search found hj target)
  · exact .refl s

theorem State.round_keeps (s : State) : s.Keeps s.round :=
  .ite (fun _ => .foldl headNos (fun s h _ => s.serveHead_keeps h) s) fun _ => .refl s

/-- A head that has arrived stands at its target, which is its claim (R27, R43). -/
theorem State.arriveAt_keeps {s : State} {h : HeadNo} {t : Nat} (travel : (s.head h).state = .travel)
    (target : (s.head h).target = some t) : s.Keeps (s.arriveAt h t) := by
  have arrived := ((s.modHead_keepsBut h (fun x => { x with position := some t, target := none })).trans
    (State.setClaim_keepsBut _ h (some ⟨t, t⟩))).trans (State.enterPhase_keepsBut _ h .clamp s.station.clampTime .clamp)
  refine KeepsBut.trans (arrived.restore_of fun rule => ?_) (State.round_keeps _)
  refine State.RailRule.withClaim rule (h := h) (c := ⟨t, t⟩) rfl rfl rfl (fun g => ?_)
    (fun g other => ?_) fun accepted => ?_
  · show ((s.modHead h _).setClaim h _).claim g = _
    rw [State.claim_setClaim]
    rfl
  · rw [State.head_enterPhase, if_neg other, State.setClaim_head, State.head_modHead, if_neg other]
  · obtain ⟨apart, -, -⟩ := State.RailRule.own rule accepted h
    obtain ⟨-, -, onRail, -, -, within⟩ := rule.2 accepted
    obtain ⟨c, claim, least, greatest⟩ := within h travel t (by simp [target])
    have bound := (onRail h c claim).2
    have lo : s.claimLo h = c.lo := by simp [State.claimLo, Option.mem_def.1 claim]
    have hi : s.claimHi h = c.hi := by simp [State.claimHi, Option.mem_def.1 claim]
    rw [State.head_enterPhase, if_pos rfl, State.setClaim_head, State.head_modHead, if_pos rfl]
    exact ⟨⟨Nat.le_refl t, greatest.trans bound⟩, apart.mono (fun _ => hi ▸ greatest) (fun _ => lo ▸ least),
      fun p hp => Option.mem_some.1 hp ▸ greatest.trans bound, nofun⟩

theorem State.roundIfPassChanged_keeps (s : State) (old : Option Pass) : s.Keeps (s.roundIfPassChanged old) :=
  .ite (fun _ => .refl s) fun _ => s.round_keeps

end Sys2Proof.Machine
end

section
/-! The rules that every step keeps, seventh part: modes and directives (R140 to R158). -/

namespace Sys2Proof.Machine
set_option Elab.async false

/-! ## Mode changes (R140, R141) -/

/-- Every code that the rivet table can return names a defined class (R147). -/
def State.CodesDefined (s : State) : Prop := ∀ e ∈ s.heater.table, s.heater.classes[e.code] ≠ none

/-- A mode is entered where the codes it needs are defined, and SETUP where no joint has a corrected position. -/
theorem State.enterMode_keepsBut {but : List Rule} {s : State} {m : Mode}
    (codes : .classes ∈ but ∨ m = .setup ∨ m = .aborted ∨ s.CodesDefined ∨ s.mode ≠ .setup ∧ s.mode ≠ .aborted)
    (positions : .rail ∈ but ∨ m ≠ .setup ∨ ∀ j ∈ s.table.joints, j.corrected = none) :
    s.KeepsBut but (s.enterMode m) := by
  refine KeepsBut.andThen (t := { s with control := { s.control with mode := m, inProgress := m.progress } }) ?_
    (State.post_keeps _ _ _)
  intro r other holds
  cases r
  case progress => rfl
  case classes =>
    rcases codes.resolve_left other with h | h | h | ⟨h1, h2⟩
    · exact .inl h
    · exact .inr (.inl h)
    · exact .inr (.inr h)
    · exact .inr (.inr ((holds.resolve_left h1).resolve_left h2))
  case rail =>
    refine ⟨fun setup => ?_, holds.2⟩
    exact (positions.resolve_left other).elim (fun h => absurd setup h) id
  all_goals exact holds

/-- A mode but SETUP is entered from a mode in which the codes are defined. -/
theorem State.enterMode_keeps {s : State} {m : Mode} (setup : s.mode ≠ .setup) (aborted : s.mode ≠ .aborted)
    (other : m ≠ .setup := by decide) : s.Keeps (s.enterMode m) :=
  State.enterMode_keepsBut (.inr (.inr (.inr (.inr ⟨setup, aborted⟩)))) (.inr (.inl other))

theorem State.completeProgram_keeps {s : State} (running : s.mode = .running) : s.Keeps s.completeProgram :=
  (State.enterMode_keeps (by simp [running]) (by simp [running])).trans (State.post_keeps _ _ _)

theorem State.programTest_keeps (s : State) : s.Keeps s.programTest :=
  .ite (fun c => State.completeProgram_keeps c.1) fun _ => .refl s

theorem State.passGone_keeps (s : State) (old : Option Pass) : s.Keeps (s.passGone old) :=
  .ite (fun _ => s.programTest_keeps) fun _ => .refl s

theorem State.drainTest_keeps (s : State) : s.Keeps s.drainTest :=
  .ite (fun c => State.enterMode_keeps (by simp [c.1]) (by simp [c.1])) fun _ => .refl s

theorem State.holdTest_keeps (s : State) : s.Keeps s.holdTest :=
  .ite (fun c => State.enterMode_keeps (by simp [c.1]) (by simp [c.1])) fun _ => .refl s

theorem State.armingTest_keeps (s : State) : s.Keeps s.armingTest :=
  .ite (fun c => (State.enterMode_keeps (by simp [c.1]) (by simp [c.1])).trans (State.serve_keeps _)) fun _ => .refl s

theorem State.settleJoint_keeps (s : State) (old : Option Pass) : s.Keeps (s.settleJoint old) :=
  ((s.passGone_keeps old).trans (State.drainTest_keeps _)).trans (State.roundIfPassChanged_keeps _ old)

/-! ## Corrected positions (R18, R19) -/

/-- Every corrected position becomes absent. -/
theorem State.dropCorrected_joints (s : State) : ∀ j ∈ s.dropCorrected.table.joints, j.corrected = none := by
  simp [State.dropCorrected, State.mapJoints]

theorem State.dropCorrected_keeps (s : State) : s.Keeps s.dropCorrected := by
  intro r _ holds
  have same {α : Type} (g : Joint → α) (h : ∀ j : Joint, g { j with corrected := none } = g j) :
      s.dropCorrected.table.joints.map g = s.table.joints.map g := by
    simp [State.dropCorrected, State.mapJoints, Function.comp_def, h]
  cases r
  case pass => exact Eq.trans holds (currentPassOf_of_map (same _ fun _ => rfl)).symm
  case table => exact State.TableRule.of_map holds (same _ fun _ => rfl)
  case rail => exact State.RailRule.withTable holds fun k mem => .inl (s.dropCorrected_joints k mem)
  all_goals exact holds

/-- SETUP is entered by updates of the table, the reports and the control that end with no corrected position. -/
theorem State.dropCorrected_restores {s t : State} {but : List Rule} (h : s.KeepsBut (.rail :: but) t)
    (settings : t.link.settings = s.link.settings) (claims : t.dispatcher.claims = s.dispatcher.claims)
    (heads : t.heads = s.heads) : s.KeepsBut but t.dropCorrected :=
  (h.andThen t.dropCorrected_keeps).restore_of fun rule =>
    State.RailRule.withoutPositions rule t.dropCorrected_joints settings claims heads

theorem correctedOf_le {datum : Vector Int 16} {railLength p : Nat} {d : JointIdentity}
    (h : correctedOf datum railLength d = some p) : p ≤ railLength := by
  unfold correctedOf at h
  split at h
  · cases h
    omega
  · cases h

theorem Joint.armed_corrected (datum : Vector Int 16) (railLength : Nat) (j : Joint) :
    ∀ p ∈ (j.armed datum railLength).corrected, p ≤ railLength := by
  unfold Joint.armed
  split
  next h => simpa using correctedOf_le h
  next => split <;> simp [Joint.reject]

theorem Joint.armed_identity (datum : Vector Int 16) (railLength : Nat) (j : Joint) :
    (j.armed datum railLength).identity = j.identity ∧ (j.armed datum railLength).reworks = j.reworks := by
  unfold Joint.armed
  (repeat' split) <;> exact ⟨rfl, rfl⟩

/-- ARM computes every corrected position (R18). -/
theorem State.computeCorrected_keeps {s : State} (mode : s.mode ≠ .setup) : s.Keeps s.computeCorrected := by
  have computed : s.KeepsBut [.pass] (s.mapJoints (Joint.armed s.table.datum s.station.railLength)) := by
    intro r other holds
    cases r
    case pass => exact absurd List.mem_cons_self other
    case table =>
      refine State.TableRule.of_map holds ?_
      simp only [State.mapJoints, List.map_map]
      exact List.map_congr_left fun j _ => by simp [Joint.armed_identity]
    case rail =>
      refine ⟨fun setup => absurd setup mode, fun accepted => ?_⟩
      obtain ⟨railA, railB, onRail, positions, -, travel⟩ := holds.2 accepted
      refine ⟨railA, railB, onRail, positions, fun j mem => ?_, travel⟩
      obtain ⟨k, -, rfl⟩ := List.mem_map.1 mem
      exact k.armed_corrected _ _
    all_goals exact holds
  exact State.recompute_keeps (computed.andThen (State.postRejected_keeps _ _)) _

/-! ## ARM (R147, R149) -/

theorem State.homeAll_keeps (s : State) : s.Keeps s.homeAll :=
  .foldl headNos (fun s h _ => .ite (fun _ => .refl s) fun _ => s.enterHoming_keeps h) s

/-- ARM passes its validation only with every code defined (R147). -/
theorem State.codesDefined_of_armFault {s : State} (passed : s.armFault = none) : s.CodesDefined := by
  intro e mem undefined
  have missing : s.heater.table.any (fun e => s.heater.classes[e.code].isNone) = true :=
    List.any_eq_true.2 ⟨e, mem, by simp [undefined]⟩
  simp only [State.armFault, missing, if_true] at passed
  split at passed <;> cases passed

theorem State.executeArm_keeps {s : State} (setup : s.mode = .setup) : s.Keeps s.executeArm := by
  obtain ⟨table, dispatcher, heads, -, heater, -, link, -⟩ := s.enterMode_frame .arming
  have arming : (s.enterMode .arming).mode = .arming := by simp [State.mode, State.enterMode]
  unfold State.executeArm
  split
  next reason _ =>
    obtain ⟨table', dispatcher', heads', -, -, -, link', -⟩ := (s.enterMode .arming).enterMode_frame .setup
    have back : ((s.enterMode .arming).enterMode .setup).mode = .setup := by simp [State.mode, State.enterMode]
    have failed : s.KeepsBut [.classes, .rail] ((s.enterMode .arming).enterMode .setup) :=
      (State.enterMode_keepsBut (.inl (by simp)) (.inl (by simp))).trans
        (State.enterMode_keepsBut (.inl (by simp)) (.inl (by simp)))
    refine KeepsBut.trans ((failed.restore (.inl back)).restore_of fun rule => ?_) (State.post_keeps _ _ _)
    exact State.RailRule.of_same rule (back.trans setup.symm) (by rw [table', table]) (by rw [link', link])
      (by rw [dispatcher', dispatcher]) (heads'.trans heads)
  next passed =>
    have codes : s.CodesDefined := by
      have := State.codesDefined_of_armFault passed
      rwa [State.CodesDefined, heater] at this
    exact ((State.enterMode_keepsBut (.inr (.inr (.inr (.inl codes)))) (.inr (.inl (by decide)))).trans
      (State.computeCorrected_keeps (by rw [arming]; decide))).trans (State.homeAll_keeps _)

theorem State.failArm_keeps (s : State) : s.Keeps s.failArm := by
  have failed : s.KeepsBut [.rail] ((s.enterMode .setup).post .armFailed 3) :=
    (State.enterMode_keepsBut (.inr (.inl rfl)) (.inl (by simp))).andThen (State.post_keeps _ _ _)
  exact State.dropCorrected_restores failed (by simp) (by simp) (by simp)

/-! ## START, HOLD, RESUME and DRAIN (R150 to R154) -/

theorem State.beginRunning_keeps (s : State) : s.Keeps s.beginRunning :=
  (s.round_keeps.trans (State.postBlocked_keeps _ _)).trans (State.programTest_keeps _)

theorem State.backToWork_keeps (s : State) : s.Keeps s.backToWork := (s.mapWaits_keeps _).trans (State.reRaise_keeps _)

section Working

variable {s : State} (setup : s.mode ≠ .setup) (aborted : s.mode ≠ .aborted)
include setup aborted

theorem State.executeStart_keeps : s.Keeps s.executeStart :=
  (State.enterMode_keeps setup aborted).trans (State.beginRunning_keeps _)

theorem State.executeHold_keeps : s.Keeps s.executeHold :=
  (((State.enterMode_keeps setup aborted).trans (State.setPermitQueue_nil_keeps _)).trans
    (State.mapWaits_keeps _ _)).trans (State.holdTest_keeps _)

theorem State.executeResume_keeps : s.Keeps s.executeResume :=
  ((State.enterMode_keeps setup aborted).trans (State.backToWork_keeps _)).trans (State.beginRunning_keeps _)

theorem State.executeDrain_keeps : s.Keeps s.executeDrain :=
  .ite (fun _ => ((State.enterMode_keeps setup aborted).trans (State.backToWork_keeps _)).trans
    (State.drainTest_keeps _)) fun _ => (State.enterMode_keeps setup aborted).trans (State.drainTest_keeps _)

end Working

/-! ## DISARM, ABORT and RECOVER (R156 to R158) -/

theorem State.executeDisarm_keeps (s : State) : s.Keeps s.executeDisarm := by
  obtain ⟨-, dispatcher, heads, -, -, -, link, -⟩ := s.enterMode_frame .setup
  have entered : s.KeepsBut [.rail] (s.enterMode .setup) := State.enterMode_keepsBut (.inr (.inl rfl)) (.inl (by simp))
  have dropped : s.Keeps (s.enterMode .setup).dropCorrected :=
    State.dropCorrected_restores entered (by rw [link]) (by rw [dispatcher]) heads
  exact ((dropped.trans (State.parkWhere_keeps _ _)).trans (State.ejectAll_keeps _)).trans (State.restorePockets_keeps _)

/-- A joint in work counts, and so it does LOCKED (R7, R20). -/
theorem Joint.lock_counts (j : Joint) (phase : Option HeadState) : (j.lock phase).counts = j.counts := by
  unfold Joint.lock
  split
  next work => simp [Joint.counts, work]
  next => rfl

theorem Joint.lock_fixed (j : Joint) (phase : Option HeadState) : (j.lock phase).fixed = j.fixed := by
  unfold Joint.lock
  split <;> rfl

theorem State.lockJoints_keeps (s : State) : s.Keeps s.lockJoints := by
  have same {α : Type} (g : Joint → α) (h : ∀ (j : Joint) (phase : Option HeadState), g (j.lock phase) = g j) :
      s.lockJoints.table.joints.map g = s.table.joints.map g := by
    refine List.ext_getElem? fun n => ?_
    simp only [State.lockJoints, List.getElem?_map, List.getElem?_mapIdx, Option.map_map, Function.comp_def, h]
  refine (State.withTable_keepsBut (s := s) (table := s.lockJoints.table)
    (same _ Joint.lock_fixed)).restore_of fun pass => ?_
  refine Eq.trans pass (currentPassOf_of_map (same _ fun j phase => ?_)).symm
  rw [Joint.lock_counts, show (j.lock phase).identity = j.identity from congrArg Prod.fst (j.lock_fixed phase)]

theorem Channel.InRange.aborted {x : Channel} (h : x.InRange) (c : ChannelNo) : (x.aborted c).InRange := by
  unfold Channel.aborted
  (repeat' split)
  · exact h
  · exact h.cutShort
  · exact h.free

theorem Channel.Reaches.aborted {x : Channel} (h : x.Reaches) (c : ChannelNo) : (x.aborted c).Reaches := by
  unfold Channel.aborted
  (repeat' split) <;> exact h

theorem State.abortChannels_keeps (s : State) : s.Keeps s.abortChannels := by
  have each (s : State) (c : ChannelNo) : s.KeepsBut [.drills] (s.modChannel c (Channel.aborted c)) :=
    State.setChannel_keepsBut (.refl s) (.inl (by simp)) (fun rule => (rule.2 c).aborted c)
      (.inr fun _ depths => (depths c).aborted c)
  exact ((KeepsBut.foldl channelNos (fun s c _ => each s c) s).trans (State.setDrillQueue_keepsBut _ [])).restore
    (.inl rfl)

theorem State.abortPermits_keeps (s : State) : s.Keeps s.abortPermits :=
  (((s.setPermit_keepsBut 0 none).trans (State.setPermit_keepsBut _ 1 none)).andThen
    (State.setPermitQueue_nil_keeps _)).restore (.inl rfl)

theorem State.executeAbort_keeps (s : State) : s.Keeps s.executeAbort := by
  have entered : s.Keeps (s.enterMode .aborted) :=
    State.enterMode_keepsBut (.inr (.inr (.inl rfl))) (.inr (.inl (by decide)))
  exact State.recompute_keeps (.of_keeps (((((entered.trans (State.lockJoints_keeps _)).trans
    (State.stopHeads_keeps _)).trans (State.abortChannels_keeps _)).trans (State.abortPermits_keeps _)).trans
    (State.ejectAll_keeps _))) false

theorem State.executeRecover_keeps (s : State) : s.Keeps s.executeRecover := by
  have unlocked : s.KeepsBut [.rail, .pass]
      (((s.enterMode .setup).mapJoints Joint.unlock).postRejected (s.enterMode .setup).lockedJoints) := by
    refine KeepsBut.andThen ?_ (State.postRejected_keeps _ _)
    refine KeepsBut.trans (State.enterMode_keepsBut (.inr (.inl rfl)) (.inl (by simp))) fun r other => ?_
    exact State.mapJoints_keepsBut _ Joint.unlock_fixed r fun mem => other (by simp [List.mem_singleton.1 mem])
  have dropped := State.dropCorrected_restores unlocked (by simp) (by simp) (by simp)
  exact ((State.recompute_keeps dropped false).trans (State.parkWhere_keeps _ _)).trans (State.restorePockets_keeps _)

/-! ## Taking directives (R142 to R146) -/

theorem State.removePending_keeps (s : State) (ds : List Directive) : s.Keeps (s.removePending ds) :=
  State.withControl_keeps rfl rfl

theorem State.joinPending_keeps (s : State) (d : Directive) : s.Keeps (s.joinPending d) := State.withControl_keeps rfl rfl

theorem State.perform_keeps {s : State} {d : Directive} (legal : d.legal s.mode = true) : s.Keeps (s.perform d) := by
  have working (h : d.legal .setup = false) (h' : d.legal .aborted = false) : s.mode ≠ .setup ∧ s.mode ≠ .aborted :=
    ⟨fun e => by simp [e, h] at legal, fun e => by simp [e, h'] at legal⟩
  cases d with
  | abort => exact s.executeAbort_keeps
  | recover => exact s.executeRecover_keeps
  | drain => exact State.executeDrain_keeps (working rfl rfl).1 (working rfl rfl).2
  | hold => exact State.executeHold_keeps (working rfl rfl).1 (working rfl rfl).2
  | resume => exact State.executeResume_keeps (working rfl rfl).1 (working rfl rfl).2
  | start => exact State.executeStart_keeps (working rfl rfl).1 (working rfl rfl).2
  | disarm => exact s.executeDisarm_keeps
  | arm => exact State.executeArm_keeps (by simpa [Directive.legal] using legal)

theorem State.execute_keeps {s : State} {d : Directive} (legal : d.legal s.mode = true) : s.Keeps (s.execute d) :=
  (s.removePending_keeps _).trans (State.perform_keeps legal)

theorem State.takeDirective_keeps (s : State) (d : Directive) : s.Keeps (s.takeDirective d) :=
  .ite (fun legal => (s.removePending_keeps _).trans (State.execute_keeps legal)) fun _ =>
    (s.removePending_keeps _).trans (State.post_keeps _ _ _)

theorem State.takeTurns_keeps (n : Nat) (s : State) : s.Keeps (s.takeTurns n) := by
  induction n generalizing s with
  | zero => exact .refl s
  | succ n ih =>
    unfold State.takeTurns
    split
    · exact .refl s
    · split
      · exact .refl s
      · exact (s.takeDirective_keeps _).trans (ih _)

theorem State.controllerTurn_keeps (s : State) : s.Keeps s.controllerTurn :=
  .ite (fun _ => .refl s) fun _ => s.takeTurns_keeps _

/-- A directive interrupts only modes in which it is legal (R143). -/
theorem Directive.legal_of_interrupts {d : Directive} {m : Mode} (h : d.interrupts m = true) : d.legal m = true := by
  revert h
  cases d <;> cases m <;> decide

theorem State.arrive_keeps (s : State) (d : Directive) : s.Keeps (s.arrive d) :=
  .ite (fun _ => .refl s) fun _ => .ite (fun c => State.execute_keeps (Directive.legal_of_interrupts c.2))
    fun _ => s.joinPending_keeps d

/-! ## The events of the drive ports (chapter 3) -/

theorem State.homeDone_keeps (s : State) (h : HeadNo) : s.Keeps (s.homeDone h) :=
  .ite (fun _ => (((s.home_keeps h).trans (State.armingTest_keeps _)).trans (State.holdTest_keeps _)).trans
    (State.round_keeps _)) fun _ => .refl s

theorem State.travelDone_keeps (s : State) (h : HeadNo) : s.Keeps (s.travelDone h) := by
  unfold State.travelDone
  split
  next travel =>
    split
    · exact .refl s
    next t target => exact State.arriveAt_keeps travel target
  · exact .refl s

theorem State.clampDone_keeps (s : State) (h : HeadNo) : s.Keeps (s.clampDone h) :=
  .ite (fun _ => s.askDrill_keeps h) fun _ => .refl s

theorem State.retracted_keeps (s : State) (h : HeadNo) : s.Keeps (s.retracted h) :=
  .ite (fun _ => (s.retractDone_keeps h).trans (State.holdTest_keeps _)) fun _ => .refl s

theorem State.releaseDone_keeps (s : State) (h : HeadNo) : s.Keeps (s.releaseDone h) :=
  .ite (fun _ => ((((s.release_keeps h).trans (State.passGone_keeps _ _)).trans (State.drainTest_keeps _)).trans
    (State.holdTest_keeps _)).trans (State.round_keeps _)) fun _ => .refl s

theorem State.faultEvent_keeps (s : State) (h : HeadNo) (cause : FaultCause) : s.Keeps (s.faultEvent h cause) := by
  have faulted := s.faultHead_keeps h cause
  have armed : s.Keeps (if s.mode = .arming ∧ (s.head h).state = .homing then (s.faultHead h cause).failArm
      else s.faultHead h cause) := .ite (fun _ => faulted.trans (State.failArm_keeps _)) fun _ => faulted
  exact (armed.trans (State.holdTest_keeps _)).trans (State.settleJoint_keeps _ _)

theorem State.driveFault_keeps (s : State) (h : HeadNo) (code : Byte) : s.Keeps (s.driveFault h code) :=
  .ite (fun _ => s.faultEvent_keeps h _) fun _ => .ite (fun _ => s.post_keeps _ _) fun _ => .refl s

theorem State.phaseTimeout_keeps (s : State) (h : HeadNo) : s.Keeps (s.phaseTimeout h) :=
  .ite (fun _ => s.faultEvent_keeps h _) fun _ => .refl s

end Sys2Proof.Machine
end

section
/-! The rules that every step keeps, eighth part: the requests (section 9.7). -/

namespace Sys2Proof.Machine
set_option Elab.async false

/-! ## Requests of every kind (R180) -/

/-- A request that fails its mode or length check changes nothing. -/
theorem checked_keeps {modeOk : Bool} {n : Nat} {s : State} {p : List Byte} {rest : Answer}
    (h : modeOk = true → s.Keeps rest.state) : s.Keeps (checked modeOk n s p rest).state := by
  unfold checked
  split
  next ok =>
    split
    · exact h ok
    · exact .refl s
  next => exact .refl s

theorem withHead_keeps {s : State} {p : List Byte} {f : HeadNo → Answer} (h : ∀ g, s.Keeps (f g).state) :
    s.Keeps (withHead s p f).state := by
  unfold withHead
  split
  · exact .refl s
  · exact h _

/-! ## The joint table (R9 to R17) -/

/-- A load record that is taken has an id other than 0 (R10). -/
theorem loadRecord_id {r : List Byte} {d : JointIdentity} (h : loadRecord r = some d) : d.id ≠ 0 := by
  simp only [loadRecord, Option.bind_eq_bind, Option.bind_eq_some_iff] at h
  obtain ⟨_, -, _, -, _, -, _, -, _, -, _, -, _, -, h⟩ := h
  split at h
  next c =>
    rw [Option.some_inj] at h
    subst h
    exact c.1
  next => cases h

/-- A batch that is taken has ids that neither it nor the table carries twice, none of them 0 (R9, R10). -/
theorem readBatch_ids {ids : List Nat} {k : Nat} {rs : List (List Byte)} {ds : List JointIdentity}
    (h : readBatch ids k rs = .ok ds) :
    (ds.map (·.id)).Nodup ∧ (∀ d ∈ ds, d.id ∉ ids) ∧ ∀ d ∈ ds, d.id ≠ 0 := by
  induction rs generalizing ids k ds with
  | nil =>
    cases h
    simp
  | cons r rs ih =>
    simp only [readBatch] at h
    split at h
    next => cases h
    next d load =>
      split at h
      next => cases h
      next fresh =>
        split at h
        next => cases h
        next es rest =>
          cases h
          obtain ⟨distinct, new, nonzero⟩ := ih rest
          simp only [List.map_cons, List.nodup_cons, List.mem_map, List.mem_cons, forall_eq_or_imp]
          refine ⟨⟨fun ⟨e, mem, same⟩ => new e mem (by simp [same]), distinct⟩,
            ⟨fresh, fun e mem inIds => new e mem (List.mem_cons_of_mem _ inIds)⟩, loadRecord_id load, nonzero⟩

/-- The table is replaced by one within its bounds, whose corrected positions stood in the old one. -/
theorem State.setJoints_keeps {s : State} {js : List Joint}
    (bounds : s.TableRule → js.length ≤ 1024 ∧ (js.map (·.identity.id)).Nodup ∧ ∀ j ∈ js, j.identity.id ≠ 0 ∧ j.reworks ≤ 3)
    (positions : ∀ k ∈ js, k.corrected = none ∨ ∃ j ∈ s.table.joints, j.corrected = k.corrected) :
    s.Keeps (s.setJoints js) := by
  refine State.recompute_keeps (t := { s with table := { s.table with joints := js } }) (fun r other holds => ?_) _
  cases r
  case pass => exact absurd List.mem_cons_self other
  case table => exact bounds holds
  case rail => exact State.RailRule.withTable holds positions
  all_goals exact holds

theorem State.jointLoad_keeps (s : State) (p : List Byte) : s.Keeps (s.jointLoad p).state := by
  unfold State.jointLoad
  split
  · exact .refl s
  split
  · exact .refl s
  split
  · exact .refl s
  next ds batch =>
    split
    · exact .refl s
    next fits =>
      obtain ⟨distinct, new, nonzero⟩ := readBatch_ids batch
      have ids : (ds.map JointIdentity.loaded).map (·.identity.id) = ds.map (·.id) := by
        simp [Function.comp_def, JointIdentity.loaded]
      refine State.setJoints_keeps (fun rule => ?_) fun k mem => ?_
      · obtain ⟨-, oldDistinct, each⟩ := rule
        refine ⟨by simpa [Config.maxJoints] using fits, ?_, fun j mem => ?_⟩
        · rw [List.map_append, ids]
          refine List.nodup_append.2 ⟨oldDistinct, distinct, fun a ha b hb e => ?_⟩
          obtain ⟨d, hd, rfl⟩ := List.mem_map.1 hb
          exact new d hd (e ▸ ha)
        · rcases List.mem_append.1 mem with old | loaded
          · exact each j old
          · obtain ⟨d, hd, rfl⟩ := List.mem_map.1 loaded
            exact ⟨nonzero d hd, Nat.zero_le 3⟩
      · rcases List.mem_append.1 mem with old | loaded
        · exact .inr ⟨k, old, rfl⟩
        · obtain ⟨d, -, rfl⟩ := List.mem_map.1 loaded
          exact .inl rfl

theorem State.jointClear_keeps (s : State) (p : List Byte) : s.Keeps (s.jointClear p).state :=
  checked_keeps fun _ => State.setJoints_keeps (by simp) (by simp)

theorem State.jointSkip_keeps (s : State) (p : List Byte) : s.Keeps (s.jointSkip p).state := by
  refine checked_keeps fun _ => ?_
  split
  · exact .refl s
  · split
    · exact (s.changeJoint_keeps _).trans (State.settleJoint_keeps _ _)
    · exact .refl s

/-- A reworked joint has been reworked less than three times before, and its corrected position lies on the rail, absent
in SETUP (R15, R16). -/
theorem State.rework_keeps {s : State} {i : Nat} {j : Joint} {c : Option Nat} (hj : s.joint? i = some j)
    (few : j.reworks < 3) (position : s.reworkPosition j = some c) : s.Keeps (s.changeJoint i (Joint.rework c)) := by
  have record : j ∈ s.table.joints := List.mem_of_getElem? hj
  have reworked : s.KeepsBut [.pass] (s.modJoint i (Joint.rework c)) := by
    rw [State.modJoint_eq_setJoint hj]
    intro r other holds
    cases r
    case pass => exact absurd List.mem_cons_self other
    case table =>
      obtain ⟨bound, distinct, each⟩ := holds
      refine ⟨by simpa [State.setJoint] using bound, ?_, fun k mem => ?_⟩
      · have same : (s.setJoint i (Joint.rework c j)).table.joints.map (·.identity.id) =
            s.table.joints.map (·.identity.id) := by
          rw [← State.modJoint_eq_setJoint (f := Joint.rework c) hj]
          exact map_modify_of_eq (f := Joint.rework c) (g := fun j => j.identity.id) (fun _ => rfl) _ _
        rwa [same]
      · rcases List.mem_or_eq_of_mem_set mem with old | rfl
        · exact each k old
        · exact ⟨(each j record).1, few⟩
    case rail =>
      have corrected : c = j.corrected ∨ s.mode = .armed ∧ ∀ t ∈ c, t ≤ s.station.railLength := by
        unfold State.reworkPosition at position
        split at position
        next armed =>
          obtain ⟨t, ht, rfl⟩ := Option.map_eq_some_iff.1 position
          exact .inr ⟨armed.1, by simpa using correctedOf_le ht⟩
        next => exact .inl (Option.some_inj.1 position).symm
      refine ⟨fun setup k mem => ?_, fun accepted => ?_⟩
      · rcases List.mem_or_eq_of_mem_set mem with old | rfl
        · exact holds.1 setup k old
        · rcases corrected with same | ⟨armed, -⟩
          · exact same.trans (holds.1 setup j record)
          · exact absurd (setup.symm.trans armed) (by decide)
      · obtain ⟨railA, railB, onRail, positions, joints, travel⟩ := holds.2 accepted
        refine ⟨railA, railB, onRail, positions, fun k mem t ht => ?_, travel⟩
        rcases List.mem_or_eq_of_mem_set mem with old | rfl
        · exact joints k old t ht
        · rcases corrected with same | ⟨-, bound⟩
          · exact joints j record t (same ▸ ht)
          · exact bound t ht
    all_goals exact holds
  exact State.recompute_keeps reworked _

theorem State.jointRework_keeps (s : State) (p : List Byte) : s.Keeps (s.jointRework p).state := by
  refine checked_keeps fun _ => ?_
  split
  · exact .refl s
  next j hj =>
    split
    · exact .refl s
    · split
      · exact .refl s
      next few =>
        split
        · exact .refl s
        next c position => exact State.rework_keeps hj (by simpa [Config.maxReworks] using few) position

theorem State.setDatum_keeps (s : State) (z : Zone) (x : Int) : s.Keeps (s.setDatum z x) :=
  fun r _ => by cases r <;> exact id

theorem State.datumSet_keeps (s : State) (p : List Byte) : s.Keeps (s.datumSet p).state := by
  refine checked_keeps fun _ => ?_
  split
  · exact .refl s
  · split
    · exact s.setDatum_keeps _ _
    · exact .refl s

/-! ## The station (R38, R67, R184) -/

/-- A change of one head after another, along a list without repeats, changes each of them once. -/
theorem State.foldl_head {f : State → HeadNo → State} {φ : HeadNo → Head → Head}
    (each : ∀ (t : State) h g, (f t h).head g = if h = g then φ h (t.head h) else t.head g) {l : List HeadNo}
    (distinct : l.Nodup) (s : State) (g : HeadNo) :
    (l.foldl f s).head g = if g ∈ l then φ g (s.head g) else s.head g := by
  induction l generalizing s with
  | nil => simp
  | cons h l ih =>
    obtain ⟨out, distinct⟩ := List.nodup_cons.1 distinct
    rw [List.foldl_cons, ih distinct, each]
    by_cases e : h = g
    · subst e
      simp [out]
    · simp [e, Ne.symm e]

theorem headNos_nodup : headNos.Nodup := by decide

@[simp] theorem mem_headNos (h : HeadNo) : h ∈ headNos := by
  revert h
  decide

theorem State.park_head (s : State) (h g : HeadNo) :
    (s.park h).head g = if h = g then (s.head h).inPark else s.head g := by
  unfold State.park State.stopHoming
  rw [State.head_modHead]
  by_cases e : h = g
  · subst e
    rw [if_pos rfl, if_pos rfl]
    split
    · rw [State.head_sendDrive, if_pos rfl]
      rfl
    · rfl
  · rw [if_neg e, if_neg e]
    split
    · rw [State.head_sendDrive, if_neg e]
    · rfl

/-- Every head in one of some states is PARKED (R67). -/
theorem State.parkWhere_head (s : State) (which : HeadState → Bool) (g : HeadNo) :
    (s.parkWhere which).head g = if which (s.head g).state then (s.head g).inPark else s.head g := by
  have each (t : State) (h g : HeadNo) : (if which (t.head h).state then t.park h else t).head g =
      if h = g then (if which (t.head h).state then (t.head h).inPark else t.head h) else t.head g := by
    split
    next parked => rw [State.park_head]
    next kept =>
      split
      next e => rw [e]
      next => rfl
  have all := State.foldl_head (φ := fun _ x => if which x.state then x.inPark else x) each headNos_nodup s g
  rw [State.parkWhere, all, if_pos (mem_headNos g)]

/-- The rail rule with no claim, no position, no corrected position and no head travelling. -/
theorem State.RailRule.of_cleared {s : State} (positions : ∀ j ∈ s.table.joints, j.corrected = none)
    (claims : ∀ h, s.claim h = none) (heads : ∀ h, (s.head h).position = none ∧ (s.head h).state ≠ .travel)
    (clearance : s.station.clearance ≤ s.station.railLength) : s.RailRule := by
  refine ⟨fun _ => positions, fun _ => ⟨?_, ?_, fun h c hc => ?_, fun h p hp => ?_, fun j mem t ht => ?_, fun h travel => ?_⟩⟩
  · simpa [State.RailCompatible, State.claimHi, State.claimLo, State.homePoint, claims, isLower] using clearance
  · simpa [State.RailCompatible, State.claimHi, State.claimLo, State.homePoint, claims, isLower] using clearance
  · simp [claims] at hc
  · simp [heads] at hp
  · simp [positions j mem] at ht
  · exact absurd travel (heads h).2

/-- The settings accepted, every claim and position dropped and every head in service PARKED (R30, R67, R184). -/
theorem State.takeStation_keeps {s : State} {t : StationSettings} (setup : s.mode = .setup) (valid : t.valid = true) :
    s.Keeps (((s.takeSettings t).dropClaims.parkWhere HeadState.online).dropPositions) := by
  have settled : s.KeepsBut [.rail] (s.takeSettings t).dropClaims := by
    intro r other holds
    cases r
    case rail => exact absurd List.mem_cons_self other
    all_goals exact holds
  have parked := (s.takeSettings t).dropClaims.parkWhere_head HeadState.online
  have frame := (s.takeSettings t).dropClaims.parkWhere_frame HeadState.online
  have keeps := settled.andThen (State.parkWhere_keeps _ HeadState.online)
  generalize (s.takeSettings t).dropClaims.parkWhere HeadState.online = u at parked frame keeps
  obtain ⟨table, dispatcher, -, -, -, -, -, link, -⟩ := frame
  refine (keeps.trans (State.withHeads_keepsBut u (u.heads.map fun x => { x with position := none }))).restore_of fun rule => ?_
  have station : u.station = t := by rw [State.station, link]; rfl
  have clearance : t.clearance ≤ t.railLength := by
    simp only [StationSettings.valid, Bool.and_eq_true, decide_eq_true_eq] at valid
    tauto
  refine State.RailRule.of_cleared ?_ (fun h => ?_) (fun h => ?_) ?_
  · show ∀ j ∈ u.table.joints, _
    rw [table]
    exact rule.1 setup
  · show u.dispatcher.claims[h] = none
    rw [dispatcher]
    simp [State.dropClaims]
  · have head : State.head { u with heads := u.heads.map fun x => { x with position := none } } h =
        { u.head h with position := none } := by simp [State.head]
    rw [head]
    refine ⟨rfl, ?_⟩
    show (u.head h).state ≠ .travel
    rw [parked]
    split
    next => simp [Head.inPark]
    next off => exact fun travel => off (by rw [travel]; rfl)
  · show u.station.clearance ≤ u.station.railLength
    rw [station]
    exact clearance

theorem State.stationSet_keeps (s : State) (p : List Byte) : s.Keeps (s.stationSet p).state := by
  refine checked_keeps fun mode => ?_
  split
  next valid => exact State.takeStation_keeps (by simpa using mode) valid
  next => exact .refl s

theorem State.setFlags_keeps (s : State) (f : Vector Bool 4) : s.Keeps (s.setFlags f) := fun r _ => by cases r <;> exact id

theorem State.permissiveSet_keeps (s : State) (p : List Byte) : s.Keeps (s.permissiveSet p).state := by
  refine checked_keeps fun _ => ?_
  split
  · exact .ite (fun _ => .refl s) fun _ => (s.setFlags_keeps _).trans (State.round_keeps _)
  · exact .refl s

theorem State.markRestart_keeps (s : State) : s.Keeps s.markRestart := State.withControl_keeps rfl rfl

theorem State.restart_keeps (s : State) (p : List Byte) : s.Keeps (s.restart p).state := by
  refine checked_keeps fun _ => ?_
  split
  · exact .refl s
  · exact s.markRestart_keeps

/-! ## Heads (R49, R64, R65) -/

theorem State.bringBack_keeps (s : State) (h : HeadNo) : s.Keeps (s.bringBack h) :=
  .ite (fun _ => ((s.park_keeps h).trans (State.enterHoming_keeps _ h)).trans (State.round_keeps _)) fun _ =>
    s.park_keeps h

theorem State.bringBackFrom_keeps (s : State) (p : List Byte) (from' : HeadState) :
    s.Keeps (s.bringBackFrom p from').state := by
  refine checked_keeps fun _ => withHead_keeps fun h => ?_
  split
  · exact s.bringBack_keeps h
  · exact .refl s

theorem State.headDisable_keeps (s : State) (p : List Byte) : s.Keeps (s.headDisable p).state := by
  refine checked_keeps fun _ => withHead_keeps fun h => ?_
  split
  · exact (s.takeOffline_keeps h).trans (State.holdTest_keeps _)
  · exact .refl s

theorem Head.setProfile_staysOnRail (x : Head) (q : PeckProfile) : x.StaysOnRail (x.setProfile q) := by
  unfold Head.setProfile
  split <;> exact .of_same rfl rfl rfl

theorem State.peckSet_keeps (s : State) (p : List Byte) : s.Keeps (s.peckSet p).state := by
  refine checked_keeps fun _ => withHead_keeps fun h => ?_
  split
  · exact .refl s
  · exact State.modHead_keeps fun x => x.setProfile_staysOnRail _

/-! ## The signature unit (R95, R96) -/

theorem byteAt_lt (p : List Byte) (i : Nat) : byteAt p i < 256 := BitVec.isLt _

theorem u16At_lt (p : List Byte) (i : Nat) : u16At p i < 65536 := by
  have := byteAt_lt p i
  have := byteAt_lt p (i + 1)
  unfold u16At
  omega

theorem s16At_inSixteen (p : List Byte) (i : Nat) : InSixteen (s16At p i) := by
  have := u16At_lt p i
  unfold s16At signed16 InSixteen
  split <;> omega

/-- Filter settings are read within their ranges where their tap count and the rest are in range. -/
theorem filterOf_inRange {n : Nat} {p : List Byte} (taps : within 1 16 n = true) (valid : (filterOf n p).valid = true) :
    (filterOf n p).InRange := by
  simp only [within, Bool.and_eq_true, decide_eq_true_eq] at taps
  refine ⟨valid, by simpa [filterOf] using taps.1, by simpa [filterOf] using taps.2, fun c mem => ?_⟩
  obtain ⟨k, -, rfl⟩ := List.mem_map.1 mem
  exact s16At_inSixteen p _

theorem State.setFilter_keeps {f : FilterSettings} (range : f.InRange) (s : State) : s.Keeps (s.setFilter f) := by
  intro r _ holds
  cases r
  case channel => exact ⟨range, holds.2⟩
  case depth => exact ⟨⟨range, holds.1.2⟩, holds.2⟩
  all_goals exact holds

theorem State.filterSet_keeps (s : State) (p : List Byte) : s.Keeps (s.filterSet p).state := by
  unfold State.filterSet
  split
  · exact .refl s
  split
  · exact .refl s
  split
  · exact .refl s
  next taps =>
    split
    · exact .refl s
    split
    next valid => exact State.setFilter_keeps (filterOf_inRange (by simpa using taps) valid) s
    next => exact .refl s

theorem State.channelRead_keeps (s : State) (p : List Byte) : s.Keeps (s.channelRead p).state := by
  refine checked_keeps fun _ => ?_
  split <;> exact .refl s

/-! ## Rivets and the heater (R100 to R102) -/

/-- A rivet table or class is written where the codes are still defined, or need not be (R100, R101). -/
theorem State.withHeater_keeps {s : State} {heater : Heater} (codes : s.ClassRule → State.ClassRule { s with heater })
    (magazines : s.HeaterRule → State.HeaterRule { s with heater }) : s.Keeps { s with heater } := by
  intro r _ holds
  cases r
  case classes => exact codes holds
  case heater => exact magazines holds
  all_goals exact holds

theorem State.takeEntries_keeps {s : State} (mode : s.mode = .setup ∨ s.mode = .armed) (es : List RivetEntry) :
    s.Keeps (s.takeEntries es).state := by
  unfold State.takeEntries
  split
  · exact .refl s
  next defined =>
    refine State.withHeater_keeps (fun _ => mode.elim .inl fun armed => .inr (.inr fun e mem => ?_)) id
    rw [if_pos armed] at defined
    have some : (s.heater.classes[e.code.val]).isSome = true := by
      simpa using List.findIdx?_eq_none_iff.1 defined e mem
    exact Option.isSome_iff_ne_none.1 some

theorem State.rivetTableSet_keeps (s : State) (p : List Byte) : s.Keeps (s.rivetTableSet p).state := by
  unfold State.rivetTableSet
  split
  · exact .refl s
  next mode =>
    split
    · exact .refl s
    split
    · exact .refl s
    · refine State.takeEntries_keeps ?_ _
      rw [not_and_or, not_not, not_not] at mode
      exact mode

theorem State.defineClass_keeps {s : State} (mode : s.mode = .setup ∨ s.mode = .armed) (c : RivetCode) (p : List Byte) :
    s.Keeps (s.defineClass c p).state := by
  unfold State.defineClass
  split
  · split
    · exact .refl s
    next armed => exact State.withHeater_keeps (fun _ => .inl (mode.resolve_right armed)) id
  · split
    · split
      · refine State.withHeater_keeps (fun codes => codes.imp id (.imp id fun defined e mem => ?_)) id
        simp only [Fin.getElem_fin, Vector.getElem_set]
        split
        · simp
        · exact defined e mem
      · exact .refl s
    · exact .refl s

theorem State.rivetClassSet_keeps (s : State) (p : List Byte) : s.Keeps (s.rivetClassSet p).state := by
  refine checked_keeps fun mode => ?_
  split
  · exact .refl s
  · exact State.defineClass_keeps (by simpa using mode) _ p

theorem State.setMagazine_keeps {n : Nat} (bound : n ≤ 9999) (s : State) (c : RivetCode) : s.Keeps (s.setMagazine c n) := by
  refine State.withHeater_keeps id fun ⟨counts, ordered⟩ => ⟨fun d => ?_, ordered⟩
  have := counts d
  simp only [Fin.getElem_fin, Vector.getElem_set] at *
  split <;> assumption

theorem State.magazineSet_keeps (s : State) (p : List Byte) : s.Keeps (s.magazineSet p).state := by
  refine checked_keeps fun _ => ?_
  split
  · exact .refl s
  · exact (State.setMagazine_keeps (Nat.min_le_left _ _) s _).trans (State.serve_keeps _)

/-! ## Events (R169, R170) -/

theorem State.eventConfig_keeps (s : State) (p : List Byte) : s.Keeps (s.eventConfig p).state := by
  refine checked_keeps fun _ => ?_
  split
  · split
    · exact s.configureKind_keeps _ _ _
    · exact .refl s
  · exact .refl s
  · exact .refl s

theorem State.eventAck_keeps (s : State) (p : List Byte) : s.Keeps (s.eventAck p).state := by
  refine checked_keeps fun _ => ?_
  generalize u16At p 0 = mask
  rw [apply_ite Answer.state]
  refine .ite (fun _ => ?_) fun _ => .refl s
  simp only [done]
  exact s.acknowledge_keeps (kindsOf mask)

/-! ## All requests -/

/-- Executing a request keeps the rules. -/
theorem State.answer_keeps (s : State) (p : List Byte) (k : RequestKind) : s.Keeps (s.answer p k).state := by
  cases k with
  | jointLoad => exact s.jointLoad_keeps p
  | jointClear => exact s.jointClear_keeps p
  | jointRead => refine checked_keeps fun _ => ?_; split <;> exact .refl s
  | jointFind => refine checked_keeps fun _ => ?_; split <;> exact .refl s
  | jointSkip => exact s.jointSkip_keeps p
  | jointRework => exact s.jointRework_keeps p
  | datumSet => exact s.datumSet_keeps p
  | stationSet => exact s.stationSet_keeps p
  | permissiveSet => exact s.permissiveSet_keeps p
  | restart => exact s.restart_keeps p
  | headRead => exact checked_keeps fun _ => withHead_keeps fun _ => .refl s
  | headEnable | headReset => exact s.bringBackFrom_keeps p _
  | headDisable => exact s.headDisable_keeps p
  | peckSet => exact s.peckSet_keeps p
  | filterSet => exact s.filterSet_keeps p
  | channelRead => exact s.channelRead_keeps p
  | rivetTableSet => exact s.rivetTableSet_keeps p
  | rivetClassSet => exact s.rivetClassSet_keeps p
  | magazineSet => exact s.magazineSet_keeps p
  | eventConfig => exact s.eventConfig_keeps p
  | eventAck => exact s.eventAck_keeps p
  | datumRead | stationRead | statusRead | filterRead | heaterRead | eventRead =>
    exact checked_keeps fun _ => .refl s

end Sys2Proof.Machine
end

section
/-! The rules that every step keeps (O53 to O59), last part: the link, the resets, what ends an event, and the commands. -/

namespace Sys2Proof.Machine
set_option Elab.async false

/-! ## Sorting (R177) -/

theorem State.replyNow_keeps (s : State) (f : Frame) (st : Status) (c : List Byte) : s.Keeps (s.replyNow f st c) :=
  State.withLink_keeps rfl

theorem State.overrun_keeps (s : State) : s.Keeps s.overrun := State.withLink_keeps rfl

theorem State.sortDirective_keeps (s : State) (f : Frame) (d : Directive) : s.Keeps (s.sortDirective f d) :=
  .ite (fun _ => s.overrun_keeps) fun _ => .ite (fun _ => s.replyNow_keeps f _ _) fun _ =>
    (s.arrive_keeps d).trans (State.replyNow_keeps _ f _ _)

theorem State.sortRequest_keeps (s : State) (f : Frame) : s.Keeps (s.sortRequest f) :=
  .ite (fun _ => State.withLink_keeps rfl) fun _ => .ite (fun _ => s.replyNow_keeps f _ _) fun _ => s.overrun_keeps

theorem State.flush_keeps (s : State) (selector : Nat) : s.Keeps (s.flush selector) := by
  have dropped : s.Keeps (if selector.testBit 0 then s.dropRequests else s) :=
    .ite (fun _ => State.withLink_keeps rfl) fun _ => .refl s
  simp only [State.flush]
  exact .ite (fun _ => dropped.trans (State.flushReports_keeps _)) fun _ => dropped

theorem State.sortFlush_keeps (s : State) (f : Frame) : s.Keeps (s.sortFlush f) :=
  .ite (fun _ => s.overrun_keeps) fun _ => .ite (fun _ => s.replyNow_keeps f _ _) fun _ =>
    .ite (fun _ => s.replyNow_keeps f _ _) fun _ => (s.flush_keeps _).trans (State.replyNow_keeps _ f _ _)

theorem State.sortUnknown_keeps (s : State) (f : Frame) : s.Keeps (s.sortUnknown f) :=
  .ite (fun _ => s.replyNow_keeps f _ _) fun _ => s.overrun_keeps

theorem State.sortFrame_keeps (s : State) (f : Frame) : s.Keeps (s.sortFrame f) := by
  unfold State.sortFrame
  split
  next d _ => exact s.sortDirective_keeps f d
  next =>
    exact .ite (fun _ => s.sortFlush_keeps f) fun _ => .ite (fun _ => s.sortRequest_keeps f) fun _ => s.sortUnknown_keeps f

/-! ## What ends an event (R180, R181) -/

theorem Answer.fillSlot_keeps (a : Answer) (f : Frame) : a.state.Keeps (a.fillSlot f) := State.withLink_keeps rfl

theorem State.executeRequest_keeps (s : State) (f : Frame) : s.Keeps (s.executeRequest f) := by
  unfold State.executeRequest
  split
  next k _ =>
    exact ((s.answer_keeps f.payload k).trans (Answer.fillSlot_keeps _ f)).trans (State.controllerTurn_keeps _)
  next => exact Answer.fillSlot_keeps (refuse s .unknownKind) f

theorem State.executorTurn_keeps (s : State) : s.Keeps s.executorTurn := by
  unfold State.executorTurn
  split
  next f rest _ _ _ =>
    have taken : s.Keeps { s with link := { s.link with requests := rest } } := State.withLink_keeps rfl
    exact taken.trans (State.executeRequest_keeps _ f)
  all_goals exact .refl s

theorem State.startFrame_keeps (s : State) (f : Frame) : s.Keeps (s.startFrame f) := State.withLink_keeps rfl

theorem State.transmitTurn_keeps (s : State) : s.Keeps s.transmitTurn := by
  refine .ite (fun _ => ?_) fun _ => .refl s
  unfold State.chooseFrame
  split
  · exact State.withLink_keeps rfl
  · exact State.withLink_keeps rfl
  · split
    · exact (s.sendRecord_fill_keeps _).trans (State.startFrame_keeps _ _)
    · exact .refl s

theorem State.settle_keeps (s : State) : s.Keeps s.settle :=
  (s.controllerTurn_keeps).trans ((State.executorTurn_keeps _).trans
    ((State.transmitTurn_keeps _).trans (State.executorTurn_keeps _)))

/-- An event keeps what its own effect keeps. -/
theorem State.event_keeps {but : List Rule} {s : State} {f : State → State} (h : s.KeepsBut but (f s)) :
    s.KeepsBut but (s.event f) := h.andThen (State.settle_keeps _)

/-! ## The resets (R173, R187, R188) -/

/-- With every latch CLEAR and nothing queued the report rule holds. -/
theorem State.ReportRule.of_clear {s : State} (queue : s.reports.queue = []) (clear : ∀ k, (s.latch k).held = none) :
    s.ReportRule := by
  refine ⟨by simp [queue], by simp [queue], fun k => by simp [queue, clear], .inr fun k => ?_⟩
  simp [State.waitsForRoom, clear]

/-- A part at cold start meets every rule. -/
theorem State.cold_holds (rate : LineRate) (r : Rule) : r.Holds (State.cold rate) := by
  have channels (c : ChannelNo) : (State.cold rate).channel c = Channel.cold := by
    simp [State.channel, State.cold, Signature.cold]
  have filter : (State.cold rate).signature.filter.InRange := by
    simp only [State.cold, Signature.cold, FilterSettings.InRange]
    decide
  have empty : (State.cold rate).table.joints = [] := rfl
  have figures : (State.cold rate).ChannelRule := ⟨filter, fun c => channels c ▸ Channel.inRange_cold⟩
  cases r
  case report => exact .of_clear rfl fun k => by cases k <;> rfl
  case pass => rfl
  case table => simp [Rule.Holds, State.TableRule, empty]
  case progress => rfl
  case permits => exact .inl rfl
  case drills => exact .inl rfl
  case classes => exact .inl rfl
  case heater =>
    refine ⟨fun c => ?_, List.Pairwise.nil⟩
    simp [State.cold, Heater.cold]
  case channel => exact figures
  case depth => exact ⟨figures, fun c => channels c ▸ Channel.reaches_cold⟩
  case rail => exact ⟨fun _ j mem => by simp [empty] at mem, fun accepted => absurd rfl accepted⟩

theorem coldState_holds (pin1 pin2 : Bool) (r : Rule) : r.Holds (coldState pin1 pin2) :=
  State.post_keeps _ _ _ r List.not_mem_nil (State.cold_holds _ r)

theorem State.reset_eq_coldState : State.reset = coldState false false := rfl

theorem State.warmHeads_keeps (s : State) : s.Keeps s.warmHeads := by
  refine (s.parkWhere_keeps HeadState.restarted).trans (State.withHeads_keeps fun h => ?_)
  simp only [Fin.getElem_fin, Vector.getElem_map]
  exact ⟨rfl, fun m _ target => by simp [Head.warm] at target⟩

theorem Joint.warm_fixed (j : Joint) :
    j.warm.identity = j.identity ∧ j.warm.reworks = j.reworks ∧ j.warm.corrected = none := by
  have := j.unlock_fixed
  simp only [Joint.fixed, Prod.mk.injEq] at this
  exact ⟨this.1, this.2.1, rfl⟩

/-- The warm restart's blocks are each as their rule asks, whatever stood before, but for the records that are kept. -/
theorem State.warmBlocks_keeps (s : State) : s.Keeps s.warmBlocks := by
  intro r _ holds
  cases r
  case report => exact .of_clear rfl fun k => by simp [State.latch, State.warmBlocks, Reports.warm]
  case pass => rfl
  case table =>
    obtain ⟨bound, distinct, each⟩ := holds
    have ids : s.warmBlocks.table.joints.map (·.identity.id) = s.table.joints.map (·.identity.id) := by
      simp only [State.warmBlocks, List.map_map]
      exact List.map_congr_left fun j _ => by simp [(Joint.warm_fixed j).1]
    refine ⟨by simpa [State.warmBlocks] using bound, ids ▸ distinct, fun k mem => ?_⟩
    obtain ⟨j, old, rfl⟩ := List.mem_map.1 mem
    obtain ⟨identity, reworks, -⟩ := Joint.warm_fixed j
    rw [identity, reworks]
    exact each j old
  case progress => rfl
  case permits => exact .inl rfl
  case drills => exact holds
  case classes => exact .inl rfl
  case heater => exact ⟨holds.1, List.Pairwise.nil⟩
  case channel => exact holds
  case depth => exact holds
  case rail =>
    refine State.RailRule.withoutPositions holds (fun k mem => ?_) rfl rfl rfl
    obtain ⟨j, -, rfl⟩ := List.mem_map.1 mem
    exact (Joint.warm_fixed j).2.2

theorem State.warmRestart_keeps (s : State) : s.Keeps s.warmRestart :=
  (s.warmHeads_keeps.trans (State.warmBlocks_keeps _)).trans (State.post_keeps _ _ _)

/-! ## The line (R175, R181) -/

theorem State.transmitDone_keeps (s : State) : s.Keeps s.transmitDone := by
  unfold State.transmitDone
  split
  · exact s.settle_keeps
  · refine .ite (fun _ => s.warmRestart_keeps) fun _ => ?_
    have idle : s.Keeps { s with link := { s.link with sending := none } } := State.withLink_keeps rfl
    exact idle.trans (State.settle_keeps _)

theorem Link.take_frame (l : Link) (b : Byte) :
    (l.take b).1 = { l with assembler := (l.take b).1.assembler, frameErrors := (l.take b).1.frameErrors } := by
  unfold Link.take Link.verify
  (repeat' split) <;> rfl

theorem Link.abandon_frame (l : Link) :
    l.abandon = { l with assembler := l.abandon.assembler, frameErrors := l.abandon.frameErrors } := by
  unfold Link.abandon
  split <;> rfl

/-- Bytes move the assembler and the count of frame errors alone (R175, R176). -/
theorem Link.byte_frame (l : Link) (b : Byte) (stopBit : Bool) :
    (l.byte b stopBit).1 =
      { l with assembler := (l.byte b stopBit).1.assembler, frameErrors := (l.byte b stopBit).1.frameErrors } := by
  unfold Link.byte
  split
  · exact l.take_frame b
  · exact l.abandon_frame

theorem State.withByte_keeps (s : State) (b : Byte) (stopBit : Bool) :
    s.Keeps { s with link := (s.link.byte b stopBit).1 } :=
  State.withLink_keeps (by rw [Link.byte_frame])

theorem State.receiveByte_keeps (s : State) (b : Byte) (stopBit : Bool) : s.Keeps (s.receiveByte b stopBit) := by
  unfold State.receiveByte
  split
  · exact s.withByte_keeps b stopBit
  next f _ => exact ((s.withByte_keeps b stopBit).trans (State.sortFrame_keeps _ f)).trans (State.settle_keeps _)

theorem State.gapExpired_keeps (s : State) : s.Keeps s.gapExpired :=
  .ite (fun _ => State.withLink_keeps (by rw [Link.abandon_frame])) fun _ => .refl s

/-! ## Time (00_scope section 4.2) -/

theorem State.advance_keeps (s : State) : s.Keeps s.advance := by
  have heads : s.Keeps { s with heads := s.heads.map Head.tick } := State.withHeads_keeps fun h => by
    simp only [State.head, Fin.getElem_fin, Vector.getElem_map]
    exact .of_same rfl rfl rfl
  have pockets := State.withPockets_keeps { s with heads := s.heads.map Head.tick } (s.heater.pockets.map Pocket.tick)
  refine heads.trans (pockets.trans ((State.withTime_keeps _ (s.time + 1)).trans ?_))
  exact State.withLink_keeps (link := s.link.to s.link.assembler.tick) rfl

theorem State.duePocket_keeps (s : State) (p : PocketNo) : s.Keeps (s.duePocket p) := by
  unfold State.duePocket
  split
  · exact State.event_keeps (s.portExpired_keeps p)
  · exact State.event_keeps (s.portExpired_keeps p)
  · exact State.event_keeps (s.heatExpired_keeps p)
  · exact State.event_keeps (s.holdExpired_keeps p)
  all_goals exact .refl s

theorem State.dueAll_keeps (s : State) : s.Keeps s.dueAll := by
  have gap : s.Keeps s.dueGap := .ite (fun _ => State.event_keeps s.gapExpired_keeps) fun _ => .refl s
  unfold State.dueAll
  refine gap.trans (.trans (.foldl pocketNos (fun s p _ => s.duePocket_keeps p) _) (.trans
    (.foldl headNos (fun s h _ => ?_) _) (.foldl headNos (fun s h _ => ?_) _)))
  · exact .ite (fun _ => State.event_keeps (s.phaseTimeout_keeps h)) fun _ => .refl s
  · exact .ite (fun _ => State.event_keeps (s.rivetWaitExpired_keeps h)) fun _ => .refl s

theorem State.tick_keeps (s : State) : s.Keeps s.tick :=
  (s.withOutgoing_keeps []).trans ((State.advance_keeps _).trans ((State.settle_keeps _).trans (State.dueAll_keeps _)))

/-! ## The commands -/

/-- The events that a command takes whole, with what ends them. -/
inductive Happening where
  | frame (f : Frame) | gap
  | homeDone (h : HeadNo) | travelDone (h : HeadNo) | clampDone (h : HeadNo)
  | drillSample (h : HeadNo) (depth thrust : Half) | peckBack (h : HeadNo) | retractDone (h : HeadNo)
  | feedDone (h : HeadNo) | setSample (h : HeadNo) (stroke force : Half) | setDone (h : HeadNo)
  | releaseDone (h : HeadNo) | driveFault (h : HeadNo) (code : Byte)
  | phaseTimeout (h : HeadNo) | rivetWaitExpiry (h : HeadNo)
  | loadDone (pocket : Byte) | ejectDone (pocket : Byte)
  | heatTimeExpiry (p : PocketNo) | holdWindowExpiry (p : PocketNo) | portTimerExpiry (p : PocketNo)

/-- What an event does before the controller and the link have their turns. -/
def Happening.effect (s : State) : Happening → State
  | .frame f => s.sortFrame f
  | .gap => s.gapExpired
  | .homeDone h => s.homeDone h
  | .travelDone h => s.travelDone h
  | .clampDone h => s.clampDone h
  | .drillSample h depth thrust => s.drillSample h depth.toNat (sampleOf thrust)
  | .peckBack h => s.peckBack h
  | .retractDone h => s.retracted h
  | .feedDone h => s.feedDone h
  | .setSample h stroke force => s.setSample h stroke.toNat (sampleOf force)
  | .setDone h => s.setDone h
  | .releaseDone h => s.releaseDone h
  | .driveFault h code => s.driveFault h code
  | .phaseTimeout h => s.phaseTimeout h
  | .rivetWaitExpiry h => s.rivetWaitExpired h
  | .loadDone pocket => s.atPocket pocket State.loadDone
  | .ejectDone pocket => s.atPocket pocket State.ejectDone
  | .heatTimeExpiry p => s.heatExpired p
  | .holdWindowExpiry p => s.holdExpired p
  | .portTimerExpiry p => s.portExpired p

/-- A sample's depth or stroke lies within the drive's reach (R71). -/
def Happening.InReach : Happening → Prop
  | .drillSample _ depth _ => Machine.InReach depth.toNat
  | .setSample _ stroke _ => Machine.InReach stroke.toNat
  | _ => True

theorem sampleDepth_inReach {d : Half} (h : sampleDepth d = true) : InReach d.toNat := by
  simp only [sampleDepth, Bool.and_eq_true, decide_eq_true_eq] at h
  exact h.2

/-- Every command is such an event, or one of the four that the line and the pins bring. -/
theorem exec_cases (i : Instr) :
    (∃ e : Happening, (i.wellFormed = true → e.InReach) ∧ ∀ s, exec i s = .next (s.command e.effect)) ∨
      (∃ pin1 pin2, i = .coldStart pin1 pin2) ∨ (∃ bytes, i = .frameReceive bytes) ∨ i = .transmitDone ∨
      ∃ b stopBit, i = .byteArrival b stopBit := by
  cases i
  case coldStart pin1 pin2 => exact .inr (.inl ⟨pin1, pin2, rfl⟩)
  case frameReceive bytes => exact .inr (.inr (.inl ⟨bytes, rfl⟩))
  case transmitDone => exact .inr (.inr (.inr (.inl rfl)))
  case byteArrival b stopBit => exact .inr (.inr (.inr (.inr ⟨b, stopBit, rfl⟩)))
  case frameGapTimeout => exact .inl ⟨.gap, fun _ => trivial, fun _ => rfl⟩
  case homeDone h => exact .inl ⟨.homeDone h, fun _ => trivial, fun _ => rfl⟩
  case travelDone h => exact .inl ⟨.travelDone h, fun _ => trivial, fun _ => rfl⟩
  case clampDone h => exact .inl ⟨.clampDone h, fun _ => trivial, fun _ => rfl⟩
  case drillSample h depth thrust => exact .inl ⟨.drillSample h depth thrust, sampleDepth_inReach, fun _ => rfl⟩
  case peckBack h => exact .inl ⟨.peckBack h, fun _ => trivial, fun _ => rfl⟩
  case retractDone h => exact .inl ⟨.retractDone h, fun _ => trivial, fun _ => rfl⟩
  case feedDone h => exact .inl ⟨.feedDone h, fun _ => trivial, fun _ => rfl⟩
  case setSample h stroke force => exact .inl ⟨.setSample h stroke force, of_decide_eq_true, fun _ => rfl⟩
  case setDone h => exact .inl ⟨.setDone h, fun _ => trivial, fun _ => rfl⟩
  case releaseDone h => exact .inl ⟨.releaseDone h, fun _ => trivial, fun _ => rfl⟩
  case driveFault h code => exact .inl ⟨.driveFault h code, fun _ => trivial, fun _ => rfl⟩
  case phaseTimeout h => exact .inl ⟨.phaseTimeout h, fun _ => trivial, fun _ => rfl⟩
  case rivetWaitExpiry h => exact .inl ⟨.rivetWaitExpiry h, fun _ => trivial, fun _ => rfl⟩
  case loadDone p => exact .inl ⟨.loadDone p, fun _ => trivial, fun _ => rfl⟩
  case ejectDone p => exact .inl ⟨.ejectDone p, fun _ => trivial, fun _ => rfl⟩
  case heatTimeExpiry p => exact .inl ⟨.heatTimeExpiry p, fun _ => trivial, fun _ => rfl⟩
  case holdWindowExpiry p => exact .inl ⟨.holdWindowExpiry p, fun _ => trivial, fun _ => rfl⟩
  case portTimerExpiry p => exact .inl ⟨.portTimerExpiry p, fun _ => trivial, fun _ => rfl⟩
  all_goals exact .inl ⟨.frame ⟨_, _, _⟩, fun _ => trivial, fun _ => rfl⟩

theorem State.atPocket_keeps {s : State} {f : State → PocketNo → State} (each : ∀ p, s.Keeps (f s p)) (pocket : Byte) :
    s.Keeps (s.atPocket pocket f) := by
  unfold State.atPocket
  split
  · exact .refl s
  · exact each _

/-- The effect of an event keeps every rule but that of depths, and that one too where its sample lies within reach. -/
theorem Happening.effect_keeps {but : List Rule} (s : State) (e : Happening) (reach : .depth ∈ but ∨ e.InReach) :
    s.KeepsBut but (e.effect s) := by
  cases e with
  | drillSample h depth thrust => exact State.drillSample_keeps reach (sampleOf_inSixteen thrust) s h
  | setSample h stroke force => exact State.setSample_keeps reach (sampleOf_inSixteen force) s h
  | frame f => exact .of_keeps (s.sortFrame_keeps f)
  | gap => exact .of_keeps s.gapExpired_keeps
  | homeDone h => exact .of_keeps (s.homeDone_keeps h)
  | travelDone h => exact .of_keeps (s.travelDone_keeps h)
  | clampDone h => exact .of_keeps (s.clampDone_keeps h)
  | peckBack h => exact .of_keeps (s.peckBack_keeps h)
  | retractDone h => exact .of_keeps (s.retracted_keeps h)
  | feedDone h => exact .of_keeps (s.feedDone_keeps h)
  | setDone h => exact .of_keeps (s.setDone_keeps h)
  | releaseDone h => exact .of_keeps (s.releaseDone_keeps h)
  | driveFault h code => exact .of_keeps (s.driveFault_keeps h code)
  | phaseTimeout h => exact .of_keeps (s.phaseTimeout_keeps h)
  | rivetWaitExpiry h => exact .of_keeps (s.rivetWaitExpired_keeps h)
  | loadDone pocket => exact .of_keeps (State.atPocket_keeps s.loadDone_keeps pocket)
  | ejectDone pocket => exact .of_keeps (State.atPocket_keeps s.ejectDone_keeps pocket)
  | heatTimeExpiry p => exact .of_keeps (s.heatExpired_keeps p)
  | holdWindowExpiry p => exact .of_keeps (s.holdExpired_keeps p)
  | portTimerExpiry p => exact .of_keeps (s.portExpired_keeps p)

/-- Executing a command keeps every rule but that of depths, and that one too where the command is well-formed. -/
theorem exec_keeps {but : List Rule} {i : Instr} {s t : State} (reach : .depth ∈ but ∨ i.wellFormed = true)
    (h : exec i s = .next t) : s.KeepsBut but t := by
  have cleared := s.withOutgoing_keeps []
  rcases exec_cases i with ⟨e, within, is⟩ | ⟨pin1, pin2, rfl⟩ | ⟨bytes, rfl⟩ | rfl | ⟨b, stopBit, rfl⟩
  · rw [is] at h
    cases h
    exact (State.KeepsBut.of_keeps cleared).trans (State.event_keeps (e.effect_keeps _ (reach.imp_right within)))
  · cases h
    exact fun r _ _ => State.withPending_keeps _ _ r List.not_mem_nil (coldState_holds pin1 pin2 r)
  · cases h
    exact .of_keeps (cleared.trans (.foldl bytes (fun s b _ => s.receiveByte_keeps b true) _))
  · cases h
    exact .of_keeps (cleared.trans (State.transmitDone_keeps _))
  · cases h
    exact .of_keeps (cleared.trans (State.receiveByte_keeps _ b stopBit))

/-- Every step keeps the rules. -/
theorem step_keeps {but : List Rule} {s t : State}
    (reach : .depth ∈ but ∨ ∀ c ∈ s.pending.head?, c.wellFormed = true) (h : step s = .next t) : s.KeepsBut but t := by
  unfold step at h
  split at h
  next c rest front =>
    exact (State.KeepsBut.of_keeps (s.withPending_keeps rest)).trans
      (exec_keeps (reach.imp_right fun each => each c (by simp [front])) h)
  next =>
    rw [← Host.Outcome.next.inj h]
    exact .of_keeps s.tick_keeps

end Sys2Proof.Machine
end

section
/-! O54, O55, O57 to O60: the obligations about the rules that every update keeps. -/

namespace Sys2Proof.Machine
set_option Elab.async false

/-! ## Rules kept by every update (O54, O57, O58, O59) -/

/-- A step keeps each rule but that of depths, whatever its command. -/
theorem step_holds {s t : State} (h : step s = .next t) {r : Rule} (other : r ≠ .depth) : r.Holds s → r.Holds t :=
  step_keeps (but := [.depth]) (.inl List.mem_cons_self) h r (by simpa using other)

/-- Settles O54: every update of the part keeps the report rule. -/
theorem reportRuleKept : Obligations.ReportRuleKept := fun _ _ rule h => step_holds h (r := .report) nofun rule

/-- Settles O57: every update of the part keeps the heater's rules. -/
theorem heaterRulesKept : Obligations.HeaterRulesKept := fun _ _ h =>
  ⟨step_holds h (r := .classes) nofun, step_holds h (r := .heater) nofun⟩

/-- Settles O58: every update keeps the channels' figures, and a sample within reach their depths. -/
theorem channelRuleKept : Obligations.ChannelRuleKept := fun _ _ rule h =>
  ⟨step_holds h (r := .channel) nofun rule,
    fun reach depths => (step_keeps (but := []) (.inr reach) h .depth List.not_mem_nil ⟨rule, depths⟩).2⟩

/-- Settles O59: every update of the part keeps the rail rule. -/
theorem railRuleKept : Obligations.RailRuleKept := fun _ _ rule h => step_holds h (r := .rail) nofun rule

/-! ## The current pass (O55) -/

theorem Joint.counts_iff {j : Joint} : j.counts = true ↔ j.Counts := by
  simp only [Joint.counts, Joint.Counts, Joint.blocks]
  cases j.state <;> simp [JointState.inWork]

/-- In an ascending list of all values, the first that passes a test is the least that does. -/
theorem find?_eq_some_iff_least {α : Type} [LinearOrder α] {l : List α} (ascending : l.Pairwise (· < ·))
    (all : ∀ a, a ∈ l) {p : α → Bool} {a : α} :
    l.find? p = some a ↔ p a = true ∧ ∀ b, p b = true → a ≤ b := by
  have least {c : α} (found : l.find? p = some c) : p c = true ∧ ∀ b, p b = true → c ≤ b := by
    obtain ⟨passes, before, after, rfl, fail⟩ := List.find?_eq_some_iff_append.1 found
    refine ⟨passes, fun b hb => ?_⟩
    rcases List.mem_append.1 (all b) with ahead | behind
    · exact absurd hb (by simpa using fail b ahead)
    · rcases List.mem_cons.1 behind with rfl | later
      · exact le_refl _
      · exact le_of_lt (List.rel_of_pairwise_cons (List.pairwise_append.1 ascending).2.1 later)
  refine ⟨least, fun ⟨passes, below⟩ => ?_⟩
  cases found : l.find? p with
  | none => exact absurd passes (List.find?_eq_none.1 found a (all a))
  | some c =>
    obtain ⟨also, first⟩ := least found
    rw [le_antisymm (first a passes) (below c also)]

theorem passNos_ascending : passNos.Pairwise (· < ·) := by decide

theorem mem_passNos (p : Pass) : p ∈ passNos := by revert p; decide

theorem currentPassOf_eq_some {js : List Joint} {p : Pass} :
    currentPassOf js = some p ↔
      (∃ j ∈ js, j.Counts ∧ j.identity.pass = p) ∧ ∀ j ∈ js, j.Counts → p ≤ j.identity.pass := by
  simp only [currentPassOf, find?_eq_some_iff_least passNos_ascending mem_passNos, List.any_eq_true,
    Bool.and_eq_true, Joint.counts_iff, beq_iff_eq]
  exact and_congr_right fun _ =>
    ⟨fun least j mem counts => least _ ⟨j, mem, counts, rfl⟩, fun least _ ⟨j, mem, counts, e⟩ => e ▸ least j mem counts⟩

theorem currentPassOf_eq_none {js : List Joint} : currentPassOf js = none ↔ ∀ j ∈ js, ¬ j.Counts := by
  simp only [currentPassOf, List.find?_eq_none, List.any_eq_true, Bool.and_eq_true, Joint.counts_iff, beq_iff_eq]
  exact ⟨fun none j mem counts => none _ (mem_passNos _) ⟨j, mem, counts, rfl⟩,
    fun none _ _ ⟨j, mem, counts, _⟩ => none j mem counts⟩

/-- Settles O55: every update keeps the pass and the table's bounds, and the current pass is a least element. -/
theorem programRulesKept : Obligations.ProgramRulesKept :=
  ⟨fun _ _ h => ⟨step_holds h (r := .pass) nofun, step_holds h (r := .table) nofun⟩,
    fun _ => ⟨fun _ => currentPassOf_eq_some, currentPassOf_eq_none⟩⟩

/-! ## The state after reset (O60) -/

/-- Settles O60: the reset state is a cold start with both pins low, and a cold start meets every rule. -/
theorem resetMeetsRules : Obligations.ResetMeetsRules := by
  have holds (r : Rule) : r.Holds State.reset := coldState_holds false false r
  have link : State.reset.LinkRule := ⟨Nat.zero_le _, Nat.zero_le _, fun _ => ⟨rfl, rfl, .inr rfl⟩, .inl rfl⟩
  exact ⟨link, holds .report, holds .pass, holds .table, ⟨holds .progress, .inr (.inr rfl)⟩,
    ⟨holds .permits, holds .drills⟩, holds .classes, holds .heater, holds .channel, (holds .depth).2, holds .rail⟩

end Sys2Proof.Machine
end

section
/-! O53 and O56: what the end of every event establishes, for the controller and for the link. -/

namespace Sys2Proof.Machine
set_option Elab.async false

/-! ## The controller's turn empties the pending set (R145) -/

/-- How many of the eight kinds are pending. -/
def State.pendingKinds (s : State) : Nat := s.control.pendingSet.toFinset.card

theorem Directive.mem_all (d : Directive) : d ∈ Directive.all := by cases d <;> decide

theorem State.pendingKinds_le (s : State) : s.pendingKinds ≤ 8 :=
  Finset.card_le_card (t := Directive.all.toFinset) fun d _ => List.mem_toFinset.2 d.mem_all

theorem State.pendingSet_eq_nil {s : State} (none : s.nextDirective = none) : s.control.pendingSet = [] :=
  List.eq_nil_iff_forall_not_mem.2 fun d mem => by
    have := List.find?_eq_none.1 none d d.mem_all
    simp [mem] at this

/-- What a taken directive leaves pending waited before, and is another one. -/
theorem State.mem_pendingSet_takeDirective {s : State} {d e : Directive}
    (mem : e ∈ (s.takeDirective d).control.pendingSet) : e ∈ s.control.pendingSet ∧ e ≠ d := by
  unfold State.takeDirective State.execute at mem
  split at mem
  · simp only [State.perform_marks, State.removePending, List.mem_filter, List.mem_singleton, decide_eq_true_eq] at mem
    exact mem.1
  · simpa [State.removePending] using mem

theorem State.pendingKinds_takeDirective {s : State} {d : Directive} (next : s.nextDirective = some d) :
    (s.takeDirective d).pendingKinds < s.pendingKinds := by
  have waits : d ∈ s.control.pendingSet := State.nextDirective_mem next
  refine Finset.card_lt_card ((Finset.ssubset_iff_of_subset fun e he => ?_).2 ⟨d, List.mem_toFinset.2 waits, ?_⟩)
  · exact List.mem_toFinset.2 (State.mem_pendingSet_takeDirective (List.mem_toFinset.1 he)).1
  · exact fun mem => (State.mem_pendingSet_takeDirective (List.mem_toFinset.1 mem)).2 rfl

theorem State.takeTurns_rest (n : Nat) (s : State) (enough : s.pendingKinds ≤ n) :
    (s.takeTurns n).ControllerRests := by
  induction n generalizing s with
  | zero =>
    exact .inr (.inr (List.toFinset_eq_empty_iff _ |>.1 (Finset.card_eq_zero.1 (Nat.le_zero.1 enough))))
  | succ n ih =>
    rw [State.takeTurns]
    split
    next busy => exact .inl busy
    next =>
      split
      next none => exact .inr (.inr (State.pendingSet_eq_nil none))
      next d next =>
        have := State.pendingKinds_takeDirective next
        exact ih _ (by omega)

theorem State.controllerTurn_ControllerRests (s : State) : s.controllerTurn.ControllerRests := by
  unfold State.controllerTurn
  split
  next mark => exact .inr (.inl mark)
  next => exact State.takeTurns_rest 8 s s.pendingKinds_le

theorem State.executorTurn_ControllerRests {s : State} (rests : s.ControllerRests) : s.executorTurn.ControllerRests := by
  unfold State.executorTurn
  split
  · unfold State.executeRequest
    split
    · exact State.controllerTurn_ControllerRests _
    · exact rests
  all_goals exact rests

theorem State.ControllerRests.of_control {s t : State} (rests : s.ControllerRests) (same : t.control = s.control) :
    t.ControllerRests := by
  simp only [State.ControllerRests, State.mode, same] at rests ⊢
  exact rests

theorem State.settle_ControllerRests (s : State) : s.settle.ControllerRests :=
  State.executorTurn_ControllerRests (.of_control
    (State.executorTurn_ControllerRests s.controllerTurn_ControllerRests) (State.transmitTurn_frame _).2.2.2.2.2.2.1)

/-! ## The link at the end of an event (R178 to R181) -/

/-- The link's queues keep within their places (R178, R179). -/
def Link.Fits (l : Link) : Prop := l.requests.length ≤ 4 ∧ l.fifo.length ≤ 4

/-- A waiting request has a reason to wait (R180). -/
def State.ExecutorRests (s : State) : Prop :=
  s.link.requests = [] ∨ s.link.slot ≠ none ∨ s.control.restartMark = true

/-- An idle transmitter has nothing to send (R181). -/
def State.TransmitterRests (s : State) : Prop :=
  s.link.sending = none → s.link.fifo = [] ∧ s.link.slot = none ∧ s.reports.queue = []

theorem State.executeRequest_link (s : State) (f : Frame) :
    ∃ settings r, (s.executeRequest f).link = { s.link with settings, slot := some r } := by
  unfold State.executeRequest
  split
  next k _ =>
    refine ⟨(s.answer f.payload k).state.link.settings,
      ⟨f.kind, f.tag, (s.answer f.payload k).status, (s.answer f.payload k).content⟩, ?_⟩
    rw [(State.controllerTurn_frame _).1, Answer.fillSlot, s.answer_link f.payload k]
  next => exact ⟨s.link.settings, _, rfl⟩

/-- The executor's turn takes the front request into the slot, or nothing. -/
theorem State.executorTurn_link (s : State) :
    s.executorTurn = s ∧ s.ExecutorRests ∨
      ∃ f rest settings r, s.link.requests = f :: rest ∧ s.link.slot = none ∧ s.control.restartMark = false ∧
        s.executorTurn.link = { s.link with requests := rest, settings, slot := some r } := by
  by_cases rests : s.ExecutorRests
  · exact .inl ⟨State.executorTurn_idle rests, rests⟩
  · right
    simp only [State.ExecutorRests, not_or, not_not, Bool.not_eq_true] at rests
    obtain ⟨waiting, empty, clear⟩ := rests
    obtain ⟨f, rest, front⟩ := List.exists_cons_of_ne_nil waiting
    obtain ⟨settings, r, is⟩ :=
      State.executeRequest_link { s with link := { s.link with requests := rest } } f
    exact ⟨f, rest, settings, r, front, empty, clear, by rw [State.executorTurn_takes front empty clear, is]⟩

theorem State.executorTurn_fits {s : State} (fits : s.link.Fits) : s.executorTurn.link.Fits := by
  rcases s.executorTurn_link with ⟨same, -⟩ | ⟨f, rest, settings, r, front, -, -, is⟩
  · rwa [same]
  · rw [is]
    have := fits.1
    rw [front, List.length_cons] at this
    exact ⟨Nat.le_of_succ_le this, fits.2⟩

theorem State.executorTurn_rests (s : State) : s.executorTurn.ExecutorRests := by
  rcases s.executorTurn_link with ⟨same, rests⟩ | ⟨f, rest, settings, r, -, -, -, is⟩
  · rwa [same]
  · exact .inr (.inl (by simp [is]))

theorem State.transmitTurn_fits {s : State} (fits : s.link.Fits) : s.transmitTurn.link.Fits := by
  obtain ⟨requests, replies⟩ := fits
  refine ⟨by simpa using requests, ?_⟩
  unfold State.transmitTurn State.chooseFrame
  split
  · split
    next r rest _ front =>
      rw [front, List.length_cons] at replies
      exact Nat.le_of_succ_le replies
    · exact replies
    · split
      · simpa using replies
      · exact replies
  · exact replies

/-- After the transmitter's turn a frame is being sent, or nothing has changed and nothing is there to send. -/
theorem State.transmitTurn_cases (s : State) :
    s.transmitTurn.link.sending ≠ none ∨
      s.transmitTurn = s ∧ s.link.fifo = [] ∧ s.link.slot = none ∧ s.reports.queue = [] := by
  by_cases idle : s.link.sending = none
  · rw [State.transmitTurn, if_pos idle, State.chooseFrame]
    split
    · exact .inl nofun
    · exact .inl nofun
    next fifo slot =>
      split
      · left
        simp
      next none => exact .inr ⟨rfl, fifo, slot, pickFirst_none none⟩
  · exact .inl (by rwa [State.transmitTurn_busy idle])

theorem State.settleLink_rests (s : State) : s.settleLink.ExecutorRests ∧ s.settleLink.TransmitterRests := by
  refine ⟨State.executorTurn_rests _, ?_⟩
  have rests := s.executorTurn_rests
  unfold State.settleLink
  generalize s.executorTurn = u at rests ⊢
  rcases u.transmitTurn_cases with busy | ⟨same, fifo, slot, queue⟩
  · intro idle
    rcases u.transmitTurn.executorTurn_link with ⟨same, -⟩ | ⟨f, rest, settings, r, -, -, -, is⟩
    · exact absurd (same ▸ idle) busy
    · rw [is] at idle
      exact absurd idle busy
  · rw [same, State.executorTurn_idle rests]
    exact fun _ => ⟨fifo, slot, queue⟩

/-- The end of an event leaves the link as its rule asks, where its queues keep within their places. -/
theorem State.settle_linkRule {s : State} (fits : s.link.Fits) : s.settle.LinkRule := by
  have before : s.controllerTurn.link.Fits := by rwa [(State.controllerTurn_frame s).1]
  obtain ⟨requests, replies⟩ := State.executorTurn_fits (State.transmitTurn_fits (State.executorTurn_fits before))
  obtain ⟨executor, transmitter⟩ := s.controllerTurn.settleLink_rests
  refine ⟨requests, replies, fun idle => ?_, executor⟩
  obtain ⟨fifo, slot, queue⟩ := transmitter idle
  exact ⟨fifo, slot, .inl queue⟩

theorem State.LinkRule.fits {s : State} (rule : s.LinkRule) : s.link.Fits := ⟨rule.1, rule.2.1⟩

/-! ## What the events do to the link's queues -/

theorem Link.Fits.of_same {l m : Link} (fits : l.Fits) (requests : m.requests = l.requests) (fifo : m.fifo = l.fifo) :
    m.Fits := by rwa [Link.Fits, requests, fifo]

theorem State.replyNow_fits {s : State} (fits : s.link.Fits) (room : s.replyRoom = true) (f : Frame) (st : Status)
    (c : List Byte) : (s.replyNow f st c).link.Fits := by
  have : s.link.fifo.length < 4 := of_decide_eq_true room
  exact ⟨fits.1, by simpa [State.replyNow] using this⟩

theorem State.flush_link (s : State) (selector : Nat) :
    (s.flush selector).link = if selector.testBit 0 then { s.link with requests := [] } else s.link := by
  simp only [State.flush]
  split <;> split <;> simp [State.dropRequests]

theorem State.sortFrame_fits {s : State} (fits : s.link.Fits) (f : Frame) : (s.sortFrame f).link.Fits := by
  have lost : s.overrun.link.Fits := fits
  unfold State.sortFrame
  split
  next d _ =>
    unfold State.sortDirective
    split
    · exact lost
    next room =>
      rw [Bool.not_eq_false] at room
      split
      · exact State.replyNow_fits fits room f _ _
      · refine State.replyNow_fits (s := s.arrive d) (by rwa [(State.arrive_frame s d).1]) ?_ f _ _
        rwa [State.replyRoom, (State.arrive_frame s d).1]
  next =>
    split
    · unfold State.sortFlush
      split
      · exact lost
      next room =>
        rw [Bool.not_eq_false] at room
        split
        · exact State.replyNow_fits fits room f _ _
        split
        · exact State.replyNow_fits fits room f _ _
        · have link := s.flush_link (byteAt f.payload 0)
          have fifo : (s.flush (byteAt f.payload 0)).link.fifo = s.link.fifo := by rw [link]; split <;> rfl
          refine State.replyNow_fits ?_ (by rwa [State.replyRoom, fifo]) f _ _
          refine ⟨?_, fifo ▸ fits.2⟩
          rw [link]
          split
          · exact Nat.zero_le 4
          · exact fits.1
    split
    · unfold State.sortRequest
      split
      next place =>
        rw [Config.maxRequests] at place
        exact ⟨by simpa [State.queueRequest] using Nat.succ_le_of_lt place, fits.2⟩
      · split
        next room => exact State.replyNow_fits fits room f _ _
        · exact lost
    · unfold State.sortUnknown
      split
      next room => exact State.replyNow_fits fits room f _ _
      · exact lost

theorem State.gapExpired_queues (s : State) :
    s.gapExpired.link.requests = s.link.requests ∧ s.gapExpired.link.fifo = s.link.fifo := by
  unfold State.gapExpired
  split
  · have same := s.link.abandon_frame
    exact ⟨(congrArg Link.requests same :), (congrArg Link.fifo same :)⟩
  · exact ⟨rfl, rfl⟩

/-- An event of the ports or the timers leaves the link as it was. -/
theorem Happening.effect_link (s : State) (e : Happening) :
    (∃ f, e = .frame f) ∨ e = .gap ∨ (e.effect s).link = s.link := by
  cases e
  case frame f => exact .inl ⟨f, rfl⟩
  case gap => exact .inr (.inl rfl)
  case loadDone pocket => right; right; simp only [Happening.effect, State.atPocket]; split <;> simp
  case ejectDone pocket => right; right; simp only [Happening.effect, State.atPocket]; split <;> simp
  all_goals right; right; simp [Happening.effect]

theorem Happening.effect_fits {s : State} (fits : s.link.Fits) (e : Happening) : (e.effect s).link.Fits := by
  rcases e.effect_link s with ⟨f, rfl⟩ | rfl | same
  · exact State.sortFrame_fits fits f
  · obtain ⟨requests, fifo⟩ := s.gapExpired_queues
    exact fits.of_same requests fifo
  · exact same ▸ fits

/-! ## Resets -/

theorem coldState_linkRule (pin1 pin2 : Bool) : (coldState pin1 pin2).LinkRule :=
  ⟨Nat.zero_le _, Nat.zero_le _, fun _ => ⟨rfl, rfl, .inr rfl⟩, .inl rfl⟩

theorem State.post_queue_of_empty {s : State} (empty : s.reports.queue = []) (k : EventKind) (n : Nat) :
    (s.post k n).reports.queue = [] ∨ (s.post k n).reports.queue = [k] := by
  cases held : (s.latch k).held with
  | some r => rw [State.post_counted held]; exact .inl empty
  | none =>
    cases enabled : (s.latch k).enabled with
    | true =>
      rw [State.post_queued held enabled (by rw [empty]; exact Nat.zero_lt_succ 7)]
      exact .inr (by simp [State.enqueueReport, empty])
    | false => rw [State.post_heldBack held (.inl enabled)]; exact .inl empty

theorem State.warmRestart_linkRule (s : State) : s.warmRestart.LinkRule := by
  have link : s.warmRestart.link = s.warmHeads.link.warm := (State.post_frame _ _ _).2.2.2.2.2.2.2.1
  have queue : s.warmRestart.reports.queue = [] ∨ s.warmRestart.reports.queue = [.stationStarted] :=
    State.post_queue_of_empty (s := s.warmHeads.warmBlocks) rfl .stationStarted 1
  refine ⟨?_, ?_, fun _ => ⟨?_, ?_, queue⟩, .inl ?_⟩ <;> rw [link]
  · exact Nat.zero_le 4
  · exact Nat.zero_le 4
  all_goals rfl

theorem State.warmRestart_ControllerRests (s : State) : s.warmRestart.ControllerRests :=
  .of_control (s := s.warmHeads.warmBlocks) (.inr (.inr rfl)) (State.post_frame _ _ _).2.2.2.2.2.2.1

/-! ## The line and time -/

theorem State.receiveByte_linkRule {s : State} (rule : s.LinkRule) (b : Byte) (stopBit : Bool) :
    (s.receiveByte b stopBit).LinkRule := by
  have frame := s.link.byte_frame b stopBit
  unfold State.receiveByte
  split
  · rw [frame]
    exact rule
  · refine State.settle_linkRule (State.sortFrame_fits ?_ _)
    rw [frame]
    exact rule.fits

theorem State.receiveByte_ControllerRests {s : State} (rests : s.ControllerRests) (b : Byte) (stopBit : Bool) :
    (s.receiveByte b stopBit).ControllerRests := by
  unfold State.receiveByte
  split
  · exact rests
  · exact State.settle_ControllerRests _

theorem State.transmitDone_linkRule {s : State} (fits : s.link.Fits) : s.transmitDone.LinkRule := by
  unfold State.transmitDone State.frameSent
  split
  · exact State.settle_linkRule fits
  · split
    · exact s.warmRestart_linkRule
    · exact State.settle_linkRule fits

theorem State.transmitDone_ControllerRests (s : State) : s.transmitDone.ControllerRests := by
  unfold State.transmitDone State.frameSent
  split
  · exact s.settle_ControllerRests
  · split
    · exact s.warmRestart_ControllerRests
    · exact State.settle_ControllerRests _

/-- A property holds after the expiries due at one moment if it does before and every event taken by a state of it
leaves it. -/
theorem State.dueAll_induct {P : State → Prop} (each : ∀ s (e : Happening), P s → P (s.event e.effect)) {s : State}
    (h : P s) : P s.dueAll := by
  refine headNos.foldlRecOn _ (headNos.foldlRecOn _ (pocketNos.foldlRecOn _ ?_ fun s hs p _ => ?_) fun s hs h _ => ?_)
    fun s hs h _ => ?_
  · unfold State.dueGap
    split
    · exact each s .gap h
    · exact h
  · unfold State.duePocket
    split
    · exact each s (.portTimerExpiry p) hs
    · exact each s (.portTimerExpiry p) hs
    · exact each s (.heatTimeExpiry p) hs
    · exact each s (.holdWindowExpiry p) hs
    all_goals exact hs
  · unfold State.duePhase
    split
    · exact each s (.phaseTimeout h) hs
    · exact hs
  · unfold State.dueWait
    split
    · exact each s (.rivetWaitExpiry h) hs
    · exact hs

/-- A property that the end of an event gives holds after a millisecond. -/
theorem State.tick_induct {P : State → Prop} (each : ∀ s (e : Happening), P s → P (s.event e.effect)) {s : State}
    (h : P (State.settle (State.advance { s with outgoing := [] }))) : P s.tick := State.dueAll_induct each h

/-! ## The obligations -/

theorem exec_linkRule {i : Instr} {s t : State} (rule : s.LinkRule) (h : exec i s = .next t) : t.LinkRule := by
  rcases exec_cases i with ⟨e, -, is⟩ | ⟨pin1, pin2, rfl⟩ | ⟨bytes, rfl⟩ | rfl | ⟨b, stopBit, rfl⟩
  · rw [is] at h
    cases h
    exact State.settle_linkRule (e.effect_fits (s := s.cleared) rule.fits)
  · cases h
    exact coldState_linkRule pin1 pin2
  · cases h
    exact bytes.foldlRecOn _ (b := s.cleared) rule fun _ rule b _ => State.receiveByte_linkRule rule b true
  · cases h
    exact State.transmitDone_linkRule (s := s.cleared) rule.fits
  · cases h
    exact State.receiveByte_linkRule (s := s.cleared) rule b stopBit

/-- Settles O53: the end of every event establishes what the link's rule says beside its bounds. -/
theorem linkRuleKept : Obligations.LinkRuleKept := by
  intro s t rule h
  unfold step at h
  split at h
  next c rest _ => exact exec_linkRule (s := { s with pending := rest }) rule h
  next =>
    rw [← Host.Outcome.next.inj h]
    exact State.tick_induct (fun s e rule => State.settle_linkRule (e.effect_fits rule.fits))
      (State.settle_linkRule rule.fits)

theorem exec_ControllerRests {i : Instr} {s t : State} (rests : s.ControllerRests) (h : exec i s = .next t) :
    t.ControllerRests := by
  rcases exec_cases i with ⟨e, -, is⟩ | ⟨pin1, pin2, rfl⟩ | ⟨bytes, rfl⟩ | rfl | ⟨b, stopBit, rfl⟩
  · rw [is] at h
    cases h
    exact State.settle_ControllerRests _
  · cases h
    exact .inr (.inr rfl)
  · cases h
    exact bytes.foldlRecOn _ (b := s.cleared) rests fun _ rests b _ => State.receiveByte_ControllerRests rests b true
  · cases h
    exact State.transmitDone_ControllerRests s.cleared
  · cases h
    exact State.receiveByte_ControllerRests (s := s.cleared) rests b stopBit

theorem step_ControllerRests {s t : State} (rests : s.ControllerRests) (h : step s = .next t) : t.ControllerRests := by
  unfold step at h
  split at h
  next c rest _ => exact exec_ControllerRests (s := { s with pending := rest }) rests h
  next =>
    rw [← Host.Outcome.next.inj h]
    exact State.tick_induct (fun s e _ => State.settle_ControllerRests _) (State.settle_ControllerRests _)

/-- Settles O56: every update keeps the mode's directive and the sharing rules, and the controller's turn at the end of
every event empties the pending set. -/
theorem modeAndSharingRulesKept : Obligations.ModeAndSharingRulesKept := fun _ _ h =>
  ⟨fun ⟨progress, rests⟩ => ⟨step_holds h (r := .progress) nofun progress, step_ControllerRests rests h⟩,
    fun ⟨permits, drills⟩ => ⟨step_holds h (r := .permits) nofun permits, step_holds h (r := .drills) nofun drills⟩⟩

end Sys2Proof.Machine
end

section
/-! O1, O2, O4, O6 and O21: the queue, requests that change nothing, and cold start. -/

namespace Sys2Proof.Machine
set_option Elab.async false

/-! ## The queue (O1, O2) -/

/-- Settles O1: the step matches on the front of the queue. -/
theorem stepTakesFront : Obligations.StepTakesFront := fun _ _ => rfl

/-- No request touches the commands that wait. -/
theorem State.answer_pending (s : State) (p : List Byte) (k : RequestKind) : (s.answer p k).state.pending = s.pending := by
  cases k <;>
    simp only [State.answer, State.jointLoad, State.jointClear, State.jointRead, State.jointFind, State.jointSkip,
      State.jointRework, State.datumSet, State.datumRead, State.stationSet, State.stationRead, State.permissiveSet,
      State.statusRead, State.restart, State.headRead, State.headEnable, State.headDisable, State.headReset,
      State.bringBackFrom, State.peckSet, State.filterSet, State.filterRead, State.channelRead, State.rivetTableSet,
      State.takeEntries, State.rivetClassSet, State.defineClass, State.magazineSet, State.heaterRead,
      State.eventConfig, State.eventAck, State.eventRead, checked, withHead, refuse, refuseAt, done] <;>
    (repeat' split) <;> simp [State.setJoints, State.takeSettings]

theorem State.executorTurn_pending (s : State) : s.executorTurn.pending = s.pending := by
  unfold State.executorTurn State.executeRequest
  split
  · split
    next k _ =>
      rw [(State.controllerTurn_frame _).2.2]
      exact State.answer_pending _ _ k
    next => rfl
  all_goals rfl

theorem State.settle_pending (s : State) : s.settle.pending = s.pending := by
  simp [State.settle, State.settleLink, State.executorTurn_pending]

theorem State.sortFrame_pending (s : State) (f : Frame) : (s.sortFrame f).pending = s.pending := by
  unfold State.sortFrame
  split
  · unfold State.sortDirective
    (repeat' split) <;> simp [State.overrun, State.replyNow]
  · split
    · unfold State.sortFlush State.flush
      (repeat' split) <;> simp [State.overrun, State.replyNow, State.dropRequests]
    · split
      · unfold State.sortRequest
        (repeat' split) <;> rfl
      · unfold State.sortUnknown
        split <;> rfl

theorem Happening.effect_pending (s : State) (e : Happening) : (e.effect s).pending = s.pending := by
  cases e
  case frame f => exact s.sortFrame_pending f
  case gap => simp only [Happening.effect, State.gapExpired]; split <;> rfl
  case loadDone pocket => simp only [Happening.effect, State.atPocket]; split <;> simp
  case ejectDone pocket => simp only [Happening.effect, State.atPocket]; split <;> simp
  all_goals simp [Happening.effect]

theorem State.receiveByte_pending (s : State) (b : Byte) (stopBit : Bool) : (s.receiveByte b stopBit).pending = s.pending := by
  unfold State.receiveByte
  split
  · rfl
  · rw [State.settle_pending, State.sortFrame_pending]

theorem State.transmitDone_pending (s : State) : s.transmitDone.pending = s.pending := by
  unfold State.transmitDone State.frameSent
  split
  · exact s.settle_pending
  · split
    · simp [State.warmRestart, State.warmBlocks, State.warmHeads]
    · exact State.settle_pending _

/-- Settles O2: every command has a next state by definition, and none of its parts touches the queue. -/
theorem everyCommandCompletes : Obligations.EveryCommandCompletes := by
  intro c s
  rcases exec_cases c with ⟨e, -, is⟩ | ⟨pin1, pin2, rfl⟩ | ⟨bytes, rfl⟩ | rfl | ⟨b, stopBit, rfl⟩
  · exact ⟨_, is s, (State.settle_pending _).trans (e.effect_pending s.cleared)⟩
  · exact ⟨_, rfl, rfl⟩
  · exact ⟨_, rfl, bytes.foldlRecOn _ (motive := fun t => t.pending = s.pending) (b := s.cleared) rfl
      fun t same b _ => (t.receiveByte_pending b true).trans same⟩
  · exact ⟨_, rfl, s.cleared.transmitDone_pending⟩
  · exact ⟨_, rfl, s.cleared.receiveByte_pending b stopBit⟩

/-! ## Refused requests (O4) -/

/-- An answer that is not OK leaves the state as it was (R180). -/
def Answer.RefusesIn (a : Answer) (s : State) : Prop := a.status ≠ .ok → a.state = s

section RefusesIn

variable {s t : State} {p c : List Byte}

theorem refuse_refusesIn {st : Status} : (refuse s st).RefusesIn s := fun _ => rfl

theorem refuseAt_refusesIn {k : Nat} : (refuseAt s k).RefusesIn s := fun _ => rfl

theorem done_refusesIn : (done t c).RefusesIn s := fun notOk => absurd rfl notOk

theorem checked_refusesIn {modeOk : Bool} {n : Nat} {rest : Answer} (h : rest.RefusesIn s) :
    (checked modeOk n s p rest).RefusesIn s := by
  unfold checked
  split
  · split
    · exact h
    · exact refuse_refusesIn
  · exact refuse_refusesIn

theorem withHead_refusesIn {f : HeadNo → Answer} (h : ∀ g, (f g).RefusesIn s) : (withHead s p f).RefusesIn s := by
  unfold withHead
  split
  · exact refuse_refusesIn
  · exact h _

theorem ite_refusesIn {q : Prop} [Decidable q] {a b : Answer} (yes : a.RefusesIn s) (no : b.RefusesIn s) :
    (if q then a else b).RefusesIn s := by
  split
  · exact yes
  · exact no

theorem bringBackFrom_refusesIn {st : HeadState} : (s.bringBackFrom p st).RefusesIn s :=
  checked_refusesIn (withHead_refusesIn fun _ => ite_refusesIn done_refusesIn refuse_refusesIn)

/-- A refused request changes nothing (R180). -/
theorem State.answer_refusesIn (k : RequestKind) : (s.answer p k).RefusesIn s := by
  cases k with
  | jointLoad =>
    refine ite_refusesIn refuse_refusesIn (ite_refusesIn refuse_refusesIn ?_)
    split
    · exact refuseAt_refusesIn
    · exact ite_refusesIn refuse_refusesIn done_refusesIn
  | jointRead => refine checked_refusesIn ?_; split; exacts [refuse_refusesIn, done_refusesIn]
  | jointFind => refine checked_refusesIn ?_; split; exacts [refuse_refusesIn, done_refusesIn]
  | jointSkip =>
    refine checked_refusesIn ?_
    split
    · exact refuse_refusesIn
    · exact ite_refusesIn done_refusesIn refuse_refusesIn
  | jointRework =>
    refine checked_refusesIn ?_
    split
    · exact refuse_refusesIn
    · refine ite_refusesIn refuse_refusesIn (ite_refusesIn refuse_refusesIn ?_)
      split
      · exact refuse_refusesIn
      · exact done_refusesIn
  | datumSet =>
    refine checked_refusesIn ?_
    split
    · exact refuse_refusesIn
    · exact ite_refusesIn done_refusesIn refuse_refusesIn
  | stationSet => exact checked_refusesIn (ite_refusesIn done_refusesIn refuse_refusesIn)
  | permissiveSet => exact checked_refusesIn (ite_refusesIn done_refusesIn refuse_refusesIn)
  | restart => exact checked_refusesIn (ite_refusesIn refuse_refusesIn done_refusesIn)
  | headRead => exact checked_refusesIn (withHead_refusesIn fun _ => done_refusesIn)
  | headEnable => exact bringBackFrom_refusesIn
  | headReset => exact bringBackFrom_refusesIn
  | headDisable =>
    exact checked_refusesIn (withHead_refusesIn fun _ => ite_refusesIn done_refusesIn refuse_refusesIn)
  | peckSet =>
    refine checked_refusesIn (withHead_refusesIn fun _ => ?_)
    split
    · exact refuse_refusesIn
    · exact done_refusesIn
  | filterSet =>
    exact ite_refusesIn refuse_refusesIn (ite_refusesIn refuse_refusesIn (ite_refusesIn refuse_refusesIn
      (ite_refusesIn refuse_refusesIn (ite_refusesIn done_refusesIn refuse_refusesIn))))
  | channelRead => refine checked_refusesIn ?_; split; exacts [refuse_refusesIn, done_refusesIn]
  | rivetTableSet =>
    refine ite_refusesIn refuse_refusesIn (ite_refusesIn refuse_refusesIn ?_)
    split
    · exact refuseAt_refusesIn
    · unfold State.takeEntries
      split
      · exact refuseAt_refusesIn
      · exact done_refusesIn
  | rivetClassSet =>
    refine checked_refusesIn ?_
    split
    · exact refuse_refusesIn
    · exact ite_refusesIn (ite_refusesIn refuse_refusesIn done_refusesIn)
        (ite_refusesIn (ite_refusesIn done_refusesIn refuse_refusesIn) refuse_refusesIn)
  | magazineSet => refine checked_refusesIn ?_; split; exacts [refuse_refusesIn, done_refusesIn]
  | eventConfig =>
    refine checked_refusesIn ?_
    split
    · exact ite_refusesIn done_refusesIn refuse_refusesIn
    · exact refuse_refusesIn
    · exact refuse_refusesIn
  | eventAck => exact checked_refusesIn (ite_refusesIn done_refusesIn refuse_refusesIn)
  | jointClear => exact checked_refusesIn done_refusesIn
  | datumRead => exact checked_refusesIn done_refusesIn
  | stationRead => exact checked_refusesIn done_refusesIn
  | statusRead => exact checked_refusesIn done_refusesIn
  | filterRead => exact checked_refusesIn done_refusesIn
  | heaterRead => exact checked_refusesIn done_refusesIn
  | eventRead => exact checked_refusesIn done_refusesIn

end RefusesIn

theorem checked_wrongLength {n : Nat} {s : State} {p : List Byte} {rest : Answer} (h : p.length ≠ n) :
    checked true n s p rest = ⟨s, .badLength, []⟩ := by
  simp [checked, h, refuse]

/-- A request outside its modes is answered WRONG_MODE, whatever its payload (R180). -/
theorem State.answer_wrongMode {s : State} {k : RequestKind} (h : k.executedIn s.mode = false) (p : List Byte) :
    s.answer p k = ⟨s, .wrongMode, []⟩ := by
  cases k <;> simp only [RequestKind.executedIn, Bool.true_eq_false] at h <;>
    simp_all [State.answer, State.jointLoad, State.jointClear, State.jointSkip, State.jointRework, State.datumSet,
      State.stationSet, State.restart, State.headEnable, State.headReset, State.bringBackFrom, State.peckSet,
      State.filterSet, State.rivetTableSet, State.rivetClassSet, State.magazineSet, checked, refuse]

/-- A request of fixed length that passes its mode check is answered BAD_LENGTH for another length (R180). -/
theorem State.answer_badLength {s : State} {k : RequestKind} {n : Nat} (mode : k.executedIn s.mode = true)
    (fixed : k.fixedLength = some n) {p : List Byte} (other : p.length ≠ n) :
    s.answer p k = ⟨s, .badLength, []⟩ := by
  cases k <;> cases fixed <;> simp only [RequestKind.executedIn] at mode <;>
    simp_all [State.answer, State.jointClear, State.jointRead, State.jointFind, State.jointSkip, State.jointRework,
      State.datumSet, State.datumRead, State.stationSet, State.stationRead, State.permissiveSet, State.statusRead,
      State.restart, State.headRead, State.headEnable, State.headDisable, State.headReset, State.bringBackFrom,
      State.peckSet, State.filterRead, State.channelRead, State.rivetClassSet, State.magazineSet, State.heaterRead,
      State.eventConfig, State.eventAck, State.eventRead, checked, refuse]

/-- Settles O4: each refusal leaves the state as it was, so its reply is delivered in the old state. -/
theorem requestsRefused : Obligations.RequestsRefused := by
  refine ⟨fun s k tag p ready mode => ?_, fun s k tag p n ready mode fixed other => ?_, fun s k tag p ready notOk => ?_⟩
  · exact State.request_refused ready k tag p (State.answer_wrongMode (s := s.cleared) mode p)
  · exact State.request_refused ready k tag p (State.answer_badLength (s := s.cleared) mode fixed other)
  · have same : (s.cleared.answer p k).state = s.cleared := State.answer_refusesIn k notOk
    exact State.request_refused ready k tag p
      (congrArg (Answer.mk · (s.cleared.answer p k).status (s.cleared.answer p k).content) same)

/-! ## Requests that read (O6) -/

theorem State.answer_headRead (s : State) (h : HeadNo) : s.answer (b8 h.val) .headRead = ⟨s, .ok, s.headContent h⟩ := by
  have named : byteAt (b8 h.val) 0 = h.val := byteAt_b8 (by omega) []
  simp only [State.answer, State.headRead, checked_passes (b8_length _), withHead_named named, done]

theorem State.answer_headRead_above (s : State) {n : Nat} (above : 4 ≤ n) (byte : n < 256) :
    s.answer (b8 n) .headRead = ⟨s, .badField, []⟩ := by
  have named : byteAt (b8 n) 0 = n := byteAt_b8 byte []
  simp only [State.answer, State.headRead, checked_passes (b8_length _), withHead_above (named ▸ above), refuse]

theorem State.answer_channelRead (s : State) (c : ChannelNo) :
    s.answer (b8 c.val) .channelRead = ⟨s, .ok, s.channelContent c⟩ := by
  have named : byteAt (b8 c.val) 0 = c.val := byteAt_b8 (by omega) []
  simp only [State.answer, State.channelRead, checked_passes (b8_length _), named, finOf_val, done]

theorem State.answer_channelRead_above (s : State) {n : Nat} (above : 4 ≤ n) (byte : n < 256) :
    s.answer (b8 n) .channelRead = ⟨s, .badField, []⟩ := by
  have named : byteAt (b8 n) 0 = n := byteAt_b8 byte []
  simp only [State.answer, State.channelRead, checked_passes (b8_length _), named, finOf_of_le above, refuse]

/-- Settles O6: each read answers from the state and leaves it as it was. -/
theorem stateReadsReply : Obligations.StateReadsReply := by
  intro s tag ready
  refine ⟨?_, ?_, ?_, fun h => ?_, fun n above byte => ?_, ?_, fun c => ?_, fun n above byte => ?_, ?_, ?_⟩
  · exact State.request_refused ready .datumRead tag [] rfl
  · exact State.request_refused ready .stationRead tag [] rfl
  · exact State.request_refused ready .statusRead tag [] rfl
  · exact State.request_refused ready .headRead tag _ (s.cleared.answer_headRead h)
  · exact State.request_refused ready .headRead tag _ (s.cleared.answer_headRead_above above byte)
  · exact State.request_refused ready .filterRead tag [] rfl
  · exact State.request_refused ready .channelRead tag _ (s.cleared.answer_channelRead c)
  · exact State.request_refused ready .channelRead tag _ (s.cleared.answer_channelRead_above above byte)
  · exact State.request_refused ready .heaterRead tag [] rfl
  · exact State.request_refused ready .eventRead tag [] rfl

/-! ## Cold start (O21) -/

/-- Settles O21: the reset state is written out in the model, and COLD_START differs from it in the line rate alone. -/
theorem coldStartResets : Obligations.ColdStartResets := by
  refine ⟨⟨rfl, rfl, fun z => ?_, fun h => ?_, fun k => ?_, fun h => ?_, fun c => ?_, rfl, fun p => ?_, rfl, rfl,
    fun c => ?_, fun c => ?_, fun k => ?_, rfl, rfl, rfl, rfl, rfl, rfl, rfl, rfl, rfl, rfl, rfl, rfl, rfl, rfl, rfl, rfl,
    rfl⟩, fun pin1 pin2 s => ?_⟩
  · simp [State.reset, State.cold, JointTable.cold]
  · simp [State.reset, State.cold, Dispatcher.cold, State.claim]
  · simp [State.reset, State.cold, Dispatcher.cold]
  · simp [State.reset, State.cold, Head.cold, State.head]
  · have cold : State.reset.channel c = Channel.cold := by simp [State.reset, State.cold, Signature.cold, State.channel]
    rw [cold]
    simp [Channel.cold]
  · simp [State.reset, State.cold, Heater.cold, State.pocket]
  · simp [State.reset, State.cold, Heater.cold]
  · simp [State.reset, State.cold, Heater.cold]
  · simp [State.reset, State.cold, Arbiter.cold, State.permit]
  · cases pin1 <;> cases pin2 <;> rfl

end Sys2Proof.Machine
end

section
/-! O3 and O15: station time (00_scope section 4.2). -/

namespace Sys2Proof.Machine
set_option Elab.async false

/-! ## A millisecond in which nothing falls due -/

theorem WaitTimer.tick_eq_elapse (w : WaitTimer) : w.tick = w.elapse 1 := by cases w <;> rfl

theorem Head.tick_eq_elapse : Head.tick = Head.elapse 1 := by
  funext x
  rw [Head.tick, Head.elapse, WaitTimer.tick_eq_elapse]

theorem Pocket.tick_eq_elapse : Pocket.tick = Pocket.elapse 1 := by
  funext p
  cases p <;> rfl

theorem Assembler.tick_eq_elapse (a : Assembler) : a.tick = a.elapse 1 := by cases a <;> rfl

/-- The millisecond's own effect. -/
theorem State.advance_cleared (s : State) : s.cleared.advance = s.elapse 1 := by
  simp only [State.advance, State.elapse, Head.tick_eq_elapse, Pocket.tick_eq_elapse, Assembler.tick_eq_elapse]
  rfl

/-- Between events a millisecond is its own effect and the expiries then due. -/
theorem State.tick_settled {s : State} (settled : s.Settled) : s.tick = (s.elapse 1).dueAll := by
  have rests : (s.elapse 1).Settled := settled
  rw [← State.settle_settled rests, ← State.advance_cleared]
  rfl

/-! ## The expiries due (log entry 3) -/

theorem State.dueGap_none {s : State} (h : s.link.assembler.gap ≤ 20) : s.dueGap = s := if_neg (Nat.not_lt.2 h)

theorem State.duePhase_none {s : State} {h : HeadNo} (running : ∀ t ∈ (s.head h).phaseTimer, 0 < t) :
    s.duePhase h = s := if_neg fun due => Nat.lt_irrefl 0 (running 0 due)

theorem State.dueWait_none {s : State} {h : HeadNo} (running : ∀ t, (s.head h).rivetWait = .counting t → 0 < t) :
    s.dueWait h = s := if_neg fun due => Nat.lt_irrefl 0 (running 0 due)

theorem State.duePocket_none {s : State} {p : PocketNo} (running : ∀ t ∈ (s.pocket p).timer, 0 < t) :
    s.duePocket p = s := by
  unfold State.duePocket
  split
  next is => simp [is, Pocket.timer] at running
  next is => simp [is, Pocket.timer] at running
  next is => simp [is, Pocket.timer] at running
  next is => simp [is, Pocket.timer] at running
  all_goals rfl

/-- Updates along a list that all change nothing. -/
theorem foldl_none {α β : Type} {f : β → α → β} {b : β} {l : List α} (none : ∀ a ∈ l, f b a = b) : l.foldl f b = b :=
  l.foldlRecOn f (motive := (· = b)) rfl fun _ same a mem => same ▸ none a mem

/-- Updates along a list of which one alone changes anything, once. -/
theorem foldl_one {α β : Type} {f : β → α → β} {b c : β} {a : α} {l : List α} (mem : a ∈ l) (one : f b a = c)
    (others : ∀ x, x ≠ a → f b x = b) (after : ∀ x, f c x = c) : l.foldl f b = c := by
  obtain ⟨before, rest, rfl, first⟩ := List.eq_append_cons_of_mem mem
  have start : before.foldl f b = b := foldl_none fun x hx => others x fun e => first (e ▸ hx)
  rw [List.foldl_append, start, List.foldl_cons, one]
  exact foldl_none fun x _ => after x

theorem Assembler.elapse_gap (a : Assembler) : (a.elapse 0).gap = a.gap := by cases a <;> rfl

theorem State.gapNone {s : State} (h : (s.link.assembler.elapse 0).gap ≤ 20) : s.dueGap = s :=
  State.dueGap_none (Assembler.elapse_gap _ ▸ h)

theorem State.pocketsNone {s : State} (h : ∀ p, ∀ t ∈ (s.pocket p).timer, 0 < t) :
    pocketNos.foldl State.duePocket s = s := foldl_none fun p _ => State.duePocket_none (h p)

theorem State.phasesNone {s : State} (h : ∀ g, ∀ t ∈ (s.head g).phaseTimer, 0 < t) :
    headNos.foldl State.duePhase s = s := foldl_none fun g _ => State.duePhase_none (h g)

theorem State.waitsNone {s : State} (h : ∀ g t, (s.head g).rivetWait = .counting t → 0 < t) :
    headNos.foldl State.dueWait s = s := foldl_none fun g _ => State.dueWait_none (h g)

/-- With nothing due the expiries change nothing. -/
theorem State.NothingDue.dueAll {s : State} (h : s.NothingDue 0) : s.dueAll = s := by
  obtain ⟨phases, waits, pockets, gap⟩ := h
  rw [State.dueAll, State.gapNone gap, State.pocketsNone pockets, State.phasesNone phases, State.waitsNone waits]

/-! ## Idle steps (O3) -/

theorem WaitTimer.elapse_elapse (w : WaitTimer) (a b : Nat) : (w.elapse a).elapse b = w.elapse (a + b) := by
  cases w <;> simp [WaitTimer.elapse, Nat.sub_sub]

theorem Head.elapse_elapse (x : Head) (a b : Nat) : (x.elapse a).elapse b = x.elapse (a + b) := by
  simp only [Head.elapse, WaitTimer.elapse_elapse, Option.map_map]
  congr 2
  funext t
  exact Nat.sub_sub t a b

theorem Pocket.elapse_elapse (p : Pocket) (a b : Nat) : (p.elapse a).elapse b = p.elapse (a + b) := by
  cases p <;> simp [Pocket.elapse, Nat.sub_sub]

theorem Assembler.elapse_elapse (x : Assembler) (a b : Nat) : (x.elapse a).elapse b = x.elapse (a + b) := by
  cases x <;> simp [Assembler.elapse, Nat.add_assoc]

theorem State.elapse_elapse (s : State) (a b : Nat) : (s.elapse a).elapse b = s.elapse (a + b) := by
  have time : s.time + BitVec.ofNat 32 a + BitVec.ofNat 32 b = s.time + BitVec.ofNat 32 (a + b) := by
    rw [BitVec.ofNat_add, BitVec.add_assoc]
  simp only [State.elapse, State.cleared, time, Vector.map_map, Assembler.elapse_elapse]
  congr 3
  · exact funext fun x => x.elapse_elapse a b
  · exact funext fun p => p.elapse_elapse a b

theorem State.elapse_head (s : State) (n : Nat) (h : HeadNo) : (s.elapse n).head h = (s.head h).elapse n := by
  simp [State.head, State.elapse]

theorem State.elapse_pocket (s : State) (n : Nat) (p : PocketNo) : (s.elapse n).pocket p = (s.pocket p).elapse n := by
  simp [State.pocket, State.elapse]

theorem Pocket.elapse_timer (p : Pocket) (n : Nat) : (p.elapse n).timer = p.timer.map (· - n) := by cases p <;> rfl

/-- What is not due within two spells is not due within the second once the first has passed. -/
theorem State.NothingDue.elapse {s : State} {a b : Nat} (h : s.NothingDue (a + b)) : (s.elapse a).NothingDue b := by
  obtain ⟨phases, waits, pockets, gap⟩ := h
  refine ⟨fun g t ht => ?_, fun g t ht => ?_, fun p t ht => ?_, ?_⟩
  · rw [State.elapse_head, Head.elapse] at ht
    obtain ⟨m, hm, rfl⟩ := Option.map_eq_some_iff.1 ht
    have := phases g m hm
    omega
  · rw [State.elapse_head, Head.elapse] at ht
    cases is : (s.head g).rivetWait <;> simp only [is, WaitTimer.elapse, WaitTimer.counting.injEq, reduceCtorEq] at ht
    have := waits g _ is
    omega
  · rw [State.elapse_pocket, Pocket.elapse_timer] at ht
    obtain ⟨m, hm, rfl⟩ := Option.map_eq_some_iff.1 ht
    have := pockets p m hm
    omega
  · exact (Assembler.elapse_elapse s.link.assembler a b).symm ▸ gap

theorem State.NothingDue.mono {s : State} {m n : Nat} (h : s.NothingDue n) (le : m ≤ n) : s.NothingDue m := by
  obtain ⟨phases, waits, pockets, gap⟩ := h
  refine ⟨fun g t ht => le.trans_lt (phases g t ht), fun g t ht => le.trans_lt (waits g t ht),
    fun p t ht => le.trans_lt (pockets p t ht), le_trans ?_ gap⟩
  cases s.link.assembler <;> simp [Assembler.elapse, Assembler.gap, le]

theorem step_idle {s : State} (quiet : s.pending = []) : step s = .next s.tick := by
  simp only [step, quiet]

/-- Settles O3: by induction, each millisecond leaves a settled state in which the rest is not yet due. -/
theorem idleStepsElapse : Obligations.IdleStepsElapse := by
  intro n
  induction n with
  | zero =>
    intro s quiet settled due
    have none : (s.elapse 1).NothingDue 0 := State.NothingDue.elapse (b := 0) due
    simp only [stepsFrom, step_idle quiet, State.tick_settled settled, none.dueAll]
  | succ n ih =>
    intro s quiet settled due
    have none : (s.elapse 1).NothingDue (n + 1) := State.NothingDue.elapse (by rwa [Nat.add_comm])
    have now : (s.elapse 1).NothingDue 0 := State.NothingDue.elapse (due.mono (by omega))
    rw [stepsFrom, step_idle quiet, State.tick_settled settled, now.dueAll]
    exact (ih (s.elapse 1) quiet settled none).trans (by rw [State.elapse_elapse, Nat.add_comm 1])

/-! ## The one expiry due (O15) -/

theorem mem_pocketNos (p : PocketNo) : p ∈ pocketNos := by revert p; decide

/-- An expiry due at the end of a millisecond is the command of that expiry. -/
theorem State.event_elapse {s u t : State} {f : State → State} (passed : u = s.elapse 1)
    (h : Host.Outcome.next (u.command f) = (.next t : Host.Outcome State Fault Refusal)) : u.event f = t := by
  subst passed
  exact Host.Outcome.next.inj h

/-- Settles O15: of the expiries a millisecond judges in turn one alone is due, and after it none. -/
theorem dueTimerTaken : Obligations.DueTimerTaken := by
  intro s u t quiet settled passed after
  have taken (due : u.dueAll = t) : step s = .next t := by
    rw [step_idle quiet, State.tick_settled settled, ← passed, due]
  refine ⟨fun h due others is => taken ?_, fun h due others is => taken ?_, fun p c o others => ?_,
    fun due _ is => taken ?_⟩
  · obtain ⟨phases, waits, pockets, gap⟩ := others
    have one : u.duePhase h = t := (if_pos due).trans (State.event_elapse passed is)
    have other (g : HeadNo) (e : g ≠ h) : u.duePhase g = u :=
      State.duePhase_none (by simpa [Ne.symm e] using phases g)
    rw [State.dueAll, State.gapNone (s := u) gap, State.pocketsNone (s := u) pockets,
      foldl_one (mem_headNos h) one other fun g => State.duePhase_none (after.1 g), State.waitsNone after.2.1]
  · obtain ⟨phases, waits, pockets, gap⟩ := others
    have one : u.dueWait h = t := (if_pos due).trans (State.event_elapse passed is)
    have other (g : HeadNo) (e : g ≠ h) : u.dueWait g = u :=
      State.dueWait_none (by simpa [Ne.symm e] using waits g)
    have timers (g : HeadNo) : ∀ n ∈ (u.head g).phaseTimer, 0 < n := by
      have := phases g
      rw [State.head_setHead] at this
      split at this
      next e => exact e ▸ this
      next => exact this
    rw [State.dueAll, State.gapNone (s := u) gap, State.pocketsNone (s := u) pockets, State.phasesNone (s := u) timers,
      foldl_one (mem_headNos h) one other fun g => State.dueWait_none (after.2.1 g)]
  · obtain ⟨phases, waits, pockets, gap⟩ := others
    have other (q : PocketNo) (e : q ≠ p) : u.duePocket q = u :=
      State.duePocket_none (by simpa [Ne.symm e] using pockets q)
    have one (due : u.duePocket p = t) : step s = .next t := taken (by
      rw [State.dueAll, State.gapNone (s := u) gap,
        foldl_one (mem_pocketNos p) due other fun q => State.duePocket_none (after.2.2.1 q),
        State.phasesNone after.1, State.waitsNone after.2.1])
    refine ⟨fun now is => one ?_, fun now is => one ?_, fun stamp now is => one ?_⟩
    · have due : u.duePocket p = u.event (fun v => v.portExpired p) := by
        rcases now with now | now <;> simp only [State.duePocket, now]
      exact due.trans (State.event_elapse passed is)
    · have due : u.duePocket p = u.event (fun v => v.heatExpired p) := by simp only [State.duePocket, now]
      exact due.trans (State.event_elapse passed is)
    · have due : u.duePocket p = u.event (fun v => v.holdExpired p) := by simp only [State.duePocket, now]
      exact due.trans (State.event_elapse passed is)
  · have abandoned : u.dueGap = t := (if_pos (by rw [due]; decide)).trans (State.event_elapse passed is)
    obtain ⟨phases, waits, pockets, -⟩ := after
    rw [State.dueAll, abandoned, State.pocketsNone pockets, State.phasesNone phases, State.waitsNone waits]

end Sys2Proof.Machine
end

section
/-! Reading fields out of bytes laid out one after another (chapter 10), and O8. -/

namespace Sys2Proof.Machine
set_option Elab.async false

/-! ## Reading behind the fields that stand before -/

section Skip

variable {a l : List Byte} {i : Nat}

theorem byteAt_skip (h : a.length ≤ i) : byteAt (a ++ l) i = byteAt l (i - a.length) := by
  obtain ⟨k, rfl⟩ := Nat.exists_eq_add_of_le h
  rw [byteAt_append, Nat.add_sub_cancel_left]

theorem u16At_skip (h : a.length ≤ i) : u16At (a ++ l) i = u16At l (i - a.length) := by
  obtain ⟨k, rfl⟩ := Nat.exists_eq_add_of_le h
  rw [u16At_append, Nat.add_sub_cancel_left]

theorem u32At_skip (h : a.length ≤ i) : u32At (a ++ l) i = u32At l (i - a.length) := by
  rw [u32At, u32At, u16At_skip h, u16At_skip (h.trans (Nat.le_add_right i 2)), Nat.sub_add_comm h]

theorem s16At_skip (h : a.length ≤ i) : s16At (a ++ l) i = s16At l (i - a.length) := by rw [s16At, s16At, u16At_skip h]

end Skip

/-! ## Skipping one field, at a literal place -/

section SkipOne

variable (n i : Nat) (l : List Byte)

@[simp] theorem byteAt_skip_b8 : byteAt (b8 n ++ l) (i + 1) = byteAt l i := rfl

@[simp] theorem byteAt_skip_b16 : byteAt (b16 n ++ l) (i + 2) = byteAt l i := rfl

@[simp] theorem byteAt_skip_b32 : byteAt (b32 n ++ l) (i + 4) = byteAt l i := rfl

@[simp] theorem u16At_skip_b8 : u16At (b8 n ++ l) (i + 1) = u16At l i := rfl

@[simp] theorem u16At_skip_b16 : u16At (b16 n ++ l) (i + 2) = u16At l i := rfl

@[simp] theorem u16At_skip_b32 : u16At (b32 n ++ l) (i + 4) = u16At l i := rfl

@[simp] theorem u32At_skip_b8 : u32At (b8 n ++ l) (i + 1) = u32At l i := rfl

@[simp] theorem u32At_skip_b16 : u32At (b16 n ++ l) (i + 2) = u32At l i := rfl

@[simp] theorem u32At_skip_b32 : u32At (b32 n ++ l) (i + 4) = u32At l i := rfl

@[simp] theorem s16At_skip_b8 : s16At (b8 n ++ l) (i + 1) = s16At l i := rfl

@[simp] theorem s16At_skip_b16 : s16At (b16 n ++ l) (i + 2) = s16At l i := rfl

@[simp] theorem s16At_skip_b32 : s16At (b32 n ++ l) (i + 4) = s16At l i := rfl

@[simp] theorem byteAt_skip_bs16 (x : Int) : byteAt (bs16 x ++ l) (i + 2) = byteAt l i := rfl

@[simp] theorem u16At_skip_bs16 (x : Int) : u16At (bs16 x ++ l) (i + 2) = u16At l i := rfl

@[simp] theorem u32At_skip_bs16 (x : Int) : u32At (bs16 x ++ l) (i + 2) = u32At l i := rfl

@[simp] theorem s16At_skip_bs16 (x : Int) : s16At (bs16 x ++ l) (i + 2) = s16At l i := rfl

@[simp] theorem byteAt_skip_z16 (o : Option Int) : byteAt (z16 o ++ l) (i + 2) = byteAt l i := rfl

@[simp] theorem u16At_skip_z16 (o : Option Int) : u16At (z16 o ++ l) (i + 2) = u16At l i := rfl

@[simp] theorem u32At_skip_z16 (o : Option Int) : u32At (z16 o ++ l) (i + 2) = u32At l i := rfl

@[simp] theorem s16At_skip_z16 (o : Option Int) : s16At (z16 o ++ l) (i + 2) = s16At l i := rfl

end SkipOne

/-! ## Reading a field at the front -/

section Front

variable (n : Nat) (l : List Byte)

@[simp] theorem byteAt_b8_front : byteAt (b8 n ++ l) 0 = n % 256 := by simp [byteAt, b8]

@[simp] theorem byteAt_b16_high : byteAt (b16 n ++ l) 0 = n / 256 % 256 := by simp [byteAt, b16]

@[simp] theorem byteAt_b16_low : byteAt (b16 n ++ l) 1 = n % 256 := by simp [byteAt, b16]

@[simp] theorem u16At_b16_front : u16At (b16 n ++ l) 0 = n % 65536 := by
  rw [u16At, byteAt_b16_high, byteAt_b16_low]
  omega

@[simp] theorem u32At_b32_front : u32At (b32 n ++ l) 0 = n % 4294967296 := by
  have low : u16At (b32 n ++ l) 2 = n % 65536 % 65536 := u16At_b16_front (n % 65536) l
  have high : u16At (b32 n ++ l) 0 = n / 65536 % 65536 := u16At_b16_front (n / 65536) (b16 (n % 65536) ++ l)
  rw [u32At, high, low]
  omega

theorem s16At_bs16_front {x : Int} (h : InSixteen x) : s16At (bs16 x ++ l) 0 = x := by
  obtain ⟨low, high⟩ := h
  rw [s16At, bs16, u16At_b16_front, signed16]
  split <;> omega

/-! The same for a field that stands last. -/

@[simp] theorem byteAt_b8_last : byteAt (b8 n) 0 = n % 256 := byteAt_b8_front n []

@[simp] theorem u16At_b16_last : u16At (b16 n) 0 = n % 65536 := u16At_b16_front n []

@[simp] theorem u32At_b32_last : u32At (b32 n) 0 = n % 4294967296 := u32At_b32_front n []

theorem s16At_bs16_last {x : Int} (h : InSixteen x) : s16At (bs16 x) 0 = x := s16At_bs16_front [] h

end Front

/-! ## Entries of one size, one after another -/

theorem flatMap_length {α : Type} {g : α → List Byte} {c : Nat} (size : ∀ x, (g x).length = c) (l : List α) :
    (l.flatMap g).length = c * l.length := by
  rw [List.length_flatMap, List.map_congr_left fun x _ => size x, List.map_const', List.sum_replicate, smul_eq_mul,
    Nat.mul_comm]

/-- An entry stands behind those before it. -/
theorem flatMap_split {α : Type} {g : α → List Byte} {c : Nat} (size : ∀ x, (g x).length = c) {l : List α} {k : Nat}
    (h : k < l.length) : ∃ before after, l.flatMap g = before ++ (g l[k] ++ after) ∧ before.length = c * k := by
  refine ⟨(l.take k).flatMap g, (l.drop (k + 1)).flatMap g, ?_, ?_⟩
  · rw [← List.flatMap_cons, ← List.flatMap_append, List.getElem_cons_drop, List.take_append_drop]
  · rw [flatMap_length size, List.length_take_of_le h.le]

theorem s16At_flatMap_bs16 {l : List Int} {k : Nat} (h : k < l.length) (range : InSixteen l[k]) (m : List Byte) :
    s16At (l.flatMap bs16 ++ m) (2 * k) = l[k] := by
  obtain ⟨before, after, split, length⟩ := flatMap_split bs16_length h
  rw [split, List.append_assoc, s16At_skip length.le, length, Nat.sub_self, List.append_assoc, s16At_bs16_front _ range]

/-- Bytes are what is read from them. -/
theorem eq_of_byteAt {p q : List Byte} (length : p.length = q.length) (same : ∀ i < p.length, byteAt p i = byteAt q i) :
    p = q := by
  refine List.ext_getElem length fun i hp hq => BitVec.eq_of_toNat_eq ?_
  have := same i hp
  simpa [byteAt, hp, hq] using this

/-! ## Joint load records (R10, Table 10-4) -/

theorem JointIdentity.bytes_length (d : JointIdentity) : d.bytes.length = 12 := rfl

section Fields

variable (d : JointIdentity)

theorem JointIdentity.u16At_id : u16At d.bytes 0 = d.id % 65536 := by simp [JointIdentity.bytes]

theorem JointIdentity.byteAt_flags : byteAt d.bytes 2 = d.flagsByte % 256 := by simp [JointIdentity.bytes]

theorem JointIdentity.byteAt_pass : byteAt d.bytes 3 = (d.pass.val * 16 + d.expectedLayers.getD 0) % 256 := by
  simp [JointIdentity.bytes]

theorem JointIdentity.byteAt_zone : byteAt d.bytes 4 = d.zone.val % 256 := by simp [JointIdentity.bytes]

theorem JointIdentity.u16At_offset : u16At d.bytes 5 = d.offset % 65536 := by simp [JointIdentity.bytes]

theorem JointIdentity.u16At_grip : u16At d.bytes 7 = d.expectedGrip.getD 65535 % 65536 := by
  simp [JointIdentity.bytes, o16]

theorem JointIdentity.u16At_tolerance : u16At d.bytes 9 = d.tolerance.getD 65535 % 65536 := by
  simp [JointIdentity.bytes, o16]

theorem JointIdentity.byteAt_gate : byteAt d.bytes 11 = (d.gate.map Fin.val).getD 255 % 256 := by
  simp [JointIdentity.bytes, o16, o8]

end Fields

theorem finOf_eq_some {n x : Nat} {i : Fin n} : finOf n x = some i ↔ x = i.val := by
  unfold finOf
  split
  next h => simp [Fin.ext_iff]
  next h => simp; omega

theorem optional_eq_some {absent lo hi x : Nat} {o : Option Nat} (outside : absent < lo ∨ hi < absent) :
    optional absent lo hi x = some o ↔ x = o.getD absent ∧ ∀ n ∈ o, lo ≤ n ∧ n ≤ hi := by
  cases o with
  | none =>
    unfold optional within
    split
    next h => simp [h]
    next h => split <;> simp [h]
  | some n =>
    unfold optional within
    split
    next h => simp [h]; omega
    next h => simp; omega

theorem gateOf_eq_some {x : Nat} {g : Option (Fin 4)} : gateOf x = some g ↔ x = (g.map Fin.val).getD 255 := by
  unfold gateOf
  cases g with
  | none => split <;> simp_all
  | some k =>
    split
    next h => simp [h]; omega
    next h => simp [finOf_eq_some]

theorem toleranceOf_eq_some {grip t : Option Nat} {x : Nat} :
    toleranceOf grip x = some t ↔ t.isSome = grip.isSome ∧ ∀ v ∈ t, x = v ∧ v ≤ 2000 := by
  cases grip <;> cases t <;> simp [toleranceOf]
  next v =>
    constructor
    · rintro ⟨le, rfl⟩; exact ⟨rfl, le⟩
    · rintro ⟨rfl, le⟩; exact ⟨le, rfl⟩

theorem JointIdentity.flagsByte_lt (d : JointIdentity) : d.flagsByte < 256 := by
  have := d.diameter.isLt
  unfold JointIdentity.flagsByte bit
  (repeat' split) <;> omega

/-- The flags of a load record say side, kind, diameter class and key, the low bits being clear (Table 10-4). -/
theorem flags_eq_flagsByte {x : Nat} (byte : x < 256) {d : JointIdentity} :
    x = d.flagsByte ↔ x % 8 = 0 ∧ (if x / 128 = 0 then Side.a else .b) = d.side ∧
      (if x / 64 % 2 = 0 then JointKind.rivet else .hole) = d.kind ∧ x / 16 % 4 = d.diameter.val ∧
      (x / 8 % 2 == 1) = d.key := by
  have := d.diameter.isLt
  unfold JointIdentity.flagsByte bit
  cases d.side <;> cases d.kind <;> cases d.key <;> simp <;> omega

/-- The byte of pass and expected layer count (Table 10-4). -/
theorem passByte_iff {x : Nat} {pass : Pass} {layers : Option Nat} :
    x = pass.val * 16 + layers.getD 0 ∧ (∀ n ∈ layers, 1 ≤ n ∧ n ≤ 8) ↔
      x / 16 = pass.val ∧ x % 16 = layers.getD 0 ∧ ∀ n ∈ layers, 1 ≤ n ∧ n ≤ 8 := by
  rw [← and_assoc]
  refine and_congr_left fun range => ?_
  have : layers.getD 0 ≤ 8 := by
    cases layers with
    | none => exact Nat.zero_le 8
    | some n => exact (range n rfl).2
  omega

theorem loadRecord_eq_some {r : List Byte} {d : JointIdentity} :
    loadRecord r = some d ↔
      (u16At r 0 = d.id ∧ d.id ≠ 0) ∧ byteAt r 2 = d.flagsByte ∧
        (byteAt r 3 = d.pass.val * 16 + d.expectedLayers.getD 0 ∧ ∀ n ∈ d.expectedLayers, 1 ≤ n ∧ n ≤ 8) ∧
        byteAt r 4 = d.zone.val ∧ u16At r 5 = d.offset ∧
        (u16At r 7 = d.expectedGrip.getD 65535 ∧ ∀ g ∈ d.expectedGrip, 1 ≤ g ∧ g ≤ 8000) ∧
        (d.tolerance.isSome = d.expectedGrip.isSome ∧ ∀ t ∈ d.tolerance, u16At r 9 = t ∧ t ≤ 2000) ∧
        byteAt r 11 = (d.gate.map Fin.val).getD 255 := by
  obtain ⟨id, side, zone, offset, pass, kind, diameter, key, grip, tolerance, layers, gate⟩ := d
  simp only [loadRecord, Option.bind_eq_bind, Option.bind_eq_some_iff, Option.ite_none_right_eq_some, Option.some_inj,
    JointIdentity.mk.injEq, flags_eq_flagsByte (byteAt_lt r 2), finOf_eq_some, gateOf_eq_some, toleranceOf_eq_some,
    optional_eq_some (absent := 0) (lo := 1) (hi := 8) (by decide),
    optional_eq_some (absent := 65535) (lo := 1) (hi := 8000) (by decide), passByte_iff]
  constructor
  · rintro ⟨_, pass, _, layers, _, zone, _, grip, _, tolerance, _, gate, _, diameter, ⟨present, low⟩, rfl, side, rfl, rfl, rfl,
      kind, rfl, key, rfl, rfl, rfl, rfl⟩
    exact ⟨⟨rfl, present⟩, ⟨low, side, kind, diameter, key⟩, ⟨pass, layers⟩, zone, rfl, grip, tolerance, gate⟩
  · rintro ⟨⟨rfl, present⟩, ⟨low, side, kind, diameter, key⟩, ⟨pass, layers⟩, zone, rfl, grip, tolerance, gate⟩
    exact ⟨_, pass, _, layers, _, zone, _, grip, _, tolerance, _, gate, _, diameter, ⟨present, low⟩, rfl, side, rfl, rfl,
      rfl, kind, rfl, key, rfl, rfl, rfl, rfl⟩

/-- What the host writes as a joint load record is read as that joint's identity. -/
theorem loadRecord_bytes {d : JointIdentity} (valid : d.Valid) : loadRecord d.bytes = some d := by
  obtain ⟨idLow, idHigh, offset, grip, tolerance, together, layers⟩ := valid
  have flags := d.flagsByte_lt
  have pass := d.pass.isLt
  have zone := d.zone.isLt
  have gate : (d.gate.map Fin.val).getD 255 < 256 := by cases d.gate <;> simp; omega
  have gripField : d.expectedGrip.getD 65535 < 65536 := by
    cases h : d.expectedGrip <;> simp
    have := grip _ h
    omega
  have layersField : d.expectedLayers.getD 0 ≤ 8 := by
    cases h : d.expectedLayers <;> simp
    exact (layers _ h).2
  rw [loadRecord_eq_some, d.u16At_id, d.byteAt_flags, d.byteAt_pass, d.byteAt_zone, d.u16At_offset, d.u16At_grip,
    d.u16At_tolerance, d.byteAt_gate]
  refine ⟨⟨by omega, by omega⟩, by omega, ⟨by omega, layers⟩, by omega, by omega, ⟨by omega, grip⟩,
    ⟨together, fun t ht => ⟨?_, tolerance t ht⟩⟩, by omega⟩
  have := tolerance t ht
  rw [Option.mem_def.1 ht, Option.getD_some]
  omega

/-- The same two-byte field is the same two bytes. -/
theorem byteAt_of_u16At {p q : List Byte} {i : Nat} (same : u16At p i = u16At q i) :
    byteAt p i = byteAt q i ∧ byteAt p (i + 1) = byteAt q (i + 1) := by
  have := byteAt_lt p (i + 1)
  have := byteAt_lt q (i + 1)
  simp only [u16At] at same
  omega

/-- What is read as a joint load record is an identity within range. -/
theorem loadRecord_valid {p : List Byte} {d : JointIdentity} (read : loadRecord p = some d) : d.Valid := by
  obtain ⟨⟨id, present⟩, -, ⟨-, layers⟩, -, offset, ⟨-, grip⟩, ⟨together, tolerance⟩, -⟩ := loadRecord_eq_some.1 read
  have := u16At_lt p 0
  have := u16At_lt p 5
  exact ⟨by omega, by omega, by omega, grip, fun t ht => (tolerance t ht).2, together, layers⟩

/-- A joint load record is written as the host writes it, but for the tolerance beside an absent grip. -/
theorem byteAt_loadRecord {p : List Byte} {d : JointIdentity} (read : loadRecord p = some d) {i : Nat} (hi : i < 12)
    (kept : i = 9 ∨ i = 10 → d.expectedGrip ≠ none) : byteAt p i = byteAt d.bytes i := by
  obtain ⟨⟨id, -⟩, flags, ⟨pass, -⟩, zone, offset, ⟨grip, -⟩, ⟨together, tolerance⟩, gate⟩ := loadRecord_eq_some.1 read
  obtain ⟨⟨id', -⟩, flags', ⟨pass', -⟩, zone', offset', ⟨grip', -⟩, ⟨-, tolerance'⟩, gate'⟩ :=
    loadRecord_eq_some.1 (loadRecord_bytes (loadRecord_valid read))
  have ids := byteAt_of_u16At (id.trans id'.symm)
  have offsets := byteAt_of_u16At (offset.trans offset'.symm)
  have grips := byteAt_of_u16At (grip.trans grip'.symm)
  have tolerances (present : d.expectedGrip ≠ none) : u16At p 9 = u16At d.bytes 9 := by
    rw [← Option.isSome_iff_ne_none, ← together, Option.isSome_iff_exists] at present
    obtain ⟨t, ht⟩ := present
    exact (tolerance t ht).1.trans (tolerance' t ht).1.symm
  interval_cases i
  · exact ids.1
  · exact ids.2
  · exact flags.trans flags'.symm
  · exact pass.trans pass'.symm
  · exact zone.trans zone'.symm
  · exact offsets.1
  · exact offsets.2
  · exact grips.1
  · exact grips.2
  · exact (byteAt_of_u16At (tolerances (kept (.inl rfl)))).1
  · exact (byteAt_of_u16At (tolerances (kept (.inr rfl)))).2
  · exact gate.trans gate'.symm

theorem byteAt_extract {p : List Byte} {n i : Nat} (h : i < n) : byteAt (p.extract 0 n) i = byteAt p i := by
  simp [byteAt, h]

/-! ## Station settings, filter settings and rivets (Table 10-3) -/

theorem StationSettings.bytes_length (t : StationSettings) : t.bytes.length = 30 := rfl

theorem within_iff {lo hi x : Nat} : within lo hi x = true ↔ lo ≤ x ∧ x ≤ hi := by simp [within]

theorem settingsOf_bytes {t : StationSettings} (valid : t.valid = true) : settingsOf t.bytes = t := by
  simp only [StationSettings.valid, Bool.and_eq_true, within_iff, decide_eq_true_eq] at valid
  obtain ⟨l, c, h, tr, cl, dr, re, fe, se, rl, lo, ej, ri⟩ := t
  simp only at valid
  simp only [settingsOf, StationSettings.bytes, StationSettings.mk.injEq, List.append_assoc, u32At_b32_front,
    u32At_skip_b32, u16At_skip_b32, u16At_skip_b16, u16At_b16_front, u16At_b16_last]
  omega

theorem filterOf_bytes {f : FilterSettings} (range : f.InRange) :
    f.bytes.length = 14 + 2 * f.taps.length ∧ byteAt f.bytes 0 = f.taps.length ∧ filterOf f.taps.length f.bytes = f := by
  obtain ⟨taps, engage, dropRatio, rebound, exitLevel, confirm, depthLimit, setWeight⟩ := f
  obtain ⟨valid, least, most, each⟩ := range
  simp only [FilterSettings.valid, Bool.and_eq_true, within_iff, decide_eq_true_eq] at valid least most each
  have length : (taps.flatMap bs16).length = 2 * taps.length := flatMap_length bs16_length taps
  refine ⟨by simp only [FilterSettings.bytes, List.length_append, b8_length, b16_length, length]; omega, by simp [FilterSettings.bytes]; omega, ?_⟩
  have tap (k : Nat) (hk : k < taps.length) (m : List Byte) :
      s16At (b8 taps.length ++ (taps.flatMap bs16 ++ m)) (1 + 2 * k) = taps[k] := by
    rw [s16At_skip (by simp), b8_length, Nat.add_sub_cancel_left]
    exact s16At_flatMap_bs16 hk (each _ (List.getElem_mem hk)) m
  have behind (m : List Byte) (i j : Nat) (h : j = i + (1 + 2 * taps.length)) :
      u16At (b8 taps.length ++ (taps.flatMap bs16 ++ m)) j = u16At m i ∧
        byteAt (b8 taps.length ++ (taps.flatMap bs16 ++ m)) j = byteAt m i := by
    subst h
    rw [← List.append_assoc, u16At_skip (by simp [length]), byteAt_skip (by simp [length])]
    simp [length, Nat.add_comm 1]
  simp only [filterOf, FilterSettings.bytes, List.append_assoc, FilterSettings.mk.injEq]
  refine ⟨List.ext_getElem (by simp) fun k hk hk' => by simpa using tap k hk' _, ?_, ?_, ?_, ?_, ?_, ?_, ?_⟩
  · rw [(behind _ 0 _ (by omega)).1, u16At_b16_front]; omega
  · rw [(behind _ 2 _ (by omega)).1, u16At_skip_b16, u16At_b16_front]; omega
  · rw [(behind _ 4 _ (by omega)).1]; simp; omega
  · rw [(behind _ 6 _ (by omega)).1]; simp; omega
  · rw [(behind _ 8 _ (by omega)).2]; simp; omega
  · rw [(behind _ 9 _ (by omega)).1]; simp; omega
  · rw [(behind _ 11 _ (by omega)).1]; simp; omega

theorem entryOf_eq_some {r : List Byte} {e : RivetEntry} :
    entryOf r = some e ↔ byteAt r 0 = e.diameter.val ∧ u16At r 1 = e.gripMin ∧ u16At r 3 = e.gripMax ∧
      byteAt r 5 = e.code.val ∧ e.Valid := by
  obtain ⟨diameter, gripMin, gripMax, code⟩ := e
  simp only [entryOf, Option.bind_eq_bind, Option.bind_eq_some_iff, Option.ite_none_right_eq_some, Option.some_inj,
    RivetEntry.mk.injEq, finOf_eq_some, Bool.and_eq_true, within_iff, decide_eq_true_eq, RivetEntry.Valid]
  constructor
  · rintro ⟨_, diameter, _, code, range, rfl, rfl, rfl, rfl⟩
    exact ⟨diameter, rfl, rfl, code, by omega⟩
  · rintro ⟨diameter, rfl, rfl, code, range⟩
    exact ⟨_, diameter, _, code, by omega, rfl, rfl, rfl, rfl⟩

theorem entryOf_bytes {e : RivetEntry} (valid : e.Valid) : entryOf e.bytes = some e := by
  have range := valid
  obtain ⟨low, order, high⟩ := range
  have := e.diameter.isLt
  have := e.code.isLt
  rw [entryOf_eq_some]
  simp only [RivetEntry.bytes, List.append_assoc, byteAt_b8_front, u16At_skip_b8, u16At_b16_front, u16At_skip_b16,
    byteAt_skip_b8, byteAt_skip_b16, byteAt_b8_last]
  exact ⟨by omega, by omega, by omega, by omega, valid⟩

theorem entryOf_written {p : List Byte} {e : RivetEntry} (length : p.length = 6) (read : entryOf p = some e) :
    e.Valid ∧ p = e.bytes := by
  obtain ⟨diameter, gripMin, gripMax, code, valid⟩ := entryOf_eq_some.1 read
  obtain ⟨diameter', gripMin', gripMax', code', -⟩ := entryOf_eq_some.1 (entryOf_bytes valid)
  have least := byteAt_of_u16At (gripMin.trans gripMin'.symm)
  have most := byteAt_of_u16At (gripMax.trans gripMax'.symm)
  refine ⟨valid, eq_of_byteAt length fun i hi => ?_⟩
  rw [length] at hi
  interval_cases i
  · exact diameter.trans diameter'.symm
  · exact least.1
  · exact least.2
  · exact most.1
  · exact most.2
  · exact code.trans code'.symm

theorem classOf_definePayload (code : RivetCode) {c : RivetClass} (range : c.InRange) :
    (definePayload code c).length = 12 ∧ byteAt (definePayload code c) 0 = code.val ∧
      classOf (definePayload code c) = c := by
  obtain ⟨heat, hold, force, least, most⟩ := c
  obtain ⟨valid, least16, least16', most16, most16'⟩ := range
  simp only [RivetClass.valid, Bool.and_eq_true, within_iff, decide_eq_true_eq] at valid least16 least16' most16 most16'
  have := code.isLt
  refine ⟨rfl, by simp [definePayload]; omega, ?_⟩
  have low (l : List Byte) : s16At (bs16 least ++ l) 0 = least := s16At_bs16_front l ⟨least16, least16'⟩
  have high : s16At (bs16 most) 0 = most := s16At_bs16_last ⟨most16, most16'⟩
  simp [classOf, definePayload, low, high]
  omega

/-! ## The obligation -/

/-- Settles O8: each layout is read field by field, and what is read determines the bytes. -/
theorem payloadsRoundTrip : Obligations.PayloadsRoundTrip := by
  refine ⟨fun d valid => ⟨d.bytes_length, loadRecord_bytes valid⟩,
    fun t valid => ⟨t.bytes_length, settingsOf_bytes valid⟩, fun f range => filterOf_bytes range,
    fun e valid => ⟨rfl, entryOf_bytes valid⟩, fun p d length read => ⟨loadRecord_valid read, ?_, ?_, fun present => ?_⟩,
    fun p e length read => entryOf_written length read, fun code c range => classOf_definePayload code range⟩
  · refine eq_of_byteAt (by simp [length, d.bytes_length]) fun i hi => ?_
    have : i < 9 := by simpa [length] using hi
    rw [byteAt_extract this, byteAt_extract this]
    exact byteAt_loadRecord read (by omega) (by omega)
  · exact byteAt_loadRecord read (by decide) fun h => absurd h (by decide)
  · refine eq_of_byteAt (length.trans d.bytes_length.symm) fun i hi => ?_
    exact byteAt_loadRecord read (length ▸ hi) fun _ => present

end Sys2Proof.Machine
end

section
/-! O7, first part: fixed lists, masks and rank order in the layouts of chapter 10. -/

namespace Sys2Proof.Machine
set_option Elab.async false

/-! ## Masks -/

theorem bit_toNat (n : Nat) (b : Bool) : bit n b = 2 ^ n * b.toNat := by cases b <;> simp [bit]

/-- A mask made of one bit a place has each bit at its place. -/
theorem testBit_sum_bits (f : Nat → Bool) (n k : Nat) :
    (∑ i ∈ Finset.range n, bit i (f i)) < 2 ^ n ∧
      (∑ i ∈ Finset.range n, bit i (f i)).testBit k = (decide (k < n) && f k) := by
  induction n with
  | zero => simp
  | succ n ih =>
    obtain ⟨bound, at_k⟩ := ih
    rw [Finset.sum_range_succ, bit_toNat, Nat.add_comm]
    refine ⟨?_, ?_⟩
    · have : (f n).toNat ≤ 1 := Bool.toNat_le (f n)
      have := Nat.mul_le_mul_left (2 ^ n) this
      rw [Nat.pow_succ]
      omega
    · rw [Nat.testBit_two_pow_mul_add _ bound, at_k]
      by_cases h : k < n
      · simp [h, Nat.lt_succ_of_lt h]
      · rw [if_neg h]
        rcases Nat.lt_or_ge n k with behind | here
        · obtain ⟨d, rfl⟩ := Nat.exists_eq_add_of_lt behind
          cases f n <;> simp [Nat.add_assoc, Nat.testBit_succ]
        · have : k = n := by omega
          subst this
          cases f k <;> simp

/-! ## Fixed lists -/

section Places

variable {n c : Nat} {u : List Byte} {es : List (List Byte)}

theorem places_entries (hu : u.length = c) (he : ∀ e ∈ es, e.length = c) :
    ((es ++ List.replicate n u).take n).length = n ∧ ∀ e ∈ (es ++ List.replicate n u).take n, e.length = c := by
  refine ⟨by simp, fun e mem => ?_⟩
  rcases List.mem_append.1 (List.mem_of_mem_take mem) with h | h
  · exact he e h
  · rw [List.eq_of_mem_replicate h, hu]

theorem places_length (hu : u.length = c) (he : ∀ e ∈ es, e.length = c) : (places n u es).length = c * n := by
  obtain ⟨count, each⟩ := places_entries (n := n) hu he
  rw [places, List.length_flatten, List.map_congr_left each, List.map_const', List.sum_replicate, smul_eq_mul, count,
    Nat.mul_comm]

/-- A place of a fixed list holds its entry, or is unused. -/
theorem places_split (hu : u.length = c) (he : ∀ e ∈ es, e.length = c) {k : Nat} (hk : k < n) :
    ∃ before after, places n u es = before ++ (es[k]?.getD u ++ after) ∧ before.length = c * k := by
  obtain ⟨count, each⟩ := places_entries (n := n) hu he
  have at_k : ((es ++ List.replicate n u).take n)[k]? = some (es[k]?.getD u) := by
    rw [List.getElem?_take_of_lt hk]
    by_cases h : k < es.length
    · simp [List.getElem?_append_left h, h]
    · rw [List.getElem?_append_right (by omega), List.getElem?_replicate_of_lt (by omega),
        List.getElem?_eq_none (by omega)]
      rfl
  unfold places
  generalize (es ++ List.replicate n u).take n = l at count each at_k ⊢
  obtain ⟨h, is⟩ := List.getElem?_eq_some_iff.1 at_k
  refine ⟨(l.take k).flatten, (l.drop (k + 1)).flatten, ?_, ?_⟩
  · rw [← is, ← List.flatten_cons, ← List.flatten_append, List.getElem_cons_drop, List.take_append_drop]
  · rw [List.length_flatten, List.map_congr_left fun e mem => each e (List.mem_of_mem_take mem), List.map_const',
      List.sum_replicate, smul_eq_mul, List.length_take_of_le h.le, Nat.mul_comm]

end Places

/-! ## Rank order (R166) -/

theorem State.rankBefore_iff {s : State} {a b : EventKind} : s.rankBefore a b = true ↔ s.RanksBefore a b := by
  unfold State.rankBefore State.RanksBefore
  split
  next h => simp [Ne.symm h]
  next h =>
    rw [not_not] at h
    split
    next h' => simp [h, Ne.symm h']
    next h' =>
      rw [not_not] at h'
      simp [h, h']

theorem State.RanksBefore.trans {s : State} {a b c : EventKind} (ab : s.RanksBefore a b) (bc : s.RanksBefore b c) :
    s.RanksBefore a c := by
  unfold State.RanksBefore at *
  omega

/-- Of two kinds one ranks ahead of the other. -/
theorem State.ranksBefore_total (s : State) {a b : EventKind} (other : a ≠ b) : s.RanksBefore a b ∨ s.RanksBefore b a := by
  have : a.index ≠ b.index := fun e => other (EventKind.index_inj e)
  unfold State.RanksBefore
  omega

theorem State.RanksBefore.irrefl {s : State} {a : EventKind} : ¬ s.RanksBefore a a := by
  unfold State.RanksBefore
  omega

theorem insertBy_perm {α : Type} (before : α → α → Bool) (a : α) (l : List α) : (insertBy before a l).Perm (a :: l) := by
  induction l with
  | nil => exact .refl _
  | cons b l ih =>
    rw [insertBy]
    split
    · exact .refl _
    · exact (ih.cons b).trans (.swap a b l)

theorem sortBy_perm {α : Type} (before : α → α → Bool) (l : List α) : (sortBy before l).Perm l := by
  induction l with
  | nil => exact .refl _
  | cons a l ih => exact (insertBy_perm before a _).trans (ih.cons a)

/-- Sorting a list without repetition puts it in the order. -/
theorem sortBy_sorted {α : Type} {before : α → α → Bool} {r : α → α → Prop} (iff : ∀ a b, before a b = true ↔ r a b)
    (trans : ∀ a b c, r a b → r b c → r a c) (total : ∀ a b, a ≠ b → r a b ∨ r b a) {l : List α} (distinct : l.Nodup) :
    (sortBy before l).Pairwise r := by
  have insert (a : α) (q : List α) (new : a ∉ q) (sorted : q.Pairwise r) : (insertBy before a q).Pairwise r := by
    induction q with
    | nil => exact List.pairwise_singleton r a
    | cons b q ih =>
      obtain ⟨ahead, sorted'⟩ := List.pairwise_cons.1 sorted
      rw [insertBy]
      split
      next h =>
        refine List.pairwise_cons.2 ⟨fun c mem => ?_, sorted⟩
        rcases List.mem_cons.1 mem with rfl | mem
        · exact (iff a c).1 h
        · exact trans a b c ((iff a b).1 h) (ahead c mem)
      next h =>
        have ba : r b a := (total a b fun e => new (e ▸ List.mem_cons_self)).resolve_left fun ab => h ((iff a b).2 ab)
        refine List.pairwise_cons.2 ⟨fun c mem => ?_, ih (fun mem => new (List.mem_cons_of_mem b mem)) sorted'⟩
        rcases List.mem_cons.1 ((insertBy_perm before a q).subset mem) with rfl | mem
        · exact ba
        · exact ahead c mem
  induction l with
  | nil => exact .nil
  | cons a l ih =>
    obtain ⟨new, distinct⟩ := List.nodup_cons.1 distinct
    exact insert a _ (fun mem => new ((sortBy_perm before l).subset mem)) (ih distinct)

theorem State.sortBy_rankBefore (s : State) {q : List EventKind} (distinct : q.Nodup) :
    (sortBy s.rankBefore q).Pairwise s.RanksBefore :=
  sortBy_sorted (before := s.rankBefore) (r := s.RanksBefore) (fun _ _ => State.rankBefore_iff) (fun _ _ _ => State.RanksBefore.trans)
    (fun _ _ => s.ranksBefore_total) distinct

end Sys2Proof.Machine
end

section
/-! O7, second part: the contents of the replies, field by field. -/

namespace Sys2Proof.Machine
set_option Elab.async false

/-! ## The places of a fixed list, skipped or read -/

/-- A list of at most seven depths in seven two-byte places. -/
def depthPlaces (l : List Nat) : List Byte := places 7 (b16 0) (l.map b16)

theorem depthPlaces_length (l : List Nat) : (depthPlaces l).length = 14 :=
  places_length (b16_length 0) (by simp)

theorem u16At_depthPlaces (l : List Nat) {k : Nat} (hk : k < 7) (m : List Byte) :
    u16At (depthPlaces l ++ m) (2 * k) = l.getD k 0 % 65536 := by
  obtain ⟨before, after, split, length⟩ :=
    places_split (u := b16 0) (es := l.map b16) (b16_length 0) (by simp) hk
  have entry : (l.map b16)[k]?.getD (b16 0) = b16 (l.getD k 0) := by
    rw [List.getElem?_map, List.getD_eq_getElem?_getD]
    cases l[k]? <;> rfl
  rw [depthPlaces, split, List.append_assoc, u16At_skip length.le, length, Nat.sub_self, List.append_assoc, entry,
    u16At_b16_front]

/-! ## JOINT_READ (Table 10-5) -/

/-- The bytes of a joint's content before its boundaries. -/
def Joint.frontBytes (j : Joint) (i : Nat) : List Byte :=
  b16 i ++ j.identity.bytes ++ j.workingBytes ++ o16 j.result.entry ++ o16 j.result.exit ++ o16 j.result.grip ++
    o8 j.result.layers ++ o8 (j.result.boundaries.map List.length)

/-- The bytes of a joint's content behind its boundaries. -/
def Joint.backBytes (j : Joint) : List Byte :=
  o16 j.result.peckCount ++ o8 (j.result.code.map Fin.val) ++ z16 j.result.setWork ++ z16 j.result.peakForce ++
    b8 j.result.flagsByte

theorem Joint.content_eq (i : Nat) (j : Joint) :
    j.content i = j.frontBytes i ++ (depthPlaces (j.result.boundaries.getD []) ++ j.backBytes) := by
  simp [Joint.content, JointResult.bytes, Joint.frontBytes, Joint.backBytes, depthPlaces]

theorem Joint.frontBytes_length (i : Nat) (j : Joint) : (j.frontBytes i).length = 33 := rfl

theorem Joint.content_length (i : Nat) (j : Joint) : (j.content i).length = 55 := by
  have back : j.backBytes.length = 8 := rfl
  rw [j.content_eq, List.length_append, List.length_append, j.frontBytes_length, depthPlaces_length, back]

theorem Joint.content_back (i k : Nat) (j : Joint) :
    byteAt (j.content i) (47 + k) = byteAt j.backBytes k ∧ u16At (j.content i) (47 + k) = u16At j.backBytes k ∧
      s16At (j.content i) (47 + k) = s16At j.backBytes k := by
  have length : (j.frontBytes i ++ depthPlaces (j.result.boundaries.getD [])).length = 47 := by
    rw [List.length_append, j.frontBytes_length, depthPlaces_length]
  rw [j.content_eq, ← List.append_assoc, byteAt_skip (by omega), u16At_skip (by omega), s16At_skip (by omega), length,
    Nat.add_sub_cancel_left]
  exact ⟨rfl, rfl, rfl⟩

/-! ### Values that fit their field -/

theorem getD_mod {o : Option Nat} {d n : Nat} (absent : d < n) (present : ∀ x ∈ o, x < n) : o.getD d % n = o.getD d := by
  cases o with
  | none => exact Nat.mod_eq_of_lt absent
  | some x => exact Nat.mod_eq_of_lt (present x rfl)

theorem getD_map_mod {α : Type} {f : α → Nat} {d n : Nat} (absent : d < n) (present : ∀ x, f x < n) (o : Option α) :
    (o.map f).getD d % n = (o.map f).getD d :=
  getD_mod absent fun x hx => by
    obtain ⟨y, -, rfl⟩ := Option.map_eq_some_iff.1 hx
    exact present y

theorem JointState.code_lt (x : JointState) : x.code < 256 := by cases x <;> decide

theorem HeadState.code_lt (x : HeadState) : x.code < 256 := by cases x <;> decide

theorem Reason.code_lt (x : Reason) : x.code < 256 := by cases x <;> decide

theorem Fin.val_lt_byte {n : Nat} (le : n ≤ 256) (x : Fin n) : x.val < 256 := x.isLt.trans_le le

theorem s16At_z16_front {o : Option Int} (present : ∀ x ∈ o, InSixteen x) (l : List Byte) :
    s16At (z16 o ++ l) 0 = o.getD 0 :=
  s16At_bs16_front l (by
    cases o with
    | none => exact ⟨by decide, by decide⟩
    | some x => exact present x rfl)

theorem extract_append {a b l : List Byte} {i j : Nat} (ha : a.length = i) (hb : a.length + b.length = j) :
    (a ++ (b ++ l)).extract i j = b := by
  subst ha hb
  rw [List.extract_eq_take_drop, List.drop_left, Nat.add_sub_cancel_left, List.take_left]

section JointFields

variable (i : Nat) (j : Joint)

theorem Joint.content_identity : (j.content i).extract 2 14 = j.identity.bytes := by
  have split : j.content i = b16 i ++ (j.identity.bytes ++ (j.workingBytes ++ j.result.bytes)) := by
    simp only [Joint.content, List.append_assoc]
  rw [split]
  exact extract_append rfl rfl

theorem Joint.content_boundary {k : Nat} (hk : k < 7) :
    u16At (j.content i) (33 + 2 * k) = (j.result.boundaries.getD []).getD k 0 % 65536 := by
  rw [j.content_eq, u16At_skip (by rw [j.frontBytes_length]; omega), j.frontBytes_length, Nat.add_sub_cancel_left,
    u16At_depthPlaces _ hk]

theorem JointResult.flagsByte_eq (r : JointResult) : r.flagsByte =
    (if r.saturated then 1 else 0) + (if r.overflow then 2 else 0) + (if r.setWork.isSome then 4 else 0) := rfl

theorem JointResult.flagsByte_lt (r : JointResult) : r.flagsByte < 256 := by
  rw [r.flagsByte_eq]
  (repeat' split) <;> omega

/-- The working fields of a joint record, and the result fields that stand before its boundaries. -/
theorem Joint.content_front :
    u16At (j.content i) 0 = i % 65536 ∧ byteAt (j.content i) 14 = j.state.code ∧
      u32At (j.content i) 15 = j.corrected.getD 4294967295 % 4294967296 ∧
      byteAt (j.content i) 19 = (j.head.map Fin.val).getD 255 ∧
      byteAt (j.content i) 20 = (j.phaseAtEnd.map HeadState.code).getD 255 ∧
      byteAt (j.content i) 21 = (j.rejection.map (fun r => r.reason.code)).getD 255 ∧
      byteAt (j.content i) 22 = (j.rejection.map (fun r => if r.reworkable then 1 else 0)).getD 255 ∧
      byteAt (j.content i) 23 = j.reworks % 256 ∧ byteAt (j.content i) 24 = (j.pocket.map Fin.val).getD 255 ∧
      u16At (j.content i) 25 = j.result.entry.getD 65535 % 65536 ∧
      u16At (j.content i) 27 = j.result.exit.getD 65535 % 65536 ∧
      u16At (j.content i) 29 = j.result.grip.getD 65535 % 65536 ∧
      byteAt (j.content i) 31 = j.result.layers.getD 255 % 256 ∧
      byteAt (j.content i) 32 = (j.result.boundaries.map List.length).getD 255 % 256 := by
  have state := Nat.mod_eq_of_lt j.state.code_lt
  have head := getD_map_mod (d := 255) (by decide) (Fin.val_lt_byte (n := 4) (by decide)) j.head
  have phase := getD_map_mod (d := 255) (by decide) HeadState.code_lt j.phaseAtEnd
  have reason := getD_map_mod (d := 255) (by decide) (fun r : Rejection => r.reason.code_lt) j.rejection
  have marked := getD_map_mod (d := 255) (n := 256) (f := fun r : Rejection => if r.reworkable then 1 else 0) (by decide)
    (fun r => by split <;> decide) j.rejection
  have pocket := getD_map_mod (d := 255) (by decide) (Fin.val_lt_byte (n := 6) (by decide)) j.pocket
  simp [j.content_eq, Joint.frontBytes, JointIdentity.bytes, Joint.workingBytes, o8, o16, o32, state, head, phase,
    reason, marked, pocket]

/-- The result fields that stand behind its boundaries. -/
theorem Joint.content_result (work : ∀ w ∈ j.result.setWork, InSixteen w) (force : ∀ w ∈ j.result.peakForce, InSixteen w) :
    u16At (j.content i) 47 = j.result.peckCount.getD 65535 % 65536 ∧
      byteAt (j.content i) 49 = (j.result.code.map Fin.val).getD 255 ∧
      s16At (j.content i) 50 = j.result.setWork.getD 0 ∧ s16At (j.content i) 52 = j.result.peakForce.getD 0 ∧
      byteAt (j.content i) 54 = j.result.flagsByte := by
  have code := getD_map_mod (d := 255) (by decide) (Fin.val_lt_byte (n := 32) (by decide)) j.result.code
  have flags := Nat.mod_eq_of_lt j.result.flagsByte_lt
  obtain ⟨-, back0, -⟩ := Joint.content_back i 0 j
  obtain ⟨back2, -, -⟩ := Joint.content_back i 2 j
  obtain ⟨-, -, back3⟩ := Joint.content_back i 3 j
  obtain ⟨-, -, back5⟩ := Joint.content_back i 5 j
  obtain ⟨back7, -, -⟩ := Joint.content_back i 7 j
  refine ⟨back0.trans ?_, back2.trans ?_, back3.trans ?_, back5.trans ?_, back7.trans ?_⟩
  · simp [Joint.backBytes, o16]
  · simp [Joint.backBytes, o16, o8, code]
  · simp only [Joint.backBytes, List.append_assoc, o16, o8, s16At_skip_b16, s16At_skip_b8]
    exact s16At_z16_front work _
  · simp only [Joint.backBytes, List.append_assoc, o16, o8, z16, s16At_skip_b16, s16At_skip_b8, s16At_skip_bs16]
    exact s16At_z16_front force _
  · simp [Joint.backBytes, o16, o8, z16, flags]

end JointFields

/-! ## STATION_READ (R185) -/

theorem flagsByte_lt (f : Vector Bool 4) : flagsByte f < 16 := by
  unfold flagsByte bit
  (repeat' split) <;> decide

theorem testBit_flagsByte (f : Vector Bool 4) (k : Fin 4) : (flagsByte f).testBit k = f[k] := by
  have sum : flagsByte f = ∑ i ∈ Finset.range 4, bit i (f.toList.getD i false) := by
    simp [flagsByte, Finset.sum_range_succ]
  rw [sum, (testBit_sum_bits _ 4 k).2]
  simp

theorem State.stationContent_length (s : State) : s.stationContent.length = 33 := by
  have front : (if s.control.stationMark then s.station.bytes else List.replicate 30 0xFF).length = 30 := by
    split
    · rfl
    · rfl
  simp only [State.stationContent, List.length_append, front, mark_length, b8_length]

/-- The fields of STATION_READ. -/
theorem State.stationContent_fields (s : State) :
    s.stationContent.extract 0 30 =
        (if s.control.stationMark = true then s.station.bytes else List.replicate 30 0xFF) ∧
      byteAt s.stationContent 30 = (if s.control.stationMark = true then 1 else 0) ∧
      (∀ k : Fin 4, (byteAt s.stationContent 31).testBit k = s.dispatcher.flags[k]) ∧
      byteAt s.stationContent 31 < 16 ∧ byteAt s.stationContent 32 = s.link.lineRate.code := by
  have front : (if s.control.stationMark then s.station.bytes else List.replicate 30 0xFF).length = 30 := by
    split
    · rfl
    · rfl
  have behind (k : Nat) : byteAt s.stationContent (30 + k) =
      byteAt (mark s.control.stationMark ++ (b8 (flagsByte s.dispatcher.flags) ++ b8 s.link.lineRate.code)) k := by
    rw [State.stationContent, List.append_assoc, List.append_assoc, byteAt_skip (by omega), front,
      Nat.add_sub_cancel_left]
  have flags : byteAt s.stationContent 31 = flagsByte s.dispatcher.flags := by
    have := flagsByte_lt s.dispatcher.flags
    rw [behind 1, mark, byteAt_skip_b8, byteAt_b8_front, Nat.mod_eq_of_lt (by omega)]
  refine ⟨?_, ?_, fun k => ?_, ?_, ?_⟩
  · rw [State.stationContent, List.append_assoc, List.append_assoc, List.extract_eq_take_drop, List.drop_zero]
    exact List.take_left' front
  · rw [behind 0, mark, byteAt_b8_front]
    split <;> rfl
  · rw [flags, testBit_flagsByte]
  · rw [flags]
    exact flagsByte_lt _
  · rw [behind 2]
    cases h : s.link.lineRate <;> simp [mark, LineRate.code]

/-! ## STATUS_READ (Table 10-7) -/

theorem pendingByte_eq (ds : List Directive) :
    pendingByte ds = ∑ i ∈ Finset.range 8, bit i ((Directive.all.map fun d => decide (d ∈ ds)).getD i false) := by
  simp [pendingByte, Finset.sum_range_succ, Directive.all]

theorem testBit_pendingByte (ds : List Directive) (d : Directive) :
    (pendingByte ds % 256).testBit (d.kindCode - 0x61) = decide (d ∈ ds) := by
  obtain ⟨bound, -⟩ := testBit_sum_bits ((Directive.all.map fun d => decide (d ∈ ds)).getD · false) 8 0
  rw [← pendingByte_eq] at bound
  rw [Nat.mod_eq_of_lt (show _ < 256 from bound), pendingByte_eq, (testBit_sum_bits _ 8 _).2]
  cases d <;> simp [Directive.kindCode, Directive.all]

theorem Mode.code_lt (m : Mode) : m.code < 256 := by cases m <;> decide

theorem State.statusContent_length (s : State) : s.statusContent.length = 35 := rfl

theorem forall_headNo {P : HeadNo → Prop} : (∀ h, P h) ↔ P 0 ∧ P 1 ∧ P 2 ∧ P 3 := by
  rw [Fin.forall_fin_succ, Fin.forall_fin_succ, Fin.forall_fin_succ, Fin.forall_fin_succ]
  simp

/-- The fields of STATUS_READ. -/
theorem State.statusContent_fields (s : State) (requests : s.link.requests.length < 256)
    (joints : s.table.joints.length < 65536) :
    byteAt s.statusContent 0 = s.mode.code ∧ byteAt s.statusContent 1 = (if s.mode.busy then 1 else 0) ∧
      (∀ d : Directive, (byteAt s.statusContent 2).testBit (d.kindCode - 0x61) = decide (d ∈ s.control.pendingSet)) ∧
      byteAt s.statusContent 3 = (s.table.currentPass.map Fin.val).getD 255 ∧
      (∀ st : JointState, u16At s.statusContent (4 + 2 * st.code) = s.table.joints.countP (fun j => j.state == st)) ∧
      (∀ h : HeadNo, byteAt s.statusContent (22 + h.val) = (s.head h).state.code) ∧
      byteAt s.statusContent 26 = s.link.requests.length ∧
      u16At s.statusContent 27 = s.link.frameErrors % 65536 ∧ u16At s.statusContent 29 = s.link.overruns % 65536 ∧
      u32At s.statusContent 31 = s.time.toNat := by
  have mode := Nat.mod_eq_of_lt s.mode.code_lt
  have busy : (if s.mode.busy then 1 else 0) % 256 = (if s.mode.busy then 1 else 0) := by split <;> rfl
  have pass := getD_map_mod (d := 255) (by decide) (Fin.val_lt_byte (n := 8) (by decide)) s.table.currentPass
  have count (st : JointState) : s.countOf st % 65536 = s.countOf st :=
    Nat.mod_eq_of_lt (List.countP_le_length.trans_lt joints)
  have head (h : HeadNo) := Nat.mod_eq_of_lt (s.head h).state.code_lt
  have time : s.time.toNat % 4294967296 = s.time.toNat := Nat.mod_eq_of_lt s.time.isLt
  have pending := testBit_pendingByte s.control.pendingSet
  have waiting := Nat.mod_eq_of_lt requests
  refine ⟨?_, ?_, fun d => ?_, ?_, fun st => ?_, fun h => ?_, ?_, ?_, ?_, ?_⟩
  · simp [State.statusContent, mode]
  · simp [State.statusContent, mark, busy]
  · simp [State.statusContent, mark, pending]
  · simp [State.statusContent, mark, o8, pass]
  · rw [← State.countOf]
    cases st <;> simp [State.statusContent, mark, o8, JointState.all, JointState.code, count]
  · revert h
    rw [forall_headNo]
    simp [State.statusContent, mark, o8, JointState.all, headNos, head]
  all_goals simp [State.statusContent, mark, o8, JointState.all, headNos, waiting, time]

end Sys2Proof.Machine
end

section
/-! O7, third part: the contents of HEAD_READ (Table 10-8) and CHANNEL_READ (Table 10-9). -/

namespace Sys2Proof.Machine
set_option Elab.async false

/-! ## The parts of a head record as fields of one size -/

/-- The time of a rivet wait in units of 100 ms, all ones where it is stopped. -/
def WaitTimer.units : WaitTimer → Nat
  | .stopped => 65535
  | .counting n => hundredsUp n
  | .paused n => hundredsUp n

/-- The status of a rivet wait. -/
def WaitTimer.status : WaitTimer → Nat
  | .stopped => 0
  | .counting _ => 1
  | .paused _ => 2

theorem WaitTimer.bytes_eq (w : WaitTimer) : w.bytes = b16 w.units ++ b8 w.status := by cases w <;> rfl

theorem bufferBytes_eq (q : Option PeckProfile) :
    bufferBytes q = o16 (q.map PeckProfile.a) ++ o16 (q.map PeckProfile.b) := by cases q <;> rfl

/-- The cause of a fault as two numbers: DRIVE or TIMEOUT, and the drive's code or the phase. -/
def FaultCause.codes : FaultCause → Nat × Nat
  | .drive code => (0, code.toNat)
  | .timeout phase => (1, phase.code)

theorem FaultCause.bytes_eq (c : FaultCause) : c.bytes = b8 c.codes.1 ++ b8 c.codes.2 := by
  cases c with
  | drive code => simp [FaultCause.bytes, FaultCause.codes, b8]
  | timeout phase => rfl

theorem faultBytes_length (f : Option FaultRecord) : (faultBytes f).length = 10 := by
  cases f with
  | none => rfl
  | some f => simp [faultBytes, FaultCause.bytes_eq]

theorem Head.bytes_length (x : Head) : x.bytes.length = 44 := by
  simp [Head.bytes, PeckProfile.bytes, bufferBytes_eq, WaitTimer.bytes_eq, faultBytes_length]

theorem State.headContent_length (s : State) (h : HeadNo) : (s.headContent h).length = 59 := by
  simp [State.headContent, Head.bytes_length, claimBytes]

/-! ## HEAD_READ (Table 10-8) -/

/-- The bytes of a head's content before its fault record. -/
def Head.frontBytes (x : Head) (h : HeadNo) : List Byte :=
  b8 h.val ++ b8 x.state.code ++ o8 (x.subPhase.map SubPhase.code) ++ o16 x.held ++ o32 x.position ++ o32 x.target ++
    o8 (x.outcome.map HeadOutcome.code) ++ b16 x.active.a ++ b16 x.active.b ++ mark x.buffered.isSome ++
    o16 (x.buffered.map PeckProfile.a) ++ o16 (x.buffered.map PeckProfile.b) ++ b16 x.deepest ++ b16 x.peckStart ++
    b16 x.peckCounter ++ o8 (x.rate.map FeedRate.code) ++ o16 x.phaseTimer ++ b16 x.rivetWait.units ++
    b8 x.rivetWait.status

/-- The bytes of a head's content behind its fault record. -/
def State.headBack (s : State) (h : HeadNo) : List Byte :=
  mark (s.claim h).isSome ++ o32 ((s.claim h).map Claim.lo) ++ o32 ((s.claim h).map Claim.hi) ++
    o8 ((s.drillChannelOf h).map Fin.val) ++ o8 (s.signature.drillQueue.idxOf? h) ++ o8 ((s.pocketOf h).map Fin.val) ++
    o8 ((s.permitOf h).map Fin.val) ++ o8 (s.arbiter.queue.idxOf? h)

theorem State.headContent_eq (s : State) (h : HeadNo) :
    s.headContent h = (s.head h).frontBytes h ++ (faultBytes (s.head h).fault ++ s.headBack h) := by
  simp [State.headContent, Head.bytes, Head.frontBytes, State.headBack, claimBytes, PeckProfile.bytes, bufferBytes_eq,
    WaitTimer.bytes_eq]

theorem Head.frontBytes_length (x : Head) (h : HeadNo) : (x.frontBytes h).length = 35 := by simp [Head.frontBytes]

theorem State.headContent_fault (s : State) (h : HeadNo) :
    (s.headContent h).extract 35 45 = faultBytes (s.head h).fault := by
  rw [s.headContent_eq]
  exact extract_append (Head.frontBytes_length _ h) (by rw [Head.frontBytes_length, faultBytes_length])

theorem State.headContent_behind (s : State) (h : HeadNo) (k : Nat) :
    byteAt (s.headContent h) (45 + k) = byteAt (s.headBack h) k ∧
      u32At (s.headContent h) (45 + k) = u32At (s.headBack h) k := by
  have length : ((s.head h).frontBytes h ++ faultBytes (s.head h).fault).length = 45 := by
    rw [List.length_append, Head.frontBytes_length, faultBytes_length]
  rw [s.headContent_eq, ← List.append_assoc, byteAt_skip (by omega), u32At_skip (by omega), length,
    Nat.add_sub_cancel_left]
  exact ⟨rfl, rfl⟩

theorem SubPhase.code_lt (x : SubPhase) : x.code < 256 := by cases x <;> decide

theorem FeedRate.code_lt (x : FeedRate) : x.code < 256 := by cases x <;> decide

theorem HeadOutcome.code_lt (x : HeadOutcome) : x.code < 256 := by
  cases x with
  | good => decide
  | rejected r => exact r.code_lt

/-- The fields of a head's content before its fault record. -/
theorem State.headContent_front (s : State) (h : HeadNo) :
    byteAt (s.headContent h) 0 = h.val ∧ byteAt (s.headContent h) 1 = (s.head h).state.code ∧
      byteAt (s.headContent h) 2 = ((s.head h).subPhase.map SubPhase.code).getD 255 ∧
      u16At (s.headContent h) 3 = (s.head h).held.getD 65535 % 65536 ∧
      u32At (s.headContent h) 5 = (s.head h).position.getD 4294967295 % 4294967296 ∧
      u32At (s.headContent h) 9 = (s.head h).target.getD 4294967295 % 4294967296 ∧
      byteAt (s.headContent h) 13 = ((s.head h).outcome.map HeadOutcome.code).getD 255 ∧
      u16At (s.headContent h) 14 = (s.head h).active.a % 65536 ∧
      u16At (s.headContent h) 16 = (s.head h).active.b % 65536 ∧
      byteAt (s.headContent h) 18 = (if (s.head h).buffered.isSome then 1 else 0) ∧
      u16At (s.headContent h) 19 = ((s.head h).buffered.map PeckProfile.a).getD 65535 % 65536 ∧
      u16At (s.headContent h) 21 = ((s.head h).buffered.map PeckProfile.b).getD 65535 % 65536 ∧
      u16At (s.headContent h) 23 = (s.head h).deepest % 65536 ∧
      u16At (s.headContent h) 25 = (s.head h).peckStart % 65536 ∧
      u16At (s.headContent h) 27 = (s.head h).peckCounter % 65536 ∧
      byteAt (s.headContent h) 29 = ((s.head h).rate.map FeedRate.code).getD 255 ∧
      u16At (s.headContent h) 30 = (s.head h).phaseTimer.getD 65535 % 65536 ∧
      u16At (s.headContent h) 32 = (s.head h).rivetWait.units % 65536 ∧
      byteAt (s.headContent h) 34 = (s.head h).rivetWait.status := by
  have number : h.val % 256 = h.val := by omega
  have state := Nat.mod_eq_of_lt (s.head h).state.code_lt
  have sub := getD_map_mod (d := 255) (by decide) SubPhase.code_lt (s.head h).subPhase
  have outcome := getD_map_mod (d := 255) (by decide) HeadOutcome.code_lt (s.head h).outcome
  have rate := getD_map_mod (d := 255) (by decide) FeedRate.code_lt (s.head h).rate
  have buffered : (if (s.head h).buffered.isSome then 1 else 0) % 256 = if (s.head h).buffered.isSome then 1 else 0 := by
    split <;> rfl
  have status : (s.head h).rivetWait.status % 256 = (s.head h).rivetWait.status := by
    cases (s.head h).rivetWait <;> rfl
  simp [s.headContent_eq, Head.frontBytes, o8, o16, o32, mark, number, state, sub, outcome, rate, buffered, status]

/-- The fields of a head's fault record. -/
theorem State.headContent_faultFields (s : State) (h : HeadNo) {f : FaultRecord} (present : (s.head h).fault = some f) :
    byteAt (s.headContent h) 35 = 1 ∧ byteAt (s.headContent h) 36 = f.cause.codes.1 ∧
      byteAt (s.headContent h) 37 = f.cause.codes.2 ∧ byteAt (s.headContent h) 38 = f.phase.code ∧
      u16At (s.headContent h) 39 = f.joint.getD 65535 % 65536 ∧ u32At (s.headContent h) 41 = f.time.toNat := by
  have phase := Nat.mod_eq_of_lt f.phase.code_lt
  have time : f.time.toNat % 4294967296 = f.time.toNat := Nat.mod_eq_of_lt f.time.isLt
  have cause : f.cause.codes.1 % 256 = f.cause.codes.1 ∧ f.cause.codes.2 % 256 = f.cause.codes.2 := by
    cases f.cause with
    | drive code => exact ⟨rfl, Nat.mod_eq_of_lt code.isLt⟩
    | timeout phase => exact ⟨rfl, Nat.mod_eq_of_lt phase.code_lt⟩
  have record : faultBytes (s.head h).fault =
      b8 1 ++ (b8 f.cause.codes.1 ++ (b8 f.cause.codes.2 ++ (b8 f.phase.code ++ (o16 f.joint ++ b32 f.time.toNat)))) := by
    simp [present, faultBytes, FaultCause.bytes_eq]
  simp [s.headContent_eq, Head.frontBytes, o8, o16, o32, mark, record, phase, time, cause]

theorem State.drillChannelOf_val (s : State) (h : HeadNo) : ((s.drillChannelOf h).map Fin.val).getD 255 =
    if (s.channel 0).holder = some h then 0 else if (s.channel 1).holder = some h then 1 else 255 := by
  simp only [State.drillChannelOf, List.find?_cons, List.find?_nil]
  (repeat' split) <;> simp_all

theorem State.permitOf_val (s : State) (h : HeadNo) : ((s.permitOf h).map Fin.val).getD 255 =
    if (s.permit 0).any (fun g => g.holder == h) then 0
    else if (s.permit 1).any (fun g => g.holder == h) then 1 else 255 := by
  simp only [State.permitOf, List.find?_cons, List.find?_nil]
  (repeat' split) <;> simp_all

theorem idxOf_lt_length {α : Type} [BEq α] {l : List α} {a : α} {n : Nat} (bound : l.length ≤ n) :
    ∀ k ∈ l.idxOf? a, k < n := fun k hk => by
  obtain ⟨h, -⟩ := List.findIdx?_eq_some_iff_getElem.1 hk
  omega

/-- The fields of a head's content behind its fault record. -/
theorem State.headContent_back (s : State) (h : HeadNo) (drills : s.signature.drillQueue.length ≤ 4)
    (permits : s.arbiter.queue.length ≤ 4) :
    byteAt (s.headContent h) 45 = (if (s.claim h).isSome then 1 else 0) ∧
      u32At (s.headContent h) 46 = ((s.claim h).map Claim.lo).getD 4294967295 % 4294967296 ∧
      u32At (s.headContent h) 50 = ((s.claim h).map Claim.hi).getD 4294967295 % 4294967296 ∧
      byteAt (s.headContent h) 54 = ((s.drillChannelOf h).map Fin.val).getD 255 ∧
      byteAt (s.headContent h) 55 = (s.signature.drillQueue.idxOf? h).getD 255 ∧
      byteAt (s.headContent h) 56 = ((s.pocketOf h).map Fin.val).getD 255 ∧
      byteAt (s.headContent h) 57 = ((s.permitOf h).map Fin.val).getD 255 ∧
      byteAt (s.headContent h) 58 = (s.arbiter.queue.idxOf? h).getD 255 := by
  have claimed : (if (s.claim h).isSome then 1 else 0) % 256 = if (s.claim h).isSome then 1 else 0 := by
    split <;> rfl
  have channel := getD_map_mod (d := 255) (by decide) (Fin.val_lt_byte (n := 4) (by decide)) (s.drillChannelOf h)
  have drill := getD_mod (d := 255) (n := 256) (by decide)
    fun k hk => (idxOf_lt_length (a := h) drills k hk).trans (by decide)
  have pocket := getD_map_mod (d := 255) (by decide) (Fin.val_lt_byte (n := 6) (by decide)) (s.pocketOf h)
  have permit := getD_map_mod (d := 255) (by decide) (Fin.val_lt_byte (n := 2) (by decide)) (s.permitOf h)
  have wait := getD_mod (d := 255) (n := 256) (by decide)
    fun k hk => (idxOf_lt_length (a := h) permits k hk).trans (by decide)
  refine ⟨(s.headContent_behind h 0).1.trans ?_, (s.headContent_behind h 1).2.trans ?_,
    (s.headContent_behind h 5).2.trans ?_, (s.headContent_behind h 9).1.trans ?_,
    (s.headContent_behind h 10).1.trans ?_, (s.headContent_behind h 11).1.trans ?_,
    (s.headContent_behind h 12).1.trans ?_, (s.headContent_behind h 13).1.trans ?_⟩ <;>
    simp [State.headBack, mark, o32, o8, claimed, channel, drill, pocket, permit, wait]

/-! ## CHANNEL_READ (Table 10-9) -/

/-- The bytes of a channel's content before its ring. -/
def Channel.holderBytes (c : Channel) (n : ChannelNo) : List Byte :=
  b8 n.val ++ mark c.holder.isSome ++ o8 (c.holder.map Fin.val) ++ o8 (c.lastHolder.map Fin.val) ++ o16 c.joint

/-- The bytes of a channel's content between its ring and its boundaries. -/
def Channel.middleBytes (c : Channel) : List Byte :=
  b8 c.writeIndex.val ++ b16 c.sampleCount ++ bs40 c.accumulator ++ b8 (bit 0 c.mv + bit 1 c.ev) ++ b8 c.machine.code ++
    b16 c.presence ++ z16 c.lastOutput ++ z16 c.lastDepth ++ z16 c.peak ++ z16 c.valley ++ b16 (c.valleyDepth.getD 0) ++
    b8 c.runCount ++ b16 (c.runStart.getD 0) ++ b16 (c.entry.getD 0) ++ b8 (c.layers.getD 0) ++ b8 c.boundaries.length

/-- The bytes of a channel's content behind its boundaries. -/
def State.channelBack (s : State) (n : ChannelNo) : List Byte :=
  b16 ((s.channel n).exit.getD 0) ++ b8 (((s.channel n).ending.map Ending.code).getD 0) ++
    if n.val < 2 then s.drillQueueBytes else (s.channel n).setBytes

theorem State.channelContent_eq (s : State) (n : ChannelNo) :
    s.channelContent n = (s.channel n).holderBytes n ++ ((s.channel n).ring.toList.flatMap bs16 ++
      ((s.channel n).middleBytes ++ (depthPlaces (s.channel n).boundaries ++ s.channelBack n))) := by
  simp only [State.channelContent, Channel.firstBytes, Channel.measureBytes, Channel.holderBytes, Channel.middleBytes,
    State.channelBack, depthPlaces, List.append_assoc]

theorem Channel.holderBytes_length (c : Channel) (n : ChannelNo) : (c.holderBytes n).length = 6 := by
  simp [Channel.holderBytes]

theorem Channel.middleBytes_length (c : Channel) : c.middleBytes.length = 29 := by simp [Channel.middleBytes]

theorem Channel.ring_length (c : Channel) : (c.ring.toList.flatMap bs16).length = 32 := by
  rw [flatMap_length bs16_length, Vector.length_toList]

theorem drillPlaces_length (q : List HeadNo) : (places 2 [0xFF] (q.map (fun h => b8 h.val))).length = 2 :=
  places_length (c := 1) rfl (by simp)

theorem State.channelContent_length (s : State) (n : ChannelNo) :
    (s.channelContent n).length = if n.val < 2 then 87 else 90 := by
  rw [s.channelContent_eq]
  simp only [List.length_append, Channel.holderBytes_length, Channel.ring_length, Channel.middleBytes_length,
    depthPlaces_length, State.channelBack]
  split
  · simp only [State.drillQueueBytes, List.length_append, drillPlaces_length, b8_length, b16_length]
  · simp [Channel.setBytes]

/-- What stands behind a channel's ring. -/
theorem State.channelContent_middle (s : State) (n : ChannelNo) (k : Nat) :
    byteAt (s.channelContent n) (38 + k) =
        byteAt ((s.channel n).middleBytes ++ (depthPlaces (s.channel n).boundaries ++ s.channelBack n)) k ∧
      u16At (s.channelContent n) (38 + k) =
        u16At ((s.channel n).middleBytes ++ (depthPlaces (s.channel n).boundaries ++ s.channelBack n)) k ∧
      u32At (s.channelContent n) (38 + k) =
        u32At ((s.channel n).middleBytes ++ (depthPlaces (s.channel n).boundaries ++ s.channelBack n)) k ∧
      s16At (s.channelContent n) (38 + k) =
        s16At ((s.channel n).middleBytes ++ (depthPlaces (s.channel n).boundaries ++ s.channelBack n)) k := by
  have length : ((s.channel n).holderBytes n ++ (s.channel n).ring.toList.flatMap bs16).length = 38 := by
    rw [List.length_append, Channel.holderBytes_length, Channel.ring_length]
  rw [s.channelContent_eq, ← List.append_assoc, byteAt_skip (by omega), u16At_skip (by omega), u32At_skip (by omega),
    s16At_skip (by omega), length, Nat.add_sub_cancel_left]
  exact ⟨rfl, rfl, rfl, rfl⟩

/-- What stands behind a channel's boundaries. -/
theorem State.channelContent_behind (s : State) (n : ChannelNo) (k : Nat) :
    byteAt (s.channelContent n) (81 + k) = byteAt (s.channelBack n) k ∧
      u16At (s.channelContent n) (81 + k) = u16At (s.channelBack n) k ∧
      s16At (s.channelContent n) (81 + k) = s16At (s.channelBack n) k := by
  have length : ((s.channel n).middleBytes ++ depthPlaces (s.channel n).boundaries).length = 43 := by
    rw [List.length_append, Channel.middleBytes_length, depthPlaces_length]
  have split : 81 + k = 38 + (43 + k) := by omega
  obtain ⟨b, u, -, i⟩ := s.channelContent_middle n (43 + k)
  rw [split, b, u, i, ← List.append_assoc, byteAt_skip (by omega), u16At_skip (by omega), s16At_skip (by omega), length,
    Nat.add_sub_cancel_left]
  exact ⟨rfl, rfl, rfl⟩

theorem MachineState.code_lt (m : MachineState) : m.code < 256 := by cases m <;> decide

theorem Ending.code_lt (e : Ending) : e.code < 256 := by cases e <;> decide

theorem Channel.presence_eq (c : Channel) : c.presence = ∑ i ∈ Finset.range 12, bit i
    ([c.lastOutput.isSome, c.lastDepth.isSome, c.peak.isSome, c.valley.isSome, c.runStart.isSome, c.entry.isSome,
      c.layers.isSome, c.exit.isSome, c.ending.isSome, c.peakForce.isSome, c.lastStroke.isSome,
      c.setWork.isSome].getD i false) := by
  simp [Channel.presence, Finset.sum_range_succ]

theorem Channel.presence_lt (c : Channel) : c.presence < 4096 := by
  rw [c.presence_eq]
  exact (testBit_sum_bits _ 12 0).1

theorem Channel.testBit_presence (c : Channel) {b : Nat} (h : b < 12) : c.presence.testBit b =
    [c.lastOutput.isSome, c.lastDepth.isSome, c.peak.isSome, c.valley.isSome, c.runStart.isSome, c.entry.isSome,
      c.layers.isSome, c.exit.isSome, c.ending.isSome, c.peakForce.isSome, c.lastStroke.isSome,
      c.setWork.isSome].getD b false := by
  rw [c.presence_eq, (testBit_sum_bits _ 12 b).2, decide_eq_true h, Bool.true_and]

theorem getD_lt {o : Option Nat} {d n : Nat} (absent : d < n) (present : ∀ x ∈ o, x < n) : o.getD d < n := by
  cases o with
  | none => exact absent
  | some x => exact present x rfl

theorem getD_zero_mod {o : Option Nat} (present : ∀ x ∈ o, InReach x) : o.getD 0 % 65536 = o.getD 0 :=
  getD_mod (by decide) fun x hx => Nat.lt_of_le_of_lt (present x hx) (by decide)

/-- The first fields of a channel's content, and its ring. -/
theorem State.channelContent_front (s : State) (n : ChannelNo) (ring : ∀ k : Fin 16, InSixteen (s.channel n).ring[k])
    (joint : ∀ i ∈ (s.channel n).joint, i < 65535) :
    byteAt (s.channelContent n) 0 = n.val ∧
      byteAt (s.channelContent n) 1 = (if (s.channel n).holder.isSome then 1 else 0) ∧
      byteAt (s.channelContent n) 2 = ((s.channel n).holder.map Fin.val).getD 255 ∧
      byteAt (s.channelContent n) 3 = ((s.channel n).lastHolder.map Fin.val).getD 255 ∧
      u16At (s.channelContent n) 4 = (s.channel n).joint.getD 65535 ∧
      ∀ k : Fin 16, s16At (s.channelContent n) (6 + 2 * k.val) = (s.channel n).ring[k] := by
  have number : n.val % 256 = n.val := by omega
  have held : (if (s.channel n).holder.isSome then 1 else 0) % 256 = if (s.channel n).holder.isSome then 1 else 0 := by
    split <;> rfl
  have holder := getD_map_mod (d := 255) (by decide) (Fin.val_lt_byte (n := 4) (by decide)) (s.channel n).holder
  have last := getD_map_mod (d := 255) (by decide) (Fin.val_lt_byte (n := 4) (by decide)) (s.channel n).lastHolder
  have index := getD_mod (d := 65535) (n := 65536) (by decide) fun i hi => (joint i hi).trans (by decide)
  rw [s.channelContent_eq]
  refine ⟨?_, ?_, ?_, ?_, ?_, fun k => ?_⟩
  · simp [Channel.holderBytes, number]
  · simp [Channel.holderBytes, mark, held]
  · simp [Channel.holderBytes, mark, o8, holder]
  · simp [Channel.holderBytes, mark, o8, last]
  · simp [Channel.holderBytes, mark, o8, o16, index]
  · have place : k.val < (s.channel n).ring.toList.length := by simp
    rw [s16At_skip (by rw [Channel.holderBytes_length]; omega), Channel.holderBytes_length, Nat.add_sub_cancel_left,
      s16At_flatMap_bs16 place (by simpa using ring k)]
    simp

/-- The fields of a channel's content from the write index to the presence mask. -/
theorem State.channelContent_counts (s : State) (n : ChannelNo) (count : (s.channel n).sampleCount ≤ 65535) :
    byteAt (s.channelContent n) 38 = (s.channel n).writeIndex.val ∧
      u16At (s.channelContent n) 39 = (s.channel n).sampleCount ∧
      ((byteAt (s.channelContent n) 41 * 4294967296 + u32At (s.channelContent n) 42 : Nat) : Int) =
        (s.channel n).accumulator % 1099511627776 ∧
      byteAt (s.channelContent n) 46 = (if (s.channel n).mv then 1 else 0) + (if (s.channel n).ev then 2 else 0) ∧
      byteAt (s.channelContent n) 47 = (s.channel n).machine.code ∧
      u16At (s.channelContent n) 48 = (s.channel n).presence := by
  have index : (s.channel n).writeIndex.val % 256 = (s.channel n).writeIndex.val := by omega
  have samples : (s.channel n).sampleCount % 65536 = (s.channel n).sampleCount := Nat.mod_eq_of_lt (by omega)
  have machine := Nat.mod_eq_of_lt (s.channel n).machine.code_lt
  have presence : (s.channel n).presence % 65536 = (s.channel n).presence :=
    Nat.mod_eq_of_lt ((s.channel n).presence_lt.trans (by decide))
  have flags : ((if (s.channel n).mv then 1 else 0) + (if (s.channel n).ev then 2 else 0)) % 256 =
      (if (s.channel n).mv then 1 else 0) + (if (s.channel n).ev then 2 else 0) := by split <;> split <;> rfl
  refine ⟨(s.channelContent_middle n 0).1.trans ?_, (s.channelContent_middle n 1).2.1.trans ?_, ?_,
    (s.channelContent_middle n 8).1.trans ?_, (s.channelContent_middle n 9).1.trans ?_,
    (s.channelContent_middle n 10).2.1.trans ?_⟩
  · simp [Channel.middleBytes, index]
  · simp [Channel.middleBytes, samples]
  · obtain ⟨high, -, -, -⟩ := s.channelContent_middle n 3
    obtain ⟨-, -, low, -⟩ := s.channelContent_middle n 4
    rw [high, low]
    simp [Channel.middleBytes, bs40]
    omega
  · simp [Channel.middleBytes, bs40, bit, flags]
  · simp [Channel.middleBytes, bs40, machine]
  · simp [Channel.middleBytes, bs40, presence]

/-- The figures of a channel's content before its boundaries. -/
theorem State.channelContent_figures (s : State) (n : ChannelNo) (range : (s.channel n).InRange)
    (reach : (s.channel n).Reaches) :
    s16At (s.channelContent n) 50 = (s.channel n).lastOutput.getD 0 ∧
      s16At (s.channelContent n) 52 = (s.channel n).lastDepth.getD 0 ∧
      s16At (s.channelContent n) 54 = (s.channel n).peak.getD 0 ∧
      s16At (s.channelContent n) 56 = (s.channel n).valley.getD 0 ∧
      u16At (s.channelContent n) 58 = (s.channel n).valleyDepth.getD 0 ∧
      byteAt (s.channelContent n) 60 = (s.channel n).runCount ∧
      u16At (s.channelContent n) 61 = (s.channel n).runStart.getD 0 ∧
      u16At (s.channelContent n) 63 = (s.channel n).entry.getD 0 ∧
      byteAt (s.channelContent n) 65 = (s.channel n).layers.getD 0 ∧
      byteAt (s.channelContent n) 66 = (s.channel n).boundaries.length := by
  obtain ⟨-, -, -, output, peak, valley, -, -, runs, -, -, -, -, layers, boundaries, -, -⟩ := range
  obtain ⟨depth, -, valleyDepth, runStart, entry, -, -⟩ := reach
  have depth16 : ∀ d ∈ (s.channel n).lastDepth, InSixteen d := fun d hd => by
    have := depth d hd
    exact ⟨by omega, by omega⟩
  have run : (s.channel n).runCount % 256 = (s.channel n).runCount := Nat.mod_eq_of_lt (by omega)
  have layer := getD_mod (d := 0) (n := 256) (by decide) fun k hk => Nat.lt_of_le_of_lt (layers k hk).1 (by decide)
  have interfaces : (s.channel n).boundaries.length % 256 = (s.channel n).boundaries.length :=
    Nat.mod_eq_of_lt (by omega)
  have valleyAt := getD_zero_mod valleyDepth
  have start := getD_zero_mod runStart
  have entryAt := getD_zero_mod entry
  refine ⟨(s.channelContent_middle n 12).2.2.2.trans ?_, (s.channelContent_middle n 14).2.2.2.trans ?_,
    (s.channelContent_middle n 16).2.2.2.trans ?_, (s.channelContent_middle n 18).2.2.2.trans ?_,
    (s.channelContent_middle n 20).2.1.trans ?_, (s.channelContent_middle n 22).1.trans ?_,
    (s.channelContent_middle n 23).2.1.trans ?_, (s.channelContent_middle n 25).2.1.trans ?_,
    (s.channelContent_middle n 27).1.trans ?_, (s.channelContent_middle n 28).1.trans ?_⟩
  · simp [Channel.middleBytes, bs40, s16At_z16_front output]
  · simp [Channel.middleBytes, bs40, s16At_z16_front depth16]
  · simp [Channel.middleBytes, bs40, s16At_z16_front peak]
  · simp [Channel.middleBytes, bs40, s16At_z16_front valley]
  · simp [Channel.middleBytes, bs40, valleyAt]
  · simp [Channel.middleBytes, bs40, run]
  · simp [Channel.middleBytes, bs40, start]
  · simp [Channel.middleBytes, bs40, entryAt]
  · simp [Channel.middleBytes, bs40, layer]
  · simp [Channel.middleBytes, bs40, interfaces]

/-- The boundaries of a channel's content, and what stands behind them. -/
theorem State.channelContent_back (s : State) (n : ChannelNo) (boundaries : ∀ d ∈ (s.channel n).boundaries, InReach d)
    (exit : ∀ d ∈ (s.channel n).exit, InReach d) :
    (∀ k, k < 7 → u16At (s.channelContent n) (67 + 2 * k) = (s.channel n).boundaries.getD k 0) ∧
      u16At (s.channelContent n) 81 = (s.channel n).exit.getD 0 ∧
      byteAt (s.channelContent n) 83 = ((s.channel n).ending.map Ending.code).getD 0 := by
  have exitAt := getD_zero_mod exit
  have ending := getD_map_mod (d := 0) (n := 256) (by decide) Ending.code_lt (s.channel n).ending
  refine ⟨fun k hk => ?_, (s.channelContent_behind n 0).2.1.trans ?_, (s.channelContent_behind n 2).1.trans ?_⟩
  · have place : 67 + 2 * k = 38 + (29 + 2 * k) := by omega
    rw [place, (s.channelContent_middle n (29 + 2 * k)).2.1, u16At_skip (by rw [Channel.middleBytes_length]; omega),
      Channel.middleBytes_length, Nat.add_sub_cancel_left, u16At_depthPlaces _ hk]
    refine Nat.mod_eq_of_lt ?_
    rw [List.getD_eq_getElem?_getD]
    exact getD_lt (by decide) fun d hd => Nat.lt_of_le_of_lt (boundaries d (List.mem_of_getElem? hd)) (by decide)
  · simp [State.channelBack, exitAt]
  · simp only [State.channelBack, List.append_assoc, byteAt_skip_b16, byteAt_b8_front, ending]

/-- A drill channel's content ends with the queue. -/
theorem State.channelContent_drill (s : State) {n : ChannelNo} (drill : n.val < 2)
    (queue : s.signature.drillQueue.length ≤ 2) :
    byteAt (s.channelContent n) 84 = s.signature.drillQueue.length ∧
      ∀ k, k < 2 → byteAt (s.channelContent n) (85 + k) = (s.signature.drillQueue[k]?.map Fin.val).getD 255 := by
  have count : s.signature.drillQueue.length % 256 = s.signature.drillQueue.length := Nat.mod_eq_of_lt (by omega)
  refine ⟨(s.channelContent_behind n 3).1.trans ?_, fun k hk => ?_⟩
  · simp only [State.channelBack, List.append_assoc, byteAt_skip_b16, byteAt_skip_b8, if_pos drill, State.drillQueueBytes,
      byteAt_b8_front, count]
  · obtain ⟨before, after, split, length⟩ :=
      places_split (c := 1) (u := [0xFF]) (es := s.signature.drillQueue.map (fun h => b8 h.val)) rfl (by simp) hk
    have place : 85 + k = 81 + (k + 1 + 1 + 2) := by omega
    rw [place, (s.channelContent_behind n _).1]
    simp only [State.channelBack, List.append_assoc, byteAt_skip_b16, byteAt_skip_b8, if_pos drill, State.drillQueueBytes]
    rw [split, byteAt_skip (by omega), length, Nat.one_mul, Nat.sub_self, List.getElem?_map]
    cases s.signature.drillQueue[k]? with
    | none => rfl
    | some h => exact (byteAt_b8_front h.val after).trans (Nat.mod_eq_of_lt (Fin.val_lt_byte (by decide) h))

/-- A set channel's content ends with the figures of the press. -/
theorem State.channelContent_set (s : State) {n : ChannelNo} (set : 2 ≤ n.val)
    (force : ∀ y ∈ (s.channel n).peakForce, InSixteen y) (work : ∀ y ∈ (s.channel n).setWork, InSixteen y)
    (stroke : ∀ d ∈ (s.channel n).lastStroke, InReach d) :
    s16At (s.channelContent n) 84 = (s.channel n).peakForce.getD 0 ∧
      u16At (s.channelContent n) 86 = (s.channel n).lastStroke.getD 0 ∧
      s16At (s.channelContent n) 88 = (s.channel n).setWork.getD 0 := by
  have press : ¬ n.val < 2 := Nat.not_lt.2 set
  have strokeAt := getD_zero_mod stroke
  refine ⟨(s.channelContent_behind n 3).2.2.trans ?_, (s.channelContent_behind n 5).2.1.trans ?_,
    (s.channelContent_behind n 7).2.2.trans ?_⟩
  · simp [State.channelBack, press, Channel.setBytes, s16At_z16_front force]
  · simp [State.channelBack, press, Channel.setBytes, strokeAt]
  · have := s16At_z16_front work []
    simpa [State.channelBack, press, Channel.setBytes] using this

end Sys2Proof.Machine
end

section
/-! O7, last part: the contents of HEATER_READ (Table 10-10) and EVENT_READ (Table 10-11), and the obligation. -/

namespace Sys2Proof.Machine
set_option Elab.async false

/-! ## HEATER_READ (Table 10-10) -/

theorem Pocket.bytes_length (p : Pocket) : p.bytes.length = 14 := by simp [Pocket.bytes]

theorem HeatOrder.bytes_length (o : HeatOrder) : o.bytes.length = 4 := by simp [HeatOrder.bytes]

/-- The fixed list of heat orders. -/
def orderPlaces (l : List HeatOrder) : List Byte := places 8 (List.replicate 4 0xFF) (l.map HeatOrder.bytes)

theorem orderPlaces_length (l : List HeatOrder) : (orderPlaces l).length = 32 :=
  places_length (c := 4) rfl (by simp [HeatOrder.bytes_length])

theorem State.heaterContent_eq (s : State) : s.heaterContent = s.heater.pockets.toList.flatMap Pocket.bytes ++
    (b8 s.heater.orders.length ++ (orderPlaces s.heater.orders ++ s.heater.magazines.toList.flatMap b16)) := by
  simp only [State.heaterContent, orderPlaces, List.append_assoc]

theorem State.pocketBytes_length (s : State) : (s.heater.pockets.toList.flatMap Pocket.bytes).length = 84 := by
  rw [flatMap_length Pocket.bytes_length, Vector.length_toList]

theorem State.heaterContent_length (s : State) : s.heaterContent.length = 181 := by
  simp only [s.heaterContent_eq, List.length_append, s.pocketBytes_length, b8_length, orderPlaces_length,
    flatMap_length b16_length, Vector.length_toList]

/-- What stands in a pocket's entry. -/
theorem State.heaterContent_pocket (s : State) (p : PocketNo) : ∃ rest, ∀ k,
    byteAt s.heaterContent (14 * p.val + k) = byteAt ((s.pocket p).bytes ++ rest) k ∧
      u16At s.heaterContent (14 * p.val + k) = u16At ((s.pocket p).bytes ++ rest) k ∧
      u32At s.heaterContent (14 * p.val + k) = u32At ((s.pocket p).bytes ++ rest) k := by
  have place : p.val < s.heater.pockets.toList.length := by simp
  obtain ⟨before, after, split, length⟩ := flatMap_split Pocket.bytes_length place
  have entry : s.heater.pockets.toList[p.val] = s.pocket p := by simp [State.pocket]
  refine ⟨after ++ (b8 s.heater.orders.length ++
    (orderPlaces s.heater.orders ++ s.heater.magazines.toList.flatMap b16)), fun k => ?_⟩
  rw [s.heaterContent_eq, split, entry, List.append_assoc, List.append_assoc, byteAt_skip (by omega),
    u16At_skip (by omega), u32At_skip (by omega), length, Nat.add_sub_cancel_left]
  exact ⟨rfl, rfl, rfl⟩

theorem hundredsUp_lt {n : Nat} (h : n ≤ 6553400) : hundredsUp n < 65536 := by
  unfold hundredsUp
  omega

/-- The fields of a pocket's entry. -/
theorem State.heaterContent_pocketFields (s : State) (p : PocketNo)
    (timer : ∀ n ∈ (s.pocket p).timer, n < 65535 ∨ n ≤ 6553400 ∧ (s.pocket p).portTimer = none)
    (owner : ∀ i ∈ (s.pocket p).owner?, i < 65535) :
    byteAt s.heaterContent (14 * p.val) = (s.pocket p).stateCode ∧
      byteAt s.heaterContent (14 * p.val + 1) = ((s.pocket p).code?.map Fin.val).getD 255 ∧
      u16At s.heaterContent (14 * p.val + 2) = (s.pocket p).owner?.getD 65535 ∧
      (u16At s.heaterContent (14 * p.val + 4), u16At s.heaterContent (14 * p.val + 6),
          u16At s.heaterContent (14 * p.val + 8), u32At s.heaterContent (14 * p.val + 10)) =
        (match s.pocket p with
        | .loading _ _ t => (t, 65535, 65535, 0)
        | .ejecting _ t => (t, 65535, 65535, 0)
        | .heating _ _ t => (65535, (t + 99) / 100, 65535, 0)
        | .ready _ _ t st => (65535, 65535, (t + 99) / 100, st.toNat)
        | .empty => (65535, 65535, 65535, 0)
        | .disabled => (65535, 65535, 65535, 0)) := by
  obtain ⟨rest, read⟩ := s.heaterContent_pocket p
  have code := getD_map_mod (d := 255) (by decide) (Fin.val_lt_byte (n := 32) (by decide)) (s.pocket p).code?
  have owned := getD_mod (d := 65535) (n := 65536) (by decide) fun i hi => (owner i hi).trans (by decide)
  have state : (s.pocket p).stateCode % 256 = (s.pocket p).stateCode := by cases s.pocket p <;> rfl
  refine ⟨(read 0).1.trans ?_, (read 1).1.trans ?_, (read 2).2.1.trans ?_, ?_⟩
  · simp [Pocket.bytes, state]
  · simp [Pocket.bytes, o8, code]
  · simp [Pocket.bytes, o8, o16, owned]
  · rw [(read 4).2.1, (read 6).2.1, (read 8).2.1, (read 10).2.2]
    cases is : s.pocket p <;> simp [is, Pocket.timer, Pocket.portTimer] at timer <;>
      simp [Pocket.bytes, o8, o16, Pocket.portTimer, Pocket.heatTimer, Pocket.holdTimer, Pocket.stamp, hundredsUp] <;>
      omega

/-- What stands behind the pockets' entries. -/
theorem State.heaterContent_behind (s : State) (k : Nat) :
    byteAt s.heaterContent (85 + k) = byteAt (orderPlaces s.heater.orders ++ s.heater.magazines.toList.flatMap b16) k ∧
      u16At s.heaterContent (85 + k) = u16At (orderPlaces s.heater.orders ++ s.heater.magazines.toList.flatMap b16) k ∧
      u32At s.heaterContent (85 + k) = u32At (orderPlaces s.heater.orders ++ s.heater.magazines.toList.flatMap b16) k := by
  have length : (s.heater.pockets.toList.flatMap Pocket.bytes ++ b8 s.heater.orders.length).length = 85 := by
    rw [List.length_append, s.pocketBytes_length, b8_length]
  rw [s.heaterContent_eq, ← List.append_assoc, byteAt_skip (by omega), u16At_skip (by omega), u32At_skip (by omega),
    length, Nat.add_sub_cancel_left]
  exact ⟨rfl, rfl, rfl⟩

theorem State.heaterContent_count (s : State) (few : s.heater.orders.length ≤ 8) :
    byteAt s.heaterContent 84 = s.heater.orders.length := by
  rw [s.heaterContent_eq, byteAt_skip s.pocketBytes_length.le, s.pocketBytes_length, Nat.sub_self, byteAt_b8_front]
  exact Nat.mod_eq_of_lt (by omega)

/-- What stands in an order's place. -/
theorem State.heaterContent_order (s : State) {k : Nat} (hk : k < 8) : ∃ rest, ∀ i,
    byteAt s.heaterContent (85 + 4 * k + i) =
        byteAt ((s.heater.orders[k]?.map HeatOrder.bytes).getD (List.replicate 4 0xFF) ++ rest) i ∧
      u16At s.heaterContent (85 + 4 * k + i) =
        u16At ((s.heater.orders[k]?.map HeatOrder.bytes).getD (List.replicate 4 0xFF) ++ rest) i ∧
      u32At s.heaterContent (85 + 4 * k + i) =
        u32At ((s.heater.orders[k]?.map HeatOrder.bytes).getD (List.replicate 4 0xFF) ++ rest) i := by
  obtain ⟨before, after, split, length⟩ :=
    places_split (c := 4) (u := List.replicate 4 0xFF) (es := s.heater.orders.map HeatOrder.bytes) rfl
      (by simp [HeatOrder.bytes_length]) hk
  refine ⟨after ++ s.heater.magazines.toList.flatMap b16, fun i => ?_⟩
  obtain ⟨b, u, w⟩ := s.heaterContent_behind (4 * k + i)
  rw [Nat.add_assoc, b, u, w, orderPlaces, split, List.append_assoc, byteAt_skip (by omega), u16At_skip (by omega),
    u32At_skip (by omega), length, Nat.add_sub_cancel_left, List.append_assoc, List.getElem?_map]
  exact ⟨rfl, rfl, rfl⟩

theorem State.heaterContent_orderFields (s : State) {k : Nat} {o : HeatOrder} (few : s.heater.orders.length ≤ 8)
    (at_k : s.heater.orders[k]? = some o) (joint : o.joint < 65536) :
    byteAt s.heaterContent (85 + 4 * k) = o.cls.code ∧ byteAt s.heaterContent (86 + 4 * k) = o.code.val ∧
      u16At s.heaterContent (87 + 4 * k) = o.joint := by
  obtain ⟨inside, -⟩ := List.getElem?_eq_some_iff.1 at_k
  obtain ⟨rest, read⟩ := s.heaterContent_order (k := k) (by omega)
  rw [at_k, Option.map_some, Option.getD_some] at read
  have cls : o.cls.code % 256 = o.cls.code := by cases o.cls <;> rfl
  have code : o.code.val % 256 = o.code.val := by omega
  have one : 86 + 4 * k = 85 + 4 * k + 1 := by omega
  have two : 87 + 4 * k = 85 + 4 * k + 2 := by omega
  refine ⟨(read 0).1.trans ?_, one ▸ (read 1).1.trans ?_, two ▸ (read 2).2.1.trans ?_⟩
  · simp [HeatOrder.bytes, cls]
  · simp [HeatOrder.bytes, code]
  · simp [HeatOrder.bytes, Nat.mod_eq_of_lt joint]

theorem State.heaterContent_unused (s : State) {k : Nat} (unused : s.heater.orders.length ≤ k) (hk : k < 8) :
    u32At s.heaterContent (85 + 4 * k) = 4294967295 := by
  obtain ⟨rest, read⟩ := s.heaterContent_order hk
  rw [List.getElem?_eq_none unused] at read
  have ones : List.replicate 4 (0xFF : Byte) = b32 4294967295 := by decide
  refine (read 0).2.2.trans ?_
  rw [Option.map_none, Option.getD_none, ones, u32At_b32_front]

theorem State.heaterContent_magazine (s : State) (c : RivetCode) :
    u16At s.heaterContent (117 + 2 * c.val) = s.heater.magazines[c] % 65536 := by
  have place : c.val < s.heater.magazines.toList.length := by simp
  obtain ⟨before, after, split, length⟩ := flatMap_split b16_length place
  have at_c : 117 + 2 * c.val = 85 + (32 + 2 * c.val) := by omega
  rw [at_c, (s.heaterContent_behind _).2.1, u16At_skip (by rw [orderPlaces_length]; omega), orderPlaces_length,
    Nat.add_sub_cancel_left, split, u16At_skip (by omega), length, Nat.sub_self, u16At_b16_front]
  simp

/-! ## EVENT_READ (Table 10-11) -/

theorem Latch.bytes_length (l : Latch) : l.bytes.length = 11 := by
  unfold Latch.bytes
  split <;> simp

/-- A latch entry as fields of one size. -/
theorem Latch.bytes_eq (l : Latch) : l.bytes =
    b8 l.stateCode ++ (mark l.enabled ++ (b8 l.priority.val ++ (b16 ((l.held.map Held.subject).getD 0) ++
      (b32 ((l.held.map (fun r => r.first.toNat)).getD 0) ++ (b8 ((l.held.map (fun r => r.mode.code)).getD 0) ++
        b8 ((l.held.map Held.count).getD 0)))))) := by
  cases held : l.held with
  | none => simp only [Latch.bytes, held, List.append_assoc]; rfl
  | some r => simp [Latch.bytes, held]

theorem State.latchBytes_length (s : State) : (EventKind.all.flatMap (fun k => (s.latch k).bytes)).length = 154 :=
  flatMap_length (c := 11) (fun k => (s.latch k).bytes_length) EventKind.all

/-- The fixed list of queued reports. -/
def reportPlaces (q : List EventKind) : List Byte := places 8 [0xFF] (q.map (fun k => b8 k.index.val))

theorem State.eventContent_eq (s : State) : s.eventContent = EventKind.all.flatMap (fun k => (s.latch k).bytes) ++
    (b8 s.reports.queue.length ++ reportPlaces (sortBy s.rankBefore s.reports.queue)) := by
  simp only [State.eventContent, reportPlaces, List.append_assoc]

theorem State.eventContent_length (s : State) : s.eventContent.length = 163 := by
  have reports : (reportPlaces (sortBy s.rankBefore s.reports.queue)).length = 8 := places_length (c := 1) rfl (by simp)
  simp only [s.eventContent_eq, List.length_append, s.latchBytes_length, b8_length, reports]

/-- What stands in a latch's entry. -/
theorem State.eventContent_latch (s : State) (k : EventKind) : ∃ rest, ∀ i,
    byteAt s.eventContent (11 * k.index.val + i) = byteAt ((s.latch k).bytes ++ rest) i ∧
      u16At s.eventContent (11 * k.index.val + i) = u16At ((s.latch k).bytes ++ rest) i ∧
      u32At s.eventContent (11 * k.index.val + i) = u32At ((s.latch k).bytes ++ rest) i := by
  have place : k.index.val < EventKind.all.length := k.index.isLt
  obtain ⟨before, after, split, length⟩ := flatMap_split (fun k => (s.latch k).bytes_length) place
  have named : EventKind.all[k.index.val] = k := by cases k <;> rfl
  refine ⟨after ++ (b8 s.reports.queue.length ++ reportPlaces (sortBy s.rankBefore s.reports.queue)), fun i => ?_⟩
  rw [s.eventContent_eq, split, named, List.append_assoc, List.append_assoc, byteAt_skip (by omega),
    u16At_skip (by omega), u32At_skip (by omega), length, Nat.add_sub_cancel_left]
  exact ⟨rfl, rfl, rfl⟩

/-- The fields of a latch's entry. -/
theorem State.eventContent_latchFields (s : State) (k : EventKind)
    (range : ∀ r ∈ (s.latch k).held, r.subject < 65536 ∧ r.count < 256) :
    byteAt s.eventContent (11 * k.index.val) = (match (s.latch k).held.map Held.place with
        | none => 0
        | some .heldBack => 1
        | some .queued => 2
        | some .sent => 3) ∧
      byteAt s.eventContent (11 * k.index.val + 1) = (if (s.latch k).enabled then 1 else 0) ∧
      byteAt s.eventContent (11 * k.index.val + 2) = (s.latch k).priority.val ∧
      u16At s.eventContent (11 * k.index.val + 3) = ((s.latch k).held.map Held.subject).getD 0 ∧
      u32At s.eventContent (11 * k.index.val + 5) = ((s.latch k).held.map (fun r => r.first.toNat)).getD 0 ∧
      byteAt s.eventContent (11 * k.index.val + 9) = ((s.latch k).held.map (fun r => r.mode.code)).getD 0 ∧
      byteAt s.eventContent (11 * k.index.val + 10) = ((s.latch k).held.map Held.count).getD 0 := by
  obtain ⟨rest, read⟩ := s.eventContent_latch k
  generalize s.latch k = l at range read ⊢
  rw [l.bytes_eq] at read
  have state : l.stateCode % 256 = l.stateCode := by
    unfold Latch.stateCode
    (repeat' split) <;> rfl
  have enabled : (if l.enabled then 1 else 0) % 256 = if l.enabled then 1 else 0 := by split <;> rfl
  have priority : l.priority.val % 256 = l.priority.val := by omega
  have subject : (l.held.map Held.subject).getD 0 % 65536 = (l.held.map Held.subject).getD 0 :=
    getD_mod (by decide) fun x hx => by
      obtain ⟨r, hr, rfl⟩ := Option.map_eq_some_iff.1 hx
      exact (range r hr).1
  have first := getD_map_mod (d := 0) (n := 4294967296) (by decide) (fun r : Held => r.first.isLt) l.held
  have mode := getD_map_mod (d := 0) (n := 256) (by decide) (fun r : Held => r.mode.code_lt) l.held
  have count : (l.held.map Held.count).getD 0 % 256 = (l.held.map Held.count).getD 0 :=
    getD_mod (by decide) fun x hx => by
      obtain ⟨r, hr, rfl⟩ := Option.map_eq_some_iff.1 hx
      exact (range r hr).2
  refine ⟨(read 0).1.trans ?_, (read 1).1.trans ?_, (read 2).1.trans ?_, (read 3).2.1.trans ?_,
    (read 5).2.2.trans ?_, (read 9).1.trans ?_, (read 10).1.trans ?_⟩
  · rw [List.append_assoc, byteAt_b8_front, state, Latch.stateCode]
    cases l.held with
    | none => rfl
    | some r => cases place : r.place <;> simp [place]
  all_goals simp [mark, enabled, priority, subject, first, mode, count]

/-- The queued reports stand in rank order. -/
theorem State.eventContent_queue (s : State) (few : s.reports.queue.length ≤ 8) :
    byteAt s.eventContent 154 = s.reports.queue.length ∧
      ∀ k, k < 8 → byteAt s.eventContent (155 + k) =
        ((sortBy s.rankBefore s.reports.queue)[k]?.map (fun e => e.index.val)).getD 255 := by
  refine ⟨?_, fun k hk => ?_⟩
  · rw [s.eventContent_eq, byteAt_skip s.latchBytes_length.le, s.latchBytes_length, Nat.sub_self, byteAt_b8_front]
    exact Nat.mod_eq_of_lt (by omega)
  · have length : (EventKind.all.flatMap (fun k => (s.latch k).bytes) ++ b8 s.reports.queue.length).length = 155 := by
      rw [List.length_append, s.latchBytes_length, b8_length]
    obtain ⟨before, after, split, ahead⟩ := places_split (c := 1) (u := [0xFF])
      (es := (sortBy s.rankBefore s.reports.queue).map (fun k => b8 k.index.val)) rfl (by simp) hk
    rw [s.eventContent_eq, ← List.append_assoc, byteAt_skip (by omega), length, Nat.add_sub_cancel_left, reportPlaces,
      split, byteAt_skip (by omega), ahead, Nat.one_mul, Nat.sub_self, List.getElem?_map]
    cases (sortBy s.rankBefore s.reports.queue)[k]? with
    | none => rfl
    | some e => exact (byteAt_b8_front e.index.val after).trans (Nat.mod_eq_of_lt (Fin.val_lt_byte (by decide) e.index))

/-! ## The obligation -/

/-- A rivet wait's two fields (Table 10-8). -/
theorem WaitTimer.fields (w : WaitTimer) : (∀ n, w = .counting n ∨ w = .paused n → n ≤ 6553400) →
    (w.units % 65536, w.status) = (match w with
      | .stopped => (65535, 0)
      | .counting n => ((n + 99) / 100, 1)
      | .paused n => ((n + 99) / 100, 2)) := by
  intro range
  cases w with
  | stopped => rfl
  | counting n =>
    have := hundredsUp_lt (range n (.inl rfl))
    simp only [WaitTimer.units, WaitTimer.status, Nat.mod_eq_of_lt this]
    rfl
  | paused n =>
    have := hundredsUp_lt (range n (.inr rfl))
    simp only [WaitTimer.units, WaitTimer.status, Nat.mod_eq_of_lt this]
    rfl

/-- A channel's presence mask (Table 10-9). -/
theorem Channel.testBit_presence_of_mem (c : Channel) {b : Nat} {present : Bool}
    (mem : (b, present) ∈ [(0, c.lastOutput.isSome), (1, c.lastDepth.isSome), (2, c.peak.isSome), (3, c.valley.isSome),
      (4, c.runStart.isSome), (5, c.entry.isSome), (6, c.layers.isSome), (7, c.exit.isSome), (8, c.ending.isSome),
      (9, c.peakForce.isSome), (10, c.lastStroke.isSome), (11, c.setWork.isSome)]) :
    c.presence.testBit b = present := by
  simp only [List.mem_cons, Prod.mk.injEq, List.not_mem_nil, or_false] at mem
  rcases mem with ⟨rfl, rfl⟩ | ⟨rfl, rfl⟩ | ⟨rfl, rfl⟩ | ⟨rfl, rfl⟩ | ⟨rfl, rfl⟩ | ⟨rfl, rfl⟩ | ⟨rfl, rfl⟩ | ⟨rfl, rfl⟩ |
    ⟨rfl, rfl⟩ | ⟨rfl, rfl⟩ | ⟨rfl, rfl⟩ | ⟨rfl, rfl⟩ <;> exact c.testBit_presence (by decide)

theorem getD_mod_of_lt_pred {o : Option Nat} {n : Nat} (present : ∀ x ∈ o, x < n) : o.getD n % (n + 1) = o.getD n :=
  getD_mod (Nat.lt_succ_self n) fun x hx => Nat.lt_succ_of_lt (present x hx)

/-- Settles O7: each content is a row of fields of known sizes, each read behind those that stand before it. -/
theorem replyContents : Obligations.ReplyContents := by
  refine ⟨fun s => ⟨Joint.content_length, s.stationContent_length, s.statusContent_length, s.headContent_length,
    s.channelContent_length, s.heaterContent_length, s.eventContent_length⟩, fun s => s.stationContent_fields, ?_, ?_, ?_,
    ?_, ?_, ?_⟩
  · intro i j index valid corrected reworks entry exit grip layers pecks boundaries work force
    obtain ⟨f0, f14, f15, f19, f20, f21, f22, f23, f24, f25, f27, f29, f31, f32⟩ := Joint.content_front i j
    obtain ⟨f47, f49, f50, f52, f54⟩ := Joint.content_result i j work force
    have layers' : ∀ n ∈ j.result.layers, n < 255 := fun n hn => Nat.lt_of_le_of_lt (layers n hn) (by decide)
    have count : ∀ n ∈ j.result.boundaries.map List.length, n < 255 := fun n hn => by
      obtain ⟨l, hl, rfl⟩ := Option.map_eq_some_iff.1 hn
      exact Nat.lt_of_le_of_lt (boundaries l hl).1 (by decide)
    refine ⟨f0.trans (Nat.mod_eq_of_lt index), j.content_identity i, f14, f15.trans (getD_mod_of_lt_pred corrected), f19,
      f20, f21, f22, f23.trans (Nat.mod_eq_of_lt (by omega)), f24, f25.trans (getD_mod_of_lt_pred entry),
      f27.trans (getD_mod_of_lt_pred exit), f29.trans (getD_mod_of_lt_pred grip), f31.trans (getD_mod_of_lt_pred layers'),
      f32.trans (getD_mod_of_lt_pred count), fun k hk => (j.content_boundary i hk).trans ?_,
      f47.trans (getD_mod_of_lt_pred pecks), f49, f50, f52, f54⟩
    refine Nat.mod_eq_of_lt ?_
    rw [List.getD_eq_getElem?_getD]
    refine getD_lt (by decide) fun d hd => ?_
    cases present : j.result.boundaries with
    | none => simp [present] at hd
    | some l => exact (boundaries l present).2 d (by simpa [present] using List.mem_of_getElem? hd)
  · intro s joints requests errors overruns
    obtain ⟨f0, f1, f2, f3, f4, f22, f26, f27, f29, f31⟩ := s.statusContent_fields requests joints
    exact ⟨f0, f1, f2, f3, f4, f22, f26, f27.trans (Nat.mod_eq_of_lt errors), f29.trans (Nat.mod_eq_of_lt overruns), f31⟩
  · intro s h x l is content held position target a b buffer deepest start counter timer wait fault claims drills permits
    subst is content
    obtain ⟨f0, f1, f2, f3, f5, f9, f13, f14, f16, f18, f19, f21, f23, f25, f27, f29, f30, f32, f34⟩ :=
      s.headContent_front h
    obtain ⟨f45, f46, f50, f54, f55, f56, f57, f58⟩ := s.headContent_back h drills permits
    have bufferA : ∀ n ∈ (s.head h).buffered.map PeckProfile.a, n < 65536 := fun n hn => by
      obtain ⟨q, hq, rfl⟩ := Option.map_eq_some_iff.1 hn
      exact (buffer q hq).1
    have bufferB : ∀ n ∈ (s.head h).buffered.map PeckProfile.b, n < 65536 := fun n hn => by
      obtain ⟨q, hq, rfl⟩ := Option.map_eq_some_iff.1 hn
      exact (buffer q hq).2
    have lo : ∀ n ∈ (s.claim h).map Claim.lo, n < 4294967295 := fun n hn => by
      obtain ⟨c, hc, rfl⟩ := Option.map_eq_some_iff.1 hn
      exact (claims c hc).1
    have hi : ∀ n ∈ (s.claim h).map Claim.hi, n < 4294967295 := fun n hn => by
      obtain ⟨c, hc, rfl⟩ := Option.map_eq_some_iff.1 hn
      exact (claims c hc).2
    refine ⟨f0, f1, f2, f3.trans (getD_mod_of_lt_pred held), f5.trans (getD_mod_of_lt_pred position),
      f9.trans (getD_mod_of_lt_pred target), f13, f14.trans (Nat.mod_eq_of_lt a), f16.trans (Nat.mod_eq_of_lt b), f18,
      f19.trans (getD_mod (by decide) bufferA), f21.trans (getD_mod (by decide) bufferB),
      f23.trans (Nat.mod_eq_of_lt deepest), f25.trans (Nat.mod_eq_of_lt start), f27.trans (Nat.mod_eq_of_lt counter), f29,
      f30.trans (getD_mod_of_lt_pred timer), ?_, fun none => ?_, fun f present => ?_, f45,
      f46.trans (getD_mod_of_lt_pred lo), f50.trans (getD_mod_of_lt_pred hi), f54.trans (s.drillChannelOf_val h), f55, f56,
      f57.trans (s.permitOf_val h), f58⟩
    · rw [f32, f34]
      exact (s.head h).rivetWait.fields wait
    · rw [s.headContent_fault, none]
      rfl
    · obtain ⟨g35, g36, g37, g38, g39, g41⟩ := s.headContent_faultFields h present
      refine ⟨g35, ?_, g38, g39.trans (getD_mod_of_lt_pred (fault f present)), g41⟩
      rw [g36, g37]
      cases f.cause <;> rfl
  · intro s n c l is content range reach joint queue
    subst is content
    obtain ⟨f50, f52, f54, f56, f58, f60, f61, f63, f65, f66⟩ := s.channelContent_figures n range reach
    obtain ⟨-, count, ring, -, -, -, force, work, -⟩ := range
    obtain ⟨-, stroke, -, -, -, boundaries, exit⟩ := reach
    obtain ⟨f0, f1, f2, f3, f4, f6⟩ := s.channelContent_front n ring joint
    obtain ⟨f38, f39, f41, f46, f47, f48⟩ := s.channelContent_counts n count
    obtain ⟨f67, f81, f83⟩ := s.channelContent_back n boundaries exit
    refine ⟨f0, f1, f2, f3, f4, f6, f38, f39, f41, f46, f47, fun b present mem => ?_, ?_, f50, f52, f54, f56, f58, f60, f61,
      f63, f65, f66, f67, f81, f83, fun drill => s.channelContent_drill drill queue,
      fun set => s.channelContent_set set force work stroke⟩
    · rw [f48, Channel.testBit_presence_of_mem _ mem]
    · rw [f48]
      exact Channel.presence_lt _
  · intro s timers owners few joints magazines
    refine ⟨fun p => s.heaterContent_pocketFields p (timers p) (owners p), s.heaterContent_count few,
      fun k o at_k => s.heaterContent_orderFields few at_k (joints o (List.mem_of_getElem? at_k)),
      fun k unused hk => s.heaterContent_unused unused hk,
      fun c => (s.heaterContent_magazine c).trans (Nat.mod_eq_of_lt (magazines c))⟩
  · intro s range few distinct
    obtain ⟨count, places⟩ := s.eventContent_queue few
    exact ⟨fun k => s.eventContent_latchFields k (range k), count, sortBy s.rankBefore s.reports.queue, sortBy_perm _ _,
      s.sortBy_rankBefore distinct, places⟩

end Sys2Proof.Machine
end

section
/-! O9: a JOINT_LOAD batch is cut into records, read one after another against the ids taken so far, and appended whole
or refused at its first failing record (R9, R10). -/

namespace Sys2Proof.Machine
set_option Elab.async false

/-! ## Cutting a payload into records -/

theorem recordsOf_cons {size : Nat} {r : List Byte} (length : r.length = size) (n : Nat) (p : List Byte) :
    recordsOf size (n + 1) (r ++ p) = r :: recordsOf size n p := by
  subst length
  have behind (k : Nat) : (r ++ p).drop (r.length * (k + 1)) = p.drop (r.length * k) := by
    rw [Nat.mul_succ, Nat.add_comm, ← List.drop_drop, List.drop_left]
  simp [recordsOf, List.range_succ_eq_map, Function.comp_def, behind]

theorem recordsOf_flatMap {α : Type} {g : α → List Byte} {size : Nat} (length : ∀ x, (g x).length = size) (l : List α)
    (n : Nat) (p : List Byte) : recordsOf size (l.length + n) (l.flatMap g ++ p) = l.map g ++ recordsOf size n p := by
  induction l with
  | nil => simp
  | cons x l ih =>
    rw [List.length_cons, Nat.add_right_comm, List.flatMap_cons, List.append_assoc, recordsOf_cons (length x), ih,
      List.map_cons, List.cons_append]

/-! ## Reading a batch (R9, R10) -/

/-- Good records in front of a batch are read, their ids being taken for what follows. -/
theorem readBatch_append {ds : List JointIdentity} {ids : List Nat} (valid : ∀ d ∈ ds, d.Valid)
    (distinct : (ds.map (·.id)).Nodup) (fresh : ∀ d ∈ ds, d.id ∉ ids) (k : Nat) (rs : List (List Byte)) :
    readBatch ids k (ds.map JointIdentity.bytes ++ rs) =
      (readBatch ((ds.map (·.id)).reverse ++ ids) (k + ds.length) rs).map (ds ++ ·) := by
  induction ds generalizing ids k with
  | nil => simp only [List.map_nil, List.nil_append, List.reverse_nil, List.length_nil, Nat.add_zero]
           cases readBatch ids k rs <;> rfl
  | cons d ds ih =>
    rw [List.map_cons, List.nodup_cons] at distinct
    have others : ∀ e ∈ ds, e.id ∉ d.id :: ids := fun e mem => by
      rw [List.mem_cons, not_or]
      exact ⟨fun same => distinct.1 (List.mem_map.2 ⟨e, mem, same⟩), fresh e (List.mem_cons_of_mem d mem)⟩
    simp only [List.map_cons, List.cons_append, readBatch, loadRecord_bytes (valid d List.mem_cons_self),
      if_neg (fresh d List.mem_cons_self), ih (fun e mem => valid e (List.mem_cons_of_mem d mem)) distinct.2 others,
      List.reverse_cons, List.append_assoc, List.nil_append, List.length_cons, Nat.add_assoc, Nat.add_comm 1 ds.length]
    cases readBatch ((ds.map (·.id)).reverse ++ d.id :: ids) (k + (ds.length + 1)) rs <;> rfl

/-- A record fails by its fields or by an id that is taken, and with it the batch. -/
theorem readBatch_bad {ids : List Nat} {r : List Byte} (bad : ∀ d, loadRecord r = some d → d.id ∈ ids) (k : Nat)
    (rs : List (List Byte)) : readBatch ids k (r :: rs) = .error k := by
  cases read : loadRecord r with
  | none => simp only [readBatch, read]
  | some d => simp only [readBatch, read, if_pos (bad d read)]

theorem State.readBatch_joints {s : State} {ds : List JointIdentity} (valid : ∀ d ∈ ds, d.Valid)
    (distinct : (ds.map (·.id)).Nodup) (fresh : ∀ d ∈ ds, ∀ j ∈ s.table.joints, j.identity.id ≠ d.id) (k : Nat) (rs : List (List Byte)) :
    readBatch (s.table.joints.map (·.identity.id)) k (ds.map JointIdentity.bytes ++ rs) =
      (readBatch ((ds.map (·.id)).reverse ++ s.table.joints.map (·.identity.id)) (k + ds.length) rs).map (ds ++ ·) :=
  readBatch_append valid distinct (fun d mem taken => by
    obtain ⟨j, hj, same⟩ := List.mem_map.1 taken
    exact fresh d mem j hj same) k rs

/-! ## The request (R9) -/

theorem loadLength_iff {p : List Byte} : loadLength p = true ↔ p.length ≠ 0 ∧ p.length % 12 = 0 ∧ p.length ≤ 228 := by
  simp only [loadLength, Bool.and_eq_true, bne_iff_ne, beq_iff_eq, and_assoc]
  exact and_congr_right fun _ => and_congr_right fun _ => decide_eq_true_iff

section Batch

variable {s : State} {ds : List JointIdentity} (setup : s.mode = .setup) (valid : ∀ d ∈ ds, d.Valid)
  (distinct : (ds.map (·.id)).Nodup) (fresh : ∀ d ∈ ds, ∀ j ∈ s.table.joints, j.identity.id ≠ d.id)
include setup

theorem State.answer_jointLoad {p : List Byte} (length : loadLength p = true) : s.answer p .jointLoad =
    match readBatch (s.table.joints.map (·.identity.id)) 0 (recordsOf 12 (p.length / 12) p) with
    | .error k => refuseAt s k
    | .ok ds =>
      if Config.maxJoints < s.table.joints.length + ds.length then refuse s .full
      else
        done (s.setJoints (s.table.joints ++ ds.map JointIdentity.loaded))
          (b16 s.table.joints.length ++ b16 (s.table.joints.length + ds.length)) := by
  simp only [State.answer, State.jointLoad, setup, length, ne_eq, not_true_eq_false, if_false, Bool.true_eq_false] <;> rfl

theorem State.answer_jointLoad_badLength {p : List Byte} (length : loadLength p = false) :
    s.answer p .jointLoad = ⟨s, .badLength, []⟩ := by
  simp only [State.answer, State.jointLoad, setup, length, ne_eq, not_true_eq_false, if_false, if_true, refuse]

theorem State.setJoints_setup (js : List Joint) : s.setJoints js =
    { s with table := { s.table with joints := js, currentPass := currentPassOf js } } :=
  State.recompute_quiet (s := { s with table := { s.table with joints := js } })
    (by show s.mode ≠ _; rw [setup]; decide) _

include valid distinct fresh

theorem State.answer_jointLoad_good (some' : 1 ≤ ds.length) (most : ds.length ≤ 19) :
    s.answer (ds.flatMap JointIdentity.bytes) .jointLoad =
      if 1024 < s.table.joints.length + ds.length then ⟨s, .full, []⟩
      else
        ⟨{ s with table := { s.table with
            joints := s.table.joints ++ ds.map JointIdentity.loaded
            currentPass := currentPassOf (s.table.joints ++ ds.map JointIdentity.loaded) } }, .ok,
          b16 s.table.joints.length ++ b16 (s.table.joints.length + ds.length)⟩ := by
  have length := flatMap_length JointIdentity.bytes_length ds
  have cut : recordsOf 12 ds.length (ds.flatMap JointIdentity.bytes) = ds.map JointIdentity.bytes ++ [] := by
    simpa [recordsOf] using recordsOf_flatMap JointIdentity.bytes_length ds 0 []
  rw [State.answer_jointLoad setup (loadLength_iff.2 (by omega)), length, Nat.mul_div_cancel_left _ (by decide), cut,
    State.readBatch_joints valid distinct fresh]
  simp only [readBatch, Except.map, List.append_nil, Config.maxJoints, refuse, done, State.setJoints_setup setup]

theorem State.answer_jointLoad_bad {bad rest : List Byte} (length : bad.length = 12) (whole : rest.length % 12 = 0)
    (most : 12 * ds.length + 12 + rest.length ≤ 228)
    (fails : ∀ d, loadRecord bad = some d → (∃ j ∈ s.table.joints, j.identity.id = d.id) ∨ ∃ e ∈ ds, e.id = d.id) :
    s.answer (ds.flatMap JointIdentity.bytes ++ bad ++ rest) .jointLoad = ⟨s, .badField, b8 ds.length⟩ := by
  have total : (ds.flatMap JointIdentity.bytes ++ bad ++ rest).length = 12 * ds.length + 12 + rest.length := by
    simp [flatMap_length JointIdentity.bytes_length, length, Nat.add_assoc]
  have count : (12 * ds.length + 12 + rest.length) / 12 = ds.length + (rest.length / 12 + 1) := by omega
  have taken : ∀ d, loadRecord bad = some d →
      d.id ∈ (ds.map (·.id)).reverse ++ s.table.joints.map (·.identity.id) := fun d read => by
    rw [List.mem_append, List.mem_reverse, List.mem_map, List.mem_map]
    exact (fails d read).symm
  rw [State.answer_jointLoad setup (loadLength_iff.2 (by omega)), total, count, List.append_assoc,
    recordsOf_flatMap JointIdentity.bytes_length, recordsOf_cons length,
    State.readBatch_joints valid distinct fresh, readBatch_bad taken]
  simp only [Except.map, refuseAt, Nat.zero_add]

end Batch

/-- Settles O9. -/
theorem jointLoadTaken : Obligations.JointLoadTaken := by
  refine ⟨fun s tag ds ready setup some' most valid distinct fresh => ?_, fun s tag ready setup => ⟨fun p length => ?_,
    fun ds bad rest valid distinct fresh length whole most fails => ?_⟩⟩
  · have answer := State.answer_jointLoad_good (s := s.cleared) setup valid distinct fresh some' most
    refine ⟨fun fits => ?_, fun full => ?_⟩
    · exact State.request_replies ready .jointLoad tag _ (answer.trans (if_neg (by exact Nat.not_lt.2 fits))) rfl
    · exact State.request_refused ready .jointLoad tag _ (answer.trans (if_pos full))
  · refine State.request_refused ready .jointLoad tag _ (State.answer_jointLoad_badLength (s := s.cleared) setup ?_)
    rw [← Bool.not_eq_true, loadLength_iff]
    omega
  · exact State.request_refused ready .jointLoad tag _
      (State.answer_jointLoad_bad (s := s.cleared) setup valid distinct fresh length whole most fails)

end Sys2Proof.Machine
end

section
/-! O12, O13 and O14: rework, clearing and the datum table (R11, R15 to R17), the station settings with the parking of
the heads (R30, R67, R184), the permissive flags (R38) and RESTART (R159). -/

namespace Sys2Proof.Machine
set_option Elab.async false

/-- A request in a ready state gives what its answer gives, with the reply delivered, as long as the answer leaves the
controller nothing to take. -/
theorem State.request_answered {s : State} (h : s.Ready) (k : RequestKind) (tag : Byte) (p : List Byte) {t : State}
    {st : Status} {c : List Byte} (e : s.cleared.answer p k = ⟨t, st, c⟩) (rests : t.ControllerRests) :
    exec (k.command tag p) s = .next (t.withReply ⟨k.code, tag, st, c⟩) := by
  rw [exec_request, State.hostRequest_reply h, e]
  rw [e]
  exact rests

/-! ## Rework (R15, R16) -/

theorem correctedOf_eq_some {datum : Vector Int 16} {railLength x : Nat} {d : JointIdentity} :
    correctedOf datum railLength d = some x ↔ (x : Int) = d.nominal + datum[d.zone] ∧ x ≤ railLength := by
  unfold correctedOf
  split
  · rw [Option.some.injEq]; omega
  · simp only [reduceCtorEq, false_iff]; omega

theorem correctedOf_eq_none {datum : Vector Int 16} {railLength : Nat} {d : JointIdentity} :
    correctedOf datum railLength d = none ↔
      (d.nominal : Int) + datum[d.zone] < 0 ∨ (railLength : Int) < d.nominal + datum[d.zone] := by
  unfold correctedOf
  split
  · simp only [reduceCtorEq, false_iff]; omega
  · simp only [true_iff]; omega

theorem Joint.canRework_of_marked {j : Joint} {r : Reason} (rejected : j.state = .rejected)
    (marked : j.rejection = some ⟨r, true⟩) : j.canRework = true := by
  simp [Joint.canRework, rejected, marked]

theorem Joint.canRework_eq_false {j : Joint}
    (h : j.state ≠ .rejected ∨ ∀ r ∈ j.rejection, r.reworkable = false) : j.canRework = false := by
  rcases h with other | unmarked
  · simp [Joint.canRework, other]
  · cases e : j.rejection with
    | none => simp [Joint.canRework, e]
    | some r => simp [Joint.canRework, e, unmarked r e]

theorem State.reworkPosition_kept {s : State} {j : Joint} (h : s.mode = .setup ∨ j.corrected ≠ none) :
    s.reworkPosition j = some j.corrected := by
  refine if_neg fun c => ?_
  rcases h with setup | kept
  · exact absurd (setup.symm.trans c.1) (by decide)
  · exact kept c.2

theorem State.reworkPosition_armed {s : State} {j : Joint} (armed : s.mode = .armed) (absent : j.corrected = none) :
    s.reworkPosition j = (correctedOf s.table.datum s.station.railLength j.identity).map some :=
  if_pos ⟨armed, absent⟩

section Rework

variable {s : State} {i : Nat} {j : Joint} (mode : s.mode = .setup ∨ s.mode = .armed) (hi : i < 65536)
  (hj : s.joint? i = some j)
include mode hi hj

theorem State.answer_jointRework : s.answer (b16 i) .jointRework =
    if j.canRework = false then refuse s .notReworkable
    else if 3 ≤ j.reworks then refuse s .reworkLimit
    else
      match s.reworkPosition j with
      | none => refuse s .notReworkable
      | some c => done (s.changeJoint i (Joint.rework c)) [] := by
  have modeOk : (s.mode == .setup || s.mode == .armed) = true := by simpa using mode
  simp only [State.answer, State.jointRework, modeOk, checked_passes (b16_length i), u16At_b16_alone hi, hj,
    Config.maxReworks] <;> rfl

theorem State.answer_jointRework_taken {c : Option Nat} (can : j.canRework = true) (below : j.reworks < 3)
    (position : s.reworkPosition j = some c) : s.answer (b16 i) .jointRework =
      ⟨{ s with table := { s.table with
          joints := s.table.joints.set i (j.rework c)
          currentPass := currentPassOf (s.table.joints.set i (j.rework c)) } }, .ok, []⟩ := by
  have notRunning : s.mode ≠ .running := by rcases mode with e | e <;> rw [e] <;> decide
  simp only [State.answer_jointRework mode hi hj, can, Bool.true_eq_false, if_false, if_neg (Nat.not_le.2 below),
    position, done, State.changeJoint_quiet hj notRunning]

theorem State.answer_jointRework_refused (bad : j.canRework = false ∨ j.reworks < 3 ∧ s.reworkPosition j = none) :
    s.answer (b16 i) .jointRework = ⟨s, .notReworkable, []⟩ := by
  rw [State.answer_jointRework mode hi hj]
  split
  · rfl
  · next can =>
    obtain ⟨below, outside⟩ := bad.resolve_left can
    rw [if_neg (Nat.not_le.2 below), outside]
    rfl

theorem State.answer_jointRework_limit (can : j.canRework = true) (spent : 3 ≤ j.reworks) :
    s.answer (b16 i) .jointRework = ⟨s, .reworkLimit, []⟩ := by
  simp only [State.answer_jointRework mode hi hj, can, Bool.true_eq_false, if_false, if_pos spent, refuse]

end Rework

/-! ## Clearing and the datum table (R11, R17) -/

section Setup

variable {s : State} (setup : s.mode = .setup)
include setup

theorem State.answer_jointClear : s.answer [] .jointClear =
    ⟨{ s with table := { s.table with joints := [], currentPass := none } }, .ok, []⟩ := by
  have modeOk : (s.mode == .setup) = true := beq_iff_eq.2 setup
  simp only [State.answer, State.jointClear, modeOk, checked_passes (p := []) List.length_nil, done,
    State.setJoints_setup setup]
  rfl

theorem State.answer_datumSet {n : Nat} {x : Int} (hn : n < 256) (hx : InSixteen x) :
    s.answer (b8 n ++ bs16 x) .datumSet =
      match finOf 16 n with
      | none => refuse s .badField
      | some z => if -2000 ≤ x ∧ x ≤ 2000 then done (s.setDatum z x) [] else refuse s .badField := by
  have modeOk : (s.mode == .setup) = true := beq_iff_eq.2 setup
  simp only [State.answer, State.datumSet, modeOk, checked_passes (n := 3) (p := b8 n ++ bs16 x) rfl, byteAt_b8 hn,
    s16At_bs16 hx] <;> rfl

theorem State.answer_datumSet_refused {n : Nat} {x : Int} (hn : n < 256) (hx : InSixteen x)
    (bad : 16 ≤ n ∨ x < -2000 ∨ 2000 < x) : s.answer (b8 n ++ bs16 x) .datumSet = ⟨s, .badField, []⟩ := by
  rw [State.answer_datumSet setup hn hx]
  split
  · rfl
  · next z named =>
    have := finOf_eq_some.1 named
    rw [if_neg (by omega)]
    rfl

end Setup

/-- Settles O12. -/
theorem tableAndReworkTaken : Obligations.TableAndReworkTaken := by
  refine ⟨fun s tag i ready mode hi => ⟨fun j r c hj rejected marked below position => ?_, fun j hj bad => ?_,
    fun j r hj rejected marked spent => ?_, fun j r hj rejected marked below armed absent outside => ?_⟩,
    fun s tag ready setup => ⟨?_, fun z x least most => ?_, fun n x hn hx bad => ?_⟩⟩
  · have found : s.cleared.reworkPosition j = some c := by
      rcases position with ⟨rfl, kept⟩ | ⟨armed, absent, x, rfl, formed, onRail⟩
      · exact State.reworkPosition_kept (s := s.cleared) kept
      · rw [State.reworkPosition_armed (s := s.cleared) armed absent,
          show correctedOf s.cleared.table.datum s.cleared.station.railLength j.identity = some x from
            correctedOf_eq_some.2 ⟨formed, onRail⟩]
        rfl
    exact State.request_replies ready .jointRework tag _ (State.answer_jointRework_taken (s := s.cleared) mode hi hj
      (Joint.canRework_of_marked rejected marked) below found) rfl
  · exact State.request_refused ready .jointRework tag _
      (State.answer_jointRework_refused (s := s.cleared) mode hi hj (.inl (Joint.canRework_eq_false bad)))
  · exact State.request_refused ready .jointRework tag _ (State.answer_jointRework_limit (s := s.cleared) mode hi hj
      (Joint.canRework_of_marked rejected marked) spent)
  · have none' : s.cleared.reworkPosition j = none := by
      rw [State.reworkPosition_armed (s := s.cleared) armed absent,
        show correctedOf s.cleared.table.datum s.cleared.station.railLength j.identity = none from
          correctedOf_eq_none.2 outside]
      rfl
    exact State.request_refused ready .jointRework tag _
      (State.answer_jointRework_refused (s := s.cleared) mode hi hj (.inr ⟨below, none'⟩))
  · exact State.request_replies ready .jointClear tag _ (State.answer_jointClear (s := s.cleared) setup) rfl
  · have byte : z.val < 256 := by omega
    have answer := State.answer_datumSet (s := s.cleared) setup (n := z.val) (x := x) byte (by constructor <;> omega)
    simp only [finOf_val, if_pos (And.intro least most)] at answer
    exact State.request_replies ready .datumSet tag _ answer rfl
  · exact State.request_refused ready .datumSet tag _ (State.answer_datumSet_refused (s := s.cleared) setup hn hx bad)

/-! ## The station settings (R30, R67, R184) -/

theorem StationSettings.valid_iff (t : StationSettings) : t.valid = true ↔
    10000 ≤ t.railLength ∧ t.railLength ≤ 1048575 ∧ 10000 ≤ t.clearance ∧ t.clearance ≤ 150000 ∧
      t.clearance ≤ t.railLength ∧
      (∀ n ∈ [t.homeTime, t.travelTime, t.clampTime, t.drillTime, t.retractTime, t.feedTime, t.setTime, t.releaseTime],
        1 ≤ n ∧ n ≤ 60000) ∧
      (∀ n ∈ [t.loadTime, t.ejectTime], 1000 ≤ n ∧ n ≤ 20000) ∧ 10 ≤ t.rivetWaitLimit ∧ t.rivetWaitLimit ≤ 6000 := by
  simp only [StationSettings.valid, Bool.and_eq_true, within_iff, decide_eq_true_eq, List.forall_mem_cons,
    List.not_mem_nil, false_implies, implies_true, and_true]
  tauto

/-- Settings whose fields fit their places are read back, whether in range or not. -/
theorem settingsOf_bytes_of_fits {t : StationSettings} (railLength : t.railLength < 4294967296)
    (clearance : t.clearance < 4294967296)
    (times : ∀ n ∈ [t.homeTime, t.travelTime, t.clampTime, t.drillTime, t.retractTime, t.feedTime, t.setTime,
      t.releaseTime, t.loadTime, t.ejectTime, t.rivetWaitLimit], n < 65536) : settingsOf t.bytes = t := by
  obtain ⟨l, c, h, tr, cl, dr, re, fe, se, rl, lo, ej, ri⟩ := t
  simp only [List.forall_mem_cons, List.not_mem_nil, false_implies, implies_true, and_true] at railLength clearance times
  simp only [settingsOf, StationSettings.bytes, StationSettings.mk.injEq, List.append_assoc, u32At_b32_front,
    u32At_skip_b32, u16At_skip_b32, u16At_skip_b16, u16At_b16_front, u16At_b16_last]
  omega

theorem State.answer_stationSet {s : State} (setup : s.mode = .setup) (t : StationSettings) :
    s.answer t.bytes .stationSet =
      if (settingsOf t.bytes).valid then
        done (((s.takeSettings (settingsOf t.bytes)).dropClaims.parkWhere HeadState.online).dropPositions) []
      else refuse s .badField := by
  have modeOk : (s.mode == .setup) = true := beq_iff_eq.2 setup
  simp only [State.answer, State.stationSet, modeOk, checked_passes t.bytes_length]

/-- States with the same pieces are the same. -/
theorem State.eq_of_pieces {s t : State} (blocks : s.table = t.table ∧ s.dispatcher = t.dispatcher ∧
      s.signature = t.signature ∧ s.heater = t.heater ∧ s.arbiter = t.arbiter ∧ s.control = t.control ∧
      s.reports = t.reports ∧ s.link = t.link ∧ s.time = t.time ∧ s.pending = t.pending)
    (heads : ∀ h, s.head h = t.head h) (outgoing : s.outgoing = t.outgoing) : s = t := by
  obtain ⟨table, dispatcher, signature, heater, arbiter, control, reports, link, time, pending⟩ := blocks
  have same : s.heads = t.heads := Vector.ext fun i hi => heads ⟨i, hi⟩
  cases s
  cases t
  simp_all

/-- What the changes of one head after another put on the ports, each deciding by its own head's record. -/
theorem State.foldl_outgoing {f : State → HeadNo → State} {sent : HeadNo → Head → List PortOrder}
    (others : ∀ (t : State) h g, h ≠ g → (f t h).head g = t.head g)
    (each : ∀ (t : State) h, (f t h).outgoing = t.outgoing ++ sent h (t.head h)) {l : List HeadNo} (distinct : l.Nodup)
    (s : State) : (l.foldl f s).outgoing = s.outgoing ++ l.flatMap (fun h => sent h (s.head h)) := by
  induction l generalizing s with
  | nil => simp
  | cons h l ih =>
    obtain ⟨out, distinct⟩ := List.nodup_cons.1 distinct
    have behind : l.flatMap (fun g => sent g ((f s h).head g)) = l.flatMap (fun g => sent g (s.head g)) := by
      refine List.flatMap_congr fun g mem => ?_
      rw [others s h g (fun e => out (e ▸ mem))]
    rw [List.foldl_cons, ih distinct, each, behind, List.flatMap_cons, List.append_assoc]

/-- What is sent to some heads, as the chosen ones in turn. -/
theorem flatMap_headNos_ite {α : Type} (c : HeadNo → Bool) (g : HeadNo → α) :
    headNos.flatMap (fun h => if c h then [g h] else []) = (headNos.filter c).map g := by
  induction headNos with
  | nil => rfl
  | cons h l ih => cases e : c h <;> simp [List.flatMap_cons, e, ih]

theorem State.park_outgoing (s : State) (h : HeadNo) :
    (s.park h).outgoing = s.outgoing ++ if (s.head h).state = .homing then [.drive h .stop] else [] := by
  unfold State.park State.stopHoming
  split <;> simp [State.modHead, State.setHead, State.sendDrive]

/-- Of the parked heads the homing ones are sent STOP (R67). -/
theorem State.parkWhere_outgoing (s : State) (which : HeadState → Bool) :
    (s.parkWhere which).outgoing = s.outgoing ++
      (headNos.filter (fun h => which (s.head h).state && (s.head h).state == .homing)).map (fun h => .drive h .stop) := by
  have each (t : State) (h : HeadNo) : (if which (t.head h).state then t.park h else t).outgoing = t.outgoing ++
      if which (t.head h).state && (t.head h).state == .homing then [.drive h .stop] else [] := by
    split
    next parked => rw [State.park_outgoing, parked]; simp
    next kept => simp [kept]
  have others (t : State) (h g : HeadNo) (other : h ≠ g) :
      (if which (t.head h).state then t.park h else t).head g = t.head g := by
    split
    · rw [State.park_head, if_neg other]
    · rfl
  rw [State.parkWhere, State.foldl_outgoing (sent := fun h x =>
    if which x.state && x.state == .homing then [.drive h .stop] else []) others each headNos_nodup, flatMap_headNos_ite]

/-- The settings taken, with the claims and positions discarded and the heads parked. -/
theorem State.stationTaken_eq (s : State) (t : StationSettings) :
    ((s.takeSettings t).dropClaims.parkWhere HeadState.online).dropPositions =
      { s with
        link := { s.link with settings := some t }
        control := { s.control with stationMark := true }
        dispatcher := { s.dispatcher with claims := Vector.replicate 4 none }
        heads := s.heads.map (fun x =>
          if x.state = .offline then { x with position := none }
          else { x with state := .parked, phaseTimer := none, order := none, position := none })
        outgoing := s.outgoing ++ (headNos.filter (fun h => (s.head h).state == .homing)).map (fun h => .drive h .stop) } := by
  have frame := (s.takeSettings t).dropClaims.parkWhere_frame HeadState.online
  have parked (h : HeadNo) : (((s.takeSettings t).dropClaims.parkWhere HeadState.online).head h) =
      if HeadState.online (s.head h).state then (s.head h).inPark else s.head h :=
    (s.takeSettings t).dropClaims.parkWhere_head HeadState.online h
  have sent : ((s.takeSettings t).dropClaims.parkWhere HeadState.online).outgoing = s.outgoing ++
      (headNos.filter (fun h => HeadState.online (s.head h).state && (s.head h).state == .homing)).map
        (fun h => .drive h .stop) :=
    (s.takeSettings t).dropClaims.parkWhere_outgoing HeadState.online
  generalize (s.takeSettings t).dropClaims.parkWhere HeadState.online = u at frame parked sent
  obtain ⟨table, dispatcher, signature, heater, arbiter, control, reports, link, time, pending⟩ := frame
  refine State.eq_of_pieces ⟨table, dispatcher, signature, heater, arbiter, control, reports, link, time, pending⟩
    (fun h => ?_) (sent.trans ?_)
  · have at' := parked h
    simp only [State.head, State.dropPositions, Fin.getElem_fin, Vector.getElem_map] at at' ⊢
    rw [at']
    by_cases off : (s.heads[h.val]).state = .offline <;> simp [HeadState.online, off, Head.inPark]
  · have same (h : HeadNo) : (HeadState.online (s.head h).state && (s.head h).state == .homing) =
        ((s.head h).state == .homing) := by cases (s.head h).state <;> rfl
    simp only [same]

/-- Settles O13. -/
theorem stationSetTakes : Obligations.StationSetTakes := by
  refine ⟨StationSettings.valid_iff, fun s tag t ready setup rail clear => ⟨fun valid => ?_,
    fun invalid home travel clamp drill retract feed set release load eject wait => ?_⟩⟩
  · have answer := State.answer_stationSet (s := s.cleared) setup t
    rw [settingsOf_bytes valid, if_pos valid, State.stationTaken_eq] at answer
    exact State.request_answered ready .stationSet tag _ answer ready.1.1
  · have read : settingsOf t.bytes = t := settingsOf_bytes_of_fits rail clear (by simp_all)
    have answer := State.answer_stationSet (s := s.cleared) setup t
    rw [read, if_neg (by simp [invalid])] at answer
    exact State.request_refused ready .stationSet tag _ answer

end Sys2Proof.Machine
end

section
/-! O14, O18 and O19: the permissive flags and RESTART (R38, R159), the filter settings (R96), and the rivet data
(R100 to R102). -/

namespace Sys2Proof.Machine
set_option Elab.async false

/-! ## Flags and RESTART (R38, R159) -/

theorem maskFlags_eq {m v : Nat} {f g : Vector Bool 4}
    (h : ∀ k : Fin 4, f[k] = if m.testBit k then v.testBit k else g[k]) : maskFlags m v g = f := by
  refine Vector.ext fun i hi => ?_
  have at' := h ⟨i, hi⟩
  simp only [Fin.getElem_fin] at at'
  rw [at']
  interval_cases i <;> rfl

section Flags

variable {s : State} {m v : Nat} (hm : m < 256) (hv : v < 256)
include hm hv

theorem State.answer_permissiveSet : s.answer (b8 m ++ b8 v) .permissiveSet =
    if m < 16 ∧ v < 16 then
      done (if maskFlags m v s.dispatcher.flags = s.dispatcher.flags then s
        else (s.setFlags (maskFlags m v s.dispatcher.flags)).round) (b8 (flagsByte (maskFlags m v s.dispatcher.flags)))
    else refuse s .badField := by
  have value : byteAt (b8 m ++ b8 v) 1 = v := by simp [Nat.mod_eq_of_lt hv]
  simp only [State.answer, State.permissiveSet, checked_passes (n := 2) (p := b8 m ++ b8 v) rfl, byteAt_b8 hm, value]

theorem State.answer_permissiveSet_taken {f : Vector Bool 4} (mask : m < 16) (value : v < 16)
    (written : ∀ k : Fin 4, f[k] = if m.testBit k then v.testBit k else s.dispatcher.flags[k]) :
    s.answer (b8 m ++ b8 v) .permissiveSet =
      ⟨if f = s.dispatcher.flags then s else (s.setFlags f).round, .ok, b8 (flagsByte f)⟩ := by
  rw [State.answer_permissiveSet hm hv, if_pos ⟨mask, value⟩, maskFlags_eq written, done]

theorem State.answer_permissiveSet_refused (bad : 16 ≤ m ∨ 16 ≤ v) :
    s.answer (b8 m ++ b8 v) .permissiveSet = ⟨s, .badField, []⟩ := by
  rw [State.answer_permissiveSet hm hv, if_neg (by omega), refuse]

end Flags

theorem Pocket.isEjecting_iff {x : Pocket} : x.isEjecting = true ↔ ∃ c t, x = .ejecting c t := by
  cases x <;> simp [Pocket.isEjecting]

theorem State.anyEjecting_iff {s : State} : s.anyEjecting = true ↔ ∃ p c t, s.pocket p = .ejecting c t := by
  simp [State.anyEjecting, Pocket.isEjecting_iff, mem_pocketNos]

theorem State.answer_restart {s : State} (mode : s.mode = .setup ∨ s.mode = .aborted) :
    s.answer [] .restart = if s.anyEjecting then refuse s .busy else done s.markRestart [] := by
  have modeOk : (s.mode == .setup || s.mode == .aborted) = true := by simpa using mode
  simp only [State.answer, State.restart, modeOk, checked_passes (p := []) List.length_nil]

/-- Settles O14. -/
theorem flagsAndRestartTaken : Obligations.FlagsAndRestartTaken := by
  refine ⟨fun s tag m v f ready hm hv => ⟨fun mask value written => ⟨fun still => ?_, fun running change => ?_⟩,
    fun bad => ?_⟩, fun f => ⟨flagsByte_lt f, testBit_flagsByte f⟩, fun s tag ready mode => ⟨fun none' => ?_,
    fun p c t ejecting => ?_⟩⟩
  · have answer := State.answer_permissiveSet_taken (s := s.cleared) hm hv mask value written
    have same : (if f = s.cleared.dispatcher.flags then s.cleared else (s.cleared.setFlags f).round) =
        s.cleared.setFlags f := by
      split
      next e => rw [e]; rfl
      next changed => exact State.round_not_running (still.resolve_right changed)
    rw [same] at answer
    exact State.request_replies ready .permissiveSet tag _ answer rfl
  · have answer := State.answer_permissiveSet_taken (s := s.cleared) hm hv mask value written
    rw [if_neg (by exact change)] at answer
    exact State.request_replies ready .permissiveSet tag _ answer (s.cleared.setFlags f).round_frame.2.1
  · exact State.request_refused ready .permissiveSet tag _
      (State.answer_permissiveSet_refused (s := s.cleared) hm hv bad)
  · have answer := State.answer_restart (s := s.cleared) mode
    rw [if_neg (by rw [State.anyEjecting_iff]; exact fun ⟨p, c, t, e⟩ => none' p c t e)] at answer
    exact State.request_answered ready .restart tag _ answer (.inr (.inl rfl))
  · have answer := State.answer_restart (s := s.cleared) mode
    rw [if_pos (State.anyEjecting_iff (s := s.cleared).2 ⟨p, c, t, ejecting⟩)] at answer
    exact State.request_refused ready .restart tag _ answer

/-! ## Filter settings (R96) -/

theorem FilterSettings.valid_iff (f : FilterSettings) : f.valid = true ↔
    1 ≤ f.engage ∧ f.engage ≤ 32767 ∧ 1 ≤ f.dropRatio ∧ f.dropRatio ≤ 32767 ∧ 1 ≤ f.rebound ∧ f.rebound ≤ 32767 ∧
      f.exitLevel ≤ 32766 ∧ f.exitLevel < f.engage ∧ 1 ≤ f.confirm ∧ f.confirm ≤ 64 ∧ 100 ≤ f.depthLimit ∧
      f.depthLimit ≤ 20000 ∧ 1 ≤ f.setWeight ∧ f.setWeight ≤ 32767 := by
  simp only [FilterSettings.valid, Bool.and_eq_true, within_iff, decide_eq_true_eq]
  tauto

theorem byteAt_cons (b : Byte) (l : List Byte) : byteAt (b :: l) 0 = b.toNat := rfl

theorem within_eq_false {lo hi x : Nat} : within lo hi x = false ↔ x < lo ∨ hi < x := by
  rw [← Bool.not_eq_true, within_iff]
  omega

theorem State.answer_filterSet {s : State} (mode : s.mode = .setup ∨ s.mode = .armed) {p : List Byte} (some' : p ≠ []) :
    s.answer p .filterSet =
      if within 1 16 (byteAt p 0) = false then refuse s .badField
      else if p.length ≠ 14 + 2 * byteAt p 0 then refuse s .badLength
      else if (filterOf (byteAt p 0) p).valid then done (s.setFilter (filterOf (byteAt p 0) p)) []
      else refuse s .badField := by
  rw [State.answer, State.filterSet, if_neg (by tauto), if_neg some']

/-- Settles O18. -/
theorem filterSetTakes : Obligations.FilterSetTakes := by
  refine ⟨FilterSettings.valid_iff, fun s tag ready mode => ⟨fun f range => ?_, fun n rest bad => ?_,
    fun n rest least most length => ?_, fun n rest least most length invalid => ?_⟩⟩
  · obtain ⟨length, count, read⟩ := filterOf_bytes range
    have some' : f.bytes ≠ [] := fun e => by simp [e] at length; omega
    have counted : ¬ within 1 16 f.taps.length = false := by
      rw [within_eq_false]; have := range.2.1; have := range.2.2.1; omega
    have answer := State.answer_filterSet (s := s.cleared) mode some'
    rw [count, if_neg counted, if_neg (not_not.2 length), read, if_pos range.1] at answer
    exact State.request_replies ready .filterSet tag _ answer rfl
  all_goals
    have answer := State.answer_filterSet (s := s.cleared) mode (List.cons_ne_nil n rest)
    rw [byteAt_cons, List.length_cons] at answer
  · rw [if_pos (within_eq_false.2 (by omega))] at answer
    exact State.request_refused ready .filterSet tag _ answer
  · rw [if_neg (by rw [within_eq_false]; omega), if_pos (by omega)] at answer
    exact State.request_refused ready .filterSet tag _ answer
  · rw [if_neg (by rw [within_eq_false]; omega), if_neg (by omega), if_neg (by simp [invalid])] at answer
    exact State.request_refused ready .filterSet tag _ answer

/-! ## The rivet table (R100) -/

theorem RivetEntry.bytes_length (e : RivetEntry) : e.bytes.length = 6 := rfl

/-- Good entries in front of a table are read. -/
theorem readEntries_append {es : List RivetEntry} (valid : ∀ e ∈ es, e.Valid) (k : Nat) (rs : List (List Byte)) :
    readEntries k (es.map RivetEntry.bytes ++ rs) = (readEntries (k + es.length) rs).map (es ++ ·) := by
  induction es generalizing k with
  | nil =>
    simp only [List.map_nil, List.nil_append, List.length_nil, Nat.add_zero]
    cases readEntries k rs <;> rfl
  | cons e es ih =>
    simp only [List.map_cons, List.cons_append, readEntries, entryOf_bytes (valid e List.mem_cons_self),
      ih (fun x mem => valid x (List.mem_cons_of_mem e mem)), List.length_cons, Nat.add_assoc, Nat.add_comm 1 es.length]
    cases readEntries (k + (es.length + 1)) rs <;> rfl

theorem State.undefinedEntry_none {s : State} {es : List RivetEntry}
    (defined : ∀ e ∈ es, s.heater.classes[e.code] ≠ none) : s.undefinedEntry es = none := by
  rw [State.undefinedEntry, List.findIdx?_eq_none_iff]
  intro e mem
  simpa [Option.isSome_iff_ne_none] using defined e mem

theorem State.undefinedEntry_first {s : State} {first rest : List RivetEntry} {e : RivetEntry}
    (defined : ∀ x ∈ first, s.heater.classes[x.code] ≠ none) (undefined : s.heater.classes[e.code] = none) :
    s.undefinedEntry (first ++ e :: rest) = some first.length := by
  have none' := State.undefinedEntry_none defined
  rw [State.undefinedEntry] at none' ⊢
  rw [List.findIdx?_append, none', List.findIdx?_cons, if_pos (by rw [undefined]; rfl)]
  simp

section Table

variable {s : State} (mode : s.mode = .setup ∨ s.mode = .armed)
include mode

theorem State.answer_rivetTableSet {p : List Byte} (whole : p.length % 6 = 0) (most : p.length ≤ 192) :
    s.answer p .rivetTableSet =
      match readEntries 0 (recordsOf 6 (p.length / 6) p) with
      | .error k => refuseAt s k
      | .ok es => s.takeEntries es := by
  rw [State.answer, State.rivetTableSet, if_neg (by tauto), if_neg (by rw [Config.maxRivetEntries]; omega)] <;> rfl

theorem State.answer_rivetTableSet_badLength {p : List Byte} (bad : p.length % 6 ≠ 0 ∨ 192 < p.length) :
    s.answer p .rivetTableSet = ⟨s, .badLength, []⟩ := by
  rw [State.answer, State.rivetTableSet, if_neg (by tauto), if_pos (by rw [Config.maxRivetEntries]; omega), refuse]

theorem State.answer_rivetTableSet_good {es : List RivetEntry} (valid : ∀ e ∈ es, e.Valid) (most : es.length ≤ 32) :
    s.answer (es.flatMap RivetEntry.bytes) .rivetTableSet = s.takeEntries es := by
  have length := flatMap_length RivetEntry.bytes_length es
  have cut : recordsOf 6 es.length (es.flatMap RivetEntry.bytes) = es.map RivetEntry.bytes ++ [] := by
    simpa [recordsOf] using recordsOf_flatMap RivetEntry.bytes_length es 0 []
  rw [State.answer_rivetTableSet mode (by omega) (by omega), length, Nat.mul_div_cancel_left _ (by decide), cut,
    readEntries_append valid]
  simp only [readEntries, Except.map, List.append_nil]

theorem State.answer_rivetTableSet_bad {es : List RivetEntry} (valid : ∀ e ∈ es, e.Valid) {bad rest : List Byte}
    (length : bad.length = 6) (whole : rest.length % 6 = 0) (most : 6 * es.length + 6 + rest.length ≤ 192)
    (fails : entryOf bad = none) :
    s.answer (es.flatMap RivetEntry.bytes ++ bad ++ rest) .rivetTableSet = ⟨s, .badField, b8 es.length⟩ := by
  have total : (es.flatMap RivetEntry.bytes ++ bad ++ rest).length = 6 * es.length + 6 + rest.length := by
    simp [flatMap_length RivetEntry.bytes_length, length, Nat.add_assoc]
  have count : (6 * es.length + 6 + rest.length) / 6 = es.length + (rest.length / 6 + 1) := by omega
  rw [State.answer_rivetTableSet mode (by omega) (by omega), total, count, List.append_assoc,
    recordsOf_flatMap RivetEntry.bytes_length, recordsOf_cons length, readEntries_append valid]
  simp only [readEntries, fails, Except.map, refuseAt, Nat.zero_add]

/-! ## Rivet classes (R101) -/

theorem State.answer_rivetClassSet {p : List Byte} {n : Nat} (length : p.length = 12) (named : byteAt p 0 = n) :
    s.answer p .rivetClassSet =
      match finOf 32 n with
      | none => refuse s .badField
      | some c => s.defineClass c p := by
  have modeOk : (s.mode == .setup || s.mode == .armed) = true := by simpa using mode
  simp only [State.answer, State.rivetClassSet, modeOk, checked_passes length, named] <;> rfl

theorem State.answer_rivetClassSet_named {p : List Byte} {code : RivetCode} (length : p.length = 12)
    (named : byteAt p 0 = code.val) : s.answer p .rivetClassSet = s.defineClass code p := by
  rw [State.answer_rivetClassSet mode length named, finOf_val]

end Table

/-- What a class payload whose fields fit their places carries, in range or not. -/
theorem classOf_definePayload_of_fits (code : RivetCode) {c : RivetClass} (heat : c.heatTime < 65536)
    (hold : c.holdWindow < 65536) (positive : 0 ≤ c.forceTarget) (force : c.forceTarget < 65536)
    (least : InSixteen c.workMin) (most : InSixteen c.workMax) : classOf (definePayload code c) = c := by
  obtain ⟨heat', hold', force', least', most'⟩ := c
  simp only at heat hold positive force least most
  have low (l : List Byte) : s16At (bs16 least' ++ l) 0 = least' := s16At_bs16_front l least
  have high : s16At (bs16 most') 0 = most' := s16At_bs16_last most
  simp only [classOf, definePayload, RivetClass.mk.injEq, List.append_assoc, u16At_skip_b8, u16At_skip_b16,
    s16At_skip_b8, s16At_skip_b16, u16At_b16_front, s16At_skip_bs16, low, high, and_true]
  omega

theorem byteAt_definePayload_mark (code : RivetCode) (c : RivetClass) : byteAt (definePayload code c) 1 = 1 := by
  simp [definePayload]

theorem byteAt_definePayload_code (code : RivetCode) (c : RivetClass) : byteAt (definePayload code c) 0 = code.val := by
  have := code.isLt
  simp [definePayload]
  omega

theorem State.defineClass_define {s : State} {code : RivetCode} {p : List Byte} (marked : byteAt p 1 = 1) :
    s.defineClass code p =
      if (classOf p).valid then done (s.setClass code (some (classOf p))) [] else refuse s .badField := by
  simp only [State.defineClass, marked, if_true, Nat.one_ne_zero, if_false]

theorem State.defineClass_undefine {s : State} {code : RivetCode} {p : List Byte} (marked : byteAt p 1 = 0) :
    s.defineClass code p = if s.mode = .armed then refuse s .wrongMode else done (s.setClass code none) [] := if_pos marked

theorem byteAt_classPayload (n m : Nat) (rest : List Byte) :
    byteAt (b8 n ++ b8 m ++ rest) 0 = n % 256 ∧ byteAt (b8 n ++ b8 m ++ rest) 1 = m % 256 := by
  simp

/-! ## Magazine counts (R102) -/

/-- With no heat order waiting a serving step changes nothing. -/
theorem State.serve_noOrders {s : State} (none' : s.heater.orders = []) : s.serve = s := by
  have servable : s.servable = none := by simp [State.servable, none']
  have turns (n : Nat) : s.serveTurns n = s := by
    cases n with
    | zero => rfl
    | succ n => simp only [State.serveTurns, servable]; split <;> simp_all
  have starved : s.starvedCodes = [] := by simp [State.starvedCodes, none']
  rw [State.serve, turns, starved]
  exact ite_self s

theorem State.answer_magazineSet {s : State} (mode : s.mode ≠ .aborted) {c n : Nat} (hc : c < 256) (hn : n < 65536) :
    s.answer (b8 c ++ b16 n) .magazineSet =
      match finOf 32 c with
      | none => refuse s .badField
      | some code => done (s.setMagazine code (min 9999 n)).serve (b16 (min 9999 n)) := by
  have modeOk : (s.mode != .aborted) = true := bne_iff_ne.2 mode
  have count : u16At (b8 c ++ b16 n) 1 = n := by simp [Nat.mod_eq_of_lt hn]
  simp only [State.answer, State.magazineSet, modeOk, checked_passes (n := 3) (p := b8 c ++ b16 n) rfl, byteAt_b8 hc,
    count, Config.maxMagazine] <;> rfl

/-- Settles O19. -/
theorem rivetDataTaken : Obligations.RivetDataTaken := by
  refine ⟨⟨fun s tag es ready mode valid most => ⟨fun defined => ?_, fun first e rest split armed before undefined => ?_,
      fun bad rest length whole fit fails => ?_, fun p bad => ?_⟩,
    fun s tag ready mode => ⟨fun code c range => ?_, fun code rest length setup => ?_, fun code rest length armed => ?_,
      fun code c heat hold positive force least most bad => ?_, fun n m rest length hn hm bad => ?_⟩⟩,
    fun s u tag n ready mode hn => ⟨fun code hu => ?_, fun c above hc => ?_⟩⟩
  · have none' : (if s.cleared.mode = .armed then s.cleared.undefinedEntry es else none) = none := by
      split
      next armed =>
        refine State.undefinedEntry_none (defined.resolve_left fun setup => ?_)
        exact absurd (setup.symm.trans armed) (by decide)
      next => rfl
    have answer := State.answer_rivetTableSet_good (s := s.cleared) mode valid most
    rw [State.takeEntries, none'] at answer
    exact State.request_replies ready .rivetTableSet tag _ answer rfl
  · subst split
    have found : (if s.cleared.mode = .armed then s.cleared.undefinedEntry (first ++ e :: rest) else none) =
        some first.length := by
      rw [if_pos (show s.cleared.mode = .armed from armed)]
      exact State.undefinedEntry_first (s := s.cleared) before undefined
    have answer := State.answer_rivetTableSet_good (s := s.cleared) mode valid most
    rw [State.takeEntries, found] at answer
    exact State.request_refused ready .rivetTableSet tag _ answer
  · exact State.request_refused ready .rivetTableSet tag _
      (State.answer_rivetTableSet_bad (s := s.cleared) mode valid length whole fit fails)
  · exact State.request_refused ready .rivetTableSet tag _
      (State.answer_rivetTableSet_badLength (s := s.cleared) mode bad)
  · obtain ⟨length, named, read⟩ := classOf_definePayload code range
    have answer := State.answer_rivetClassSet_named (s := s.cleared) mode length named
    rw [State.defineClass_define (byteAt_definePayload_mark code c), read, if_pos range.1] at answer
    exact State.request_replies ready .rivetClassSet tag _ answer rfl
  · obtain ⟨named, marked⟩ := byteAt_classPayload code.val 0 rest
    have answer := State.answer_rivetClassSet_named (s := s.cleared) (code := code) mode (p := b8 code.val ++ b8 0 ++ rest)
      (by simp [length]) (by rw [named]; omega)
    rw [State.defineClass_undefine marked, if_neg (by rw [State.cleared_mode, setup]; decide)] at answer
    exact State.request_replies ready .rivetClassSet tag _ answer rfl
  · obtain ⟨named, marked⟩ := byteAt_classPayload code.val 0 rest
    have answer := State.answer_rivetClassSet_named (s := s.cleared) (code := code) mode (p := b8 code.val ++ b8 0 ++ rest)
      (by simp [length]) (by rw [named]; omega)
    rw [State.defineClass_undefine marked, if_pos (by exact armed)] at answer
    exact State.request_refused ready .rivetClassSet tag _ answer
  · have read := classOf_definePayload_of_fits code heat hold positive force least most
    have answer := State.answer_rivetClassSet_named (s := s.cleared) (p := definePayload code c) mode rfl
      (byteAt_definePayload_code code c)
    have invalid : ¬ c.valid = true := by
      simp only [RivetClass.valid, Bool.and_eq_true, within_iff, decide_eq_true_eq]
      omega
    rw [State.defineClass_define (byteAt_definePayload_mark code c), read, if_neg invalid] at answer
    exact State.request_refused ready .rivetClassSet tag _ answer
  · obtain ⟨named, marked⟩ := byteAt_classPayload n m rest
    rw [Nat.mod_eq_of_lt hn] at named
    rw [Nat.mod_eq_of_lt hm] at marked
    have answer := State.answer_rivetClassSet (s := s.cleared) mode (p := b8 n ++ b8 m ++ rest) (by simp [length]) named
    refine State.request_refused ready .rivetClassSet tag _ (answer.trans ?_)
    split
    · rfl
    · next code inRange =>
      have := finOf_eq_some.1 inRange
      rw [State.defineClass, marked, if_neg (by omega), if_neg (by omega), refuse]
  · have byte : code.val < 256 := by omega
    have answer := State.answer_magazineSet (s := s.cleared) mode byte hn
    rw [finOf_val] at answer
    have served : exec (.magazineSet tag (b8 code.val ++ b16 n)) s =
        .next (u.serve.withReply ⟨0x43, tag, .ok, b16 (min 9999 n)⟩) := by
      subst hu
      exact State.request_replies ready .magazineSet tag _ answer (by simp)
    refine ⟨fun none' => ?_, served⟩
    rwa [State.serve_noOrders (s := u) (by rw [hu]; exact none')] at served
  · have answer := State.answer_magazineSet (s := s.cleared) mode hc hn
    rw [finOf_of_le above] at answer
    exact State.request_refused ready .magazineSet tag _ answer

end Sys2Proof.Machine
end

section
/-! O16 does not hold: in a state that no run reaches, a head out of service stands in the permit wait queue. Enabled in
RUNNING it goes on into HOMING, and the round that follows grants it a permit, so that the reply carries FEED. -/

namespace Sys2Proof.Machine
set_option Elab.async false

/-- A RIVET joint of side A at a position of zone 0. -/
def waitingJoint (id offset : Nat) (st : JointState) (pocket : Option PocketNo) : Joint :=
  { identity :=
      { id, side := .a, zone := 0, offset, pass := 0, kind := .rivet, diameter := 2, key := false,
        expectedGrip := some 3600, tolerance := some 100, expectedLayers := some 2, gate := none }
    state := st, corrected := some offset, head := none, phaseAtEnd := none, rejection := none, reworks := 0, pocket
    result := .none }

/-- RUNNING with H0 idle before a PENDING joint whose rivet is loading, while H3, OFFLINE, holds a joint with a READY
rivet and stands in the permit wait queue. -/
def queuedOffline : State :=
  { State.cold .bps9600 with
    table := { JointTable.cold with
      joints := [waitingJoint 1 200 .pending none, waitingJoint 2 300 .drilled (some 2)], currentPass := some 0 }
    heads := #v[{ Head.cold with state := .idle, position := some 0 }, Head.cold, Head.cold,
      { Head.cold with state := .offline, held := some 1 }]
    heater := { Heater.cold with
      table := [⟨2, 3401, 3700, 9⟩]
      pockets := #v[.empty, .empty, .ready 10 (some 1) 60000 0, .empty, .loading 9 none 1000, .empty] }
    arbiter := { Arbiter.cold with queue := [3] }
    control := { ModeControl.cold with mode := .running }
    link := { Link.cold .bps9600 with
      settings := some { StationSettings.unset with railLength := 1000000, clearance := 50000 } } }

theorem queuedOffline_ready : queuedOffline.Ready :=
  ⟨⟨.inr (.inr rfl), fun _ => ⟨rfl, rfl, rfl⟩, .inl rfl⟩, rfl, rfl, rfl⟩

/-- The content of the frame on the line after a command. -/
def payloadSent : Host.Outcome State Fault Refusal → Option (List Byte)
  | .next t => t.link.sending.map (·.payload)
  | .fault _ => none
  | .refused _ => none

/-- The reply to HEAD_ENABLE carries state 9, FEED. -/
theorem payloadSent_queuedOffline :
    payloadSent (exec (.headEnable 7 (b8 3)) queuedOffline) = some [0x22, 0x00, 0x09] := by decide +kernel

/-- Refutes O16: the statement says HOMING for the state that the reply carries, whatever the round grants. -/
theorem not_headServiceTaken : ¬ Obligations.HeadServiceTaken := by
  intro ⟨enabled, _⟩
  have ⟨u, idle, replied⟩ : ∃ u : State, u.link.sending = none ∧
      exec (.headEnable 7 (b8 3)) queuedOffline = .next (u.withReply ⟨0x22, 7, .ok, b8 1⟩) := by
    have replied := (enabled queuedOffline 7 3 (.headEnable 7 (b8 3)) 0x22 .offline queuedOffline_ready
      (.inl ⟨rfl, rfl, rfl⟩) (by decide) (by decide)).2.2 _ rfl (by decide) rfl
    rw [if_pos (show queuedOffline.mode = .running from rfl)] at replied
    refine ⟨_, ?_, replied⟩
    rw [(State.round_frame _).2.2.1]
    rfl
  have content := payloadSent_queuedOffline
  rw [replied, payloadSent, State.withReply, if_pos idle] at content
  exact absurd (show some [0x22, 0x00, 0x01] = some ([0x22, 0x00, 0x09] : List Byte) from content) (by decide)

end Sys2Proof.Machine
end

section
/-! O50 and O52: the arithmetic of the signature channels (R78 to R84, R88, R90), the drilling-end checks (R91) and the
lookup of the rivet table (R99). -/

namespace Sys2Proof.Machine
set_option Elab.async false

/-! ## The ring (R78) -/

theorem ringRead_push_newest (c : Channel) (x : Int) : ringRead (c.push x).ring (c.push x).writeIndex 0 = x := by
  have place : ((c.writeIndex + 1).val + 31 - 0) % 16 = c.writeIndex.val := by
    rw [Fin.val_add, Fin.val_one]
    omega
  simp only [ringRead, Channel.push, place]
  exact Vector.getElem_set_self c.writeIndex.isLt

theorem ringRead_push_older (c : Channel) (x : Int) {k : Nat} (hk : k < 15) :
    ringRead (c.push x).ring (c.push x).writeIndex (k + 1) = ringRead c.ring c.writeIndex k := by
  have place : ((c.writeIndex + 1).val + 31 - (k + 1)) % 16 = (c.writeIndex.val + 31 - k) % 16 := by
    rw [Fin.val_add, Fin.val_one]
    omega
  simp only [ringRead, Channel.push, place]
  exact Vector.getElem_set_ne _ _ (by omega)

/-! ## The accumulator (R80) -/

theorem holdAcc_eq (x : Int) : holdAcc x =
    (max (-34359738368) (min 34359738367 x), decide (x < -34359738368 ∨ 34359738367 < x)) := by
  unfold holdAcc accMax accMin
  split_ifs <;> rw [Prod.mk.injEq] <;> refine ⟨by omega, ?_⟩ <;> simp <;> omega

theorem holdAcc_within {x : Int} (within : InAccumulator x) : holdAcc x = (x, false) := by
  obtain ⟨low, high⟩ := within
  rw [holdAcc, accMax, accMin, if_neg (by omega), if_neg (by omega)]

theorem addProduct_eq (a c x : Int) (m : Bool) : addProduct (a, m) c x =
    (max (-34359738368) (min 34359738367 (a + 2 * c * x)),
      m || decide (a + 2 * c * x < -34359738368 ∨ 34359738367 < a + 2 * c * x)) := by
  simp only [addProduct, holdAcc_eq]

/-- The sum of the first `n` products of the taps with the ring. -/
def productSum (ring : Vector Int 16) (w : Fin 16) (taps : List Int) (n : Nat) : Int :=
  ((List.range n).map (fun k => taps.getD k 0 * ringRead ring w k)).sum

theorem productSum_succ (ring : Vector Int 16) (w : Fin 16) (taps : List Int) (n : Nat) :
    productSum ring w taps (n + 1) = productSum ring w taps n + taps.getD n 0 * ringRead ring w n := by
  simp [productSum, List.range_succ]

/-- Taps added behind others, no partial sum leaving the accumulator's limits. -/
theorem sumTaps_within {ring : Vector Int 16} {w : Fin 16} (first taps : List Int)
    (within : ∀ n, n ≤ (first ++ taps).length → InAccumulator (2 * productSum ring w (first ++ taps) n)) :
    sumTaps ring w taps first.length (2 * productSum ring w (first ++ taps) first.length, false) =
      (2 * productSum ring w (first ++ taps) (first ++ taps).length, false) := by
  induction taps generalizing first with
  | nil => simp [sumTaps]
  | cons c taps ih =>
    have tap : (first ++ c :: taps).getD first.length 0 = c := by simp
    have next : 2 * productSum ring w (first ++ c :: taps) first.length + 2 * c * ringRead ring w first.length =
        2 * productSum ring w (first ++ c :: taps) (first.length + 1) := by
      rw [productSum_succ, tap]
      ring
    have kept := within (first.length + 1) (by simp)
    have rest := ih (first ++ [c]) (by simpa using within)
    rw [List.append_assoc, List.singleton_append, List.length_append, List.length_singleton] at rest
    rw [sumTaps, addProduct, next, holdAcc_within kept]
    exact rest

theorem filterPass_within {ring : Vector Int 16} {w : Fin 16} {taps : List Int}
    (within : ∀ n, n ≤ taps.length → InAccumulator (2 * productSum ring w taps n)) :
    filterPass ring w taps = (2 * productSum ring w taps taps.length, false) :=
  sumTaps_within [] taps within

/-! ## Output, overflow and the depth limit (R81, R84, R88, R90) -/

theorem convert_within {a : Int} (low : -2147483648 ≤ a) (high : a ≤ 2147483647) :
    convert a = (min 32767 ((a + 32768) / 65536), false) := by
  rw [convert, if_neg (by omega), if_neg (by omega)]
  split <;> rw [Prod.mk.injEq] <;> exact ⟨by omega, rfl⟩

theorem Channel.overflows_iff {c : Channel} {f : FilterSettings} {depth : Nat} : c.overflows f depth = true ↔
    f.taps.length - 1 ≤ depth ∧ c.machine = .dip ∧
      (∃ v, c.valley = some v ∧ v + (f.rebound : Int) ≤ c.lastOutput.getD 0) ∧ ∃ n, c.layers = some n ∧ 8 ≤ n := by
  have taken : (machineDepth f depth).isSome = true ↔ f.taps.length - 1 ≤ depth := by
    unfold machineDepth recordedDepth
    split
    · simp only [Option.isSome_some, true_iff]; omega
    · simp only [Option.isSome_none, Bool.false_eq_true, false_iff]; omega
  simp [Channel.overflows, taken, Channel.rebounds, Channel.layersFull, Option.any_eq_true, and_assoc]

theorem Channel.limit_eq (c : Channel) (f : FilterSettings) (depth : Nat) : c.limit f depth = { c with
    ending :=
      if c.machine = .finished ∨ depth < f.depthLimit then c.ending
      else if c.machine = .waiting then some .noMaterial else some .depthLimit } := by
  unfold Channel.limit
  by_cases finished : c.machine = .finished ∨ depth < f.depthLimit
  · rw [if_neg fun h => finished.elim h.1 (Nat.not_lt.2 h.2), if_pos finished]
  · obtain ⟨goesOn, deep⟩ := not_or.1 finished
    rw [if_pos ⟨goesOn, Nat.not_lt.1 deep⟩, if_neg finished, apply_ite some]

/-- Settles O50. -/
theorem filterComputed : Obligations.FilterComputed := by
  refine ⟨fun c x => ⟨ringRead_push_newest c x, fun k hk => ringRead_push_older c x hk⟩,
    fun ring w taps within => filterPass_within within, addProduct_eq, fun c f depth x r hr => ?_,
    fun c f depth => ⟨Channel.overflows_iff, c.limit_eq f depth⟩,
    fun a => ⟨convert_within, fun above => if_pos above, fun below => ?_⟩⟩
  · subst hr
    exact ⟨rfl, rfl⟩
  · rw [convert, if_neg (by omega), if_pos below]

/-! ## Drilling end (R91, R99) -/

theorem layerMismatch_iff {d : JointIdentity} {layers : Option Nat} :
    layerMismatch d layers = true ↔ ∃ n, d.expectedLayers = some n ∧ layers ≠ some n := by
  simp [layerMismatch, Option.any_eq_true]

theorem gripOut_iff {d : JointIdentity} {grip : Nat} (paired : d.tolerance.isSome = d.expectedGrip.isSome) :
    gripOut d grip = true ↔ ∃ g t, d.expectedGrip = some g ∧ d.tolerance = some t ∧ (grip + t < g ∨ g + t < grip) := by
  unfold gripOut
  cases hg : d.expectedGrip with
  | none => simp
  | some g =>
    obtain ⟨t, ht⟩ := Option.isSome_iff_exists.1 (paired.trans (by rw [hg]; rfl))
    simp only [ht, Option.bind_eq_bind, Option.bind_some, Option.pure_def, Option.any_some, decide_eq_true_eq,
      Option.getD_some, Option.some.injEq, exists_and_left, exists_eq_left']
    omega

/-- The first element that passes stands behind ones that fail. -/
theorem find?_eq_some_iff_split {α : Type} {p : α → Bool} {l : List α} {a : α} :
    l.find? p = some a ↔ p a = true ∧ ∃ first rest, l = first ++ a :: rest ∧ ∀ b ∈ first, p b = false := by
  simp [List.find?_eq_some_iff_append]

theorem lookupRivet_eq_some {table : List RivetEntry} {diameter : Fin 4} {grip : Nat} {code : RivetCode} :
    lookupRivet table diameter grip = some code ↔
      ∃ first e rest, table = first ++ e :: rest ∧ e.diameter = diameter ∧ e.gripMin ≤ grip ∧ grip ≤ e.gripMax ∧
        e.code = code ∧ ∀ e' ∈ first, e'.diameter = diameter → grip < e'.gripMin ∨ e'.gripMax < grip := by
  have fails (e : RivetEntry) : (e.diameter == diameter && e.gripMin ≤ grip && grip ≤ e.gripMax) = false ↔
      (e.diameter = diameter → grip < e.gripMin ∨ e.gripMax < grip) := by
    rw [← Bool.not_eq_true]
    simp only [Bool.and_eq_true, beq_iff_eq, decide_eq_true_eq]
    constructor
    · intro h same
      by_contra none'
      exact h ⟨⟨same, by omega⟩, by omega⟩
    · rintro h ⟨⟨same, least⟩, most⟩
      have := h same
      omega
  simp only [lookupRivet, Option.map_eq_some_iff, find?_eq_some_iff_split, fails, Bool.and_eq_true, beq_iff_eq,
    decide_eq_true_eq]
  constructor
  · rintro ⟨e, ⟨⟨⟨same, least⟩, most⟩, first, rest, split, before⟩, named⟩
    exact ⟨first, e, rest, split, same, least, most, named, before⟩
  · rintro ⟨first, e, rest, split, same, least, most, named, before⟩
    exact ⟨e, ⟨⟨⟨same, least⟩, most⟩, first, rest, split, before⟩, named⟩

theorem lookupRivet_eq_none {table : List RivetEntry} {diameter : Fin 4} {grip : Nat} :
    lookupRivet table diameter grip = none ↔
      ∀ e ∈ table, e.diameter = diameter → grip < e.gripMin ∨ e.gripMax < grip := by
  simp only [lookupRivet, Option.map_eq_none_iff, List.find?_eq_none, Bool.and_eq_true, beq_iff_eq, decide_eq_true_eq,
    not_and, Nat.not_le]
  refine forall₂_congr fun e _ => ⟨fun h same => ?_, fun h ⟨same, least⟩ => (h same).resolve_left (by omega)⟩
  by_cases least : e.gripMin ≤ grip
  · exact .inr (h ⟨same, least⟩)
  · exact .inl (by omega)

/-- Settles O52. -/
theorem drillingEndChecked : Obligations.DrillingEndChecked := by
  rintro table d layers grip mismatch out norivet rfl rfl rfl paired
  have none' : (d.kind = .rivet ∧ measuredCode table d grip = none) ↔ d.kind = .rivet ∧
      ∀ e ∈ table, e.diameter = d.diameter → grip < e.gripMin ∨ e.gripMax < grip :=
    and_congr_right fun rivet => by rw [measuredCode, if_pos rivet, lookupRivet_eq_none]
  have out := gripOut_iff (grip := grip) paired
  have mismatch := layerMismatch_iff (d := d) (layers := layers)
  refine ⟨fun h => ?_, fun n h => ?_, fun n m h => ?_, fun n m h => ?_, fun code => lookupRivet_eq_some⟩ <;>
    rw [drillingChecks]
  · rw [if_pos (mismatch.2 h)]
  · rw [if_neg (mt mismatch.1 n), if_pos (out.2 h)]
  · rw [if_neg (mt mismatch.1 n), if_neg (mt out.1 m), if_pos (none'.2 h)]
  · rw [if_neg (mt mismatch.1 n), if_neg (mt out.1 m), if_neg (mt none'.1 h)]

end Sys2Proof.Machine
end

section
/-! O51: what the measurement machine makes of an output in each of its states (R84 to R89), and what it has found of the
stack when outputs arrive at rising depths. -/

namespace Sys2Proof.Machine
set_option Elab.async false

/-! ## One output (R84 to R89) -/

theorem machineDepth_eq (f : FilterSettings) (depth : Nat) : machineDepth f depth =
    if f.taps.length - 1 ≤ depth then some (depth - (f.taps.length - 1)) else none := by
  unfold machineDepth recordedDepth
  split
  · rw [if_pos (by omega)]
    congr 1
    omega
  · rw [if_neg (by omega)]

section Take

variable (c : Channel) (f : FilterSettings) (y : Int) (d : Nat)

theorem Channel.take_waiting (waiting : c.machine = .waiting) : c.take f y d = c.takeWaiting f y d := by
  rw [Channel.take, waiting]

theorem Channel.take_cutting (cutting : c.machine = .cutting) : c.take f y d = c.takeCutting f y d := by
  rw [Channel.take, cutting]

theorem Channel.take_dip (dip : c.machine = .dip) : c.take f y d = c.takeDip f y d := by
  rw [Channel.take, dip]

theorem Channel.take_finished (finished : c.machine = .finished) : c.take f y d = c := by
  rw [Channel.take, finished]

variable {c f y}

theorem Channel.rebounds_iff : c.rebounds f y = true ↔ ∃ v, c.valley = some v ∧ v + (f.rebound : Int) ≤ y := by
  simp [Channel.rebounds, Option.any_eq_true]

theorem Channel.rebound_full {n : Nat} (layers : c.layers = some n) (full : 8 ≤ n) : c.rebound y =
    { c with peak := some y, runCount := 0, runStart := none, machine := .cutting } := by
  simp [Channel.rebound, Channel.layersFull, layers, full]

theorem Channel.rebound_room {n w : Nat} (layers : c.layers = some n) (room : n < 8) (depth : c.valleyDepth = some w) :
    c.rebound y =
      { c with boundaries := c.boundaries ++ [w], layers := some (n + 1), peak := some y, runCount := 0, runStart := none
               machine := .cutting } := by
  simp [Channel.rebound, Channel.layersFull, layers, Nat.not_le.2 room, depth]

theorem Channel.deepen_eq {v : Int} (valley : c.valley = some v) : c.deepen y d =
    if y < v then { c with valley := some y, valleyDepth := some d } else c := by
  simp [Channel.deepen, valley]

end Take

/-! ## The stack found (R85 to R89) -/

/-- The entry and the boundaries recorded so far stand in rising depth, each the depth of an output taken, with one
layer more than boundaries. -/
def Channel.Stacked (c : Channel) (seen : List Nat) : Prop :=
  ∃ a, c.entry = some a ∧ c.layers = some (c.boundaries.length + 1) ∧ c.boundaries.length ≤ 7 ∧
    (a :: c.boundaries).Pairwise (· < ·) ∧ ∀ x ∈ a :: c.boundaries, x ∈ seen

/-- A depth of an output taken, below all that has been recorded of the stack. -/
def Channel.Beyond (c : Channel) (seen : List Nat) (x : Nat) : Prop :=
  x ∈ seen ∧ ∀ y ∈ c.entry.toList ++ c.boundaries, y < x

/-- What stands in a channel in DIP: a valley and an exit run beyond the stack recorded. -/
def Channel.Dipping (c : Channel) (seen : List Nat) : Prop :=
  c.machine = .dip ∧ c.ending = none ∧ c.Stacked seen ∧
    (∃ v w, c.valley = some v ∧ c.valleyDepth = some w ∧ c.Beyond seen w) ∧
    (c.runCount = 0 ∨ ∃ start, c.runStart = some start ∧ c.Beyond seen start)

/-- What stands in a channel that has taken outputs at some depths. -/
def Channel.Traced (c : Channel) (seen : List Nat) : Prop :=
  match c.machine with
  | .waiting => c.ending = none
  | .cutting => c.ending = none ∧ c.Stacked seen
  | .dip => c.Dipping seen
  | .finished => c.Stacked seen ∧ ∃ b, c.exit = some b ∧ c.Beyond seen b

section Traced

variable {c : Channel} {f : FilterSettings} {y : Int} {seen : List Nat} {d : Nat}

theorem Channel.Dipping.traced (h : c.Dipping seen) : c.Traced seen := by
  rw [Channel.Traced, h.1]
  exact h

theorem Channel.Stacked.more (h : c.Stacked seen) (d : Nat) : c.Stacked (seen ++ [d]) := by
  obtain ⟨a, entry, layers, few, rising, taken⟩ := h
  exact ⟨a, entry, layers, few, rising, fun x mem => List.mem_append_left _ (taken x mem)⟩

theorem Channel.Beyond.more {x : Nat} (h : c.Beyond seen x) (d : Nat) : c.Beyond (seen ++ [d]) x :=
  ⟨List.mem_append_left _ h.1, h.2⟩

theorem Channel.Dipping.more (h : c.Dipping seen) (d : Nat) : c.Dipping (seen ++ [d]) := by
  obtain ⟨dip, going, stacked, ⟨v, w, valley, depth, beyond⟩, run⟩ := h
  exact ⟨dip, going, stacked.more d, ⟨v, w, valley, depth, beyond.more d⟩,
    run.imp_right fun ⟨start, at', b⟩ => ⟨start, at', b.more d⟩⟩

/-- A depth below all those seen lies beyond the stack. -/
theorem Channel.Stacked.beyond (h : c.Stacked seen) (deeper : ∀ x ∈ seen, x < d) : c.Beyond (seen ++ [d]) d := by
  obtain ⟨a, entry, -, -, -, taken⟩ := h
  refine ⟨by simp, fun x mem => deeper x (taken x ?_)⟩
  rwa [entry] at mem

theorem Channel.takeWaiting_traced (waiting : c.machine = .waiting) (h : c.Traced seen) :
    (c.takeWaiting f y d).Traced (seen ++ [d]) := by
  rw [Channel.Traced, waiting] at h
  unfold Channel.takeWaiting
  split
  · exact ⟨h, d, rfl, rfl, by simp, by simp, by simp⟩
  · rwa [Channel.Traced, waiting]

theorem Channel.takeCutting_traced (cutting : c.machine = .cutting) (h : c.Traced seen) (deeper : ∀ x ∈ seen, x < d) :
    (c.takeCutting f y d).Traced (seen ++ [d]) := by
  rw [Channel.Traced, cutting] at h
  obtain ⟨going, stacked⟩ := h
  unfold Channel.takeCutting
  split
  · exact ⟨rfl, going, stacked.more d, ⟨y, d, rfl, rfl, stacked.beyond deeper⟩, .inl rfl⟩
  · rw [Channel.Traced]
    simp only [cutting]
    exact ⟨going, stacked.more d⟩

theorem Channel.rebound_traced (h : c.Dipping seen) : (c.rebound y).Traced (seen ++ [d]) := by
  obtain ⟨-, going, stacked, ⟨v, w, -, depth, beyond⟩, -⟩ := h
  obtain ⟨a, entry, layers, few, rising, taken⟩ := stacked
  by_cases full : 8 ≤ c.boundaries.length + 1
  · rw [Channel.rebound_full layers full]
    exact ⟨going, Channel.Stacked.more ⟨a, entry, layers, few, rising, taken⟩ d⟩
  · rw [Channel.rebound_room layers (by omega) depth]
    have below : ∀ x ∈ a :: c.boundaries, x < w := fun x mem => beyond.2 x (by rwa [entry])
    refine ⟨going, a, entry, by simp, by simp; omega, ?_, fun x mem => List.mem_append_left _ ?_⟩
    · rw [← List.cons_append, List.pairwise_append]
      exact ⟨rising, List.pairwise_singleton _ _, fun x mem z last => List.mem_singleton.1 last ▸ below x mem⟩
    · rw [← List.cons_append, List.mem_append, List.mem_singleton] at mem
      exact mem.elim (taken x) fun e => e ▸ beyond.1

theorem Channel.deepen_dipping (h : c.Dipping seen) (deeper : ∀ x ∈ seen, x < d) : (c.deepen y d).Dipping (seen ++ [d]) := by
  have more := h.more d
  obtain ⟨dip, going, stacked, ⟨v, w, valley, -, -⟩, run⟩ := more
  rw [Channel.deepen_eq d valley]
  split
  · exact ⟨dip, going, stacked, ⟨y, d, rfl, rfl, h.2.2.1.beyond deeper⟩, run⟩
  · exact h.more d

theorem Channel.run_dipping (h : c.Dipping seen) (beyond : c.Beyond seen d) : (c.run f y d).Dipping seen := by
  obtain ⟨dip, going, stacked, valley, run⟩ := h
  unfold Channel.run
  split
  · refine ⟨dip, going, stacked, valley, .inr ?_⟩
    by_cases fresh : c.runCount = 0
    · exact ⟨d, if_pos fresh, beyond⟩
    · obtain ⟨start, at', b⟩ := run.resolve_left fresh
      exact ⟨start, (if_neg fresh).trans at', b⟩
  · exact ⟨dip, going, stacked, valley, .inl rfl⟩

theorem Channel.breakThrough_traced (h : c.Dipping seen) (confirm : 1 ≤ f.confirm) : (c.breakThrough f).Traced seen := by
  unfold Channel.breakThrough
  split
  · next reached =>
    obtain ⟨-, -, stacked, -, run⟩ := h
    obtain ⟨start, at', b⟩ := run.resolve_left (by omega)
    exact ⟨stacked, start, at', b⟩
  · exact h.traced

theorem Channel.takeDip_traced (h : c.Dipping seen) (deeper : ∀ x ∈ seen, x < d) (confirm : 1 ≤ f.confirm) :
    (c.takeDip f y d).Traced (seen ++ [d]) := by
  unfold Channel.takeDip
  split
  · exact Channel.rebound_traced h
  · have beyond : (c.deepen y d).Beyond (seen ++ [d]) d := by
      have := h.2.2.1.beyond deeper
      unfold Channel.deepen
      split <;> exact this
    exact Channel.breakThrough_traced (Channel.run_dipping (Channel.deepen_dipping h deeper) beyond) confirm

/-- An output at a new depth keeps what is known of the stack. -/
theorem Channel.take_traced (h : c.Traced seen) (deeper : ∀ x ∈ seen, x < d) (confirm : 1 ≤ f.confirm) :
    (c.take f y d).Traced (seen ++ [d]) := by
  cases machine : c.machine with
  | waiting => rw [Channel.take_waiting c f y d machine]; exact Channel.takeWaiting_traced machine h
  | cutting => rw [Channel.take_cutting c f y d machine]; exact Channel.takeCutting_traced machine h deeper
  | dip =>
    rw [Channel.Traced, machine] at h
    rw [Channel.take_dip c f y d machine]
    exact Channel.takeDip_traced h deeper confirm
  | finished =>
    rw [Channel.Traced, machine] at h
    obtain ⟨stacked, b, exit, beyond⟩ := h
    rw [Channel.take_finished c f y d machine, Channel.Traced, machine]
    exact ⟨stacked.more d, b, exit, beyond.more d⟩

/-- What is known of the stack after outputs at rising depths. -/
theorem Channel.foldl_take_traced (confirm : 1 ≤ f.confirm) (ys : List (Int × Nat)) (h : c.Traced seen)
    (rising : (seen ++ ys.map Prod.snd).Pairwise (· < ·)) :
    (ys.foldl (fun c y => c.take f y.1 y.2) c).Traced (seen ++ ys.map Prod.snd) := by
  induction ys generalizing c seen with
  | nil => simpa using h
  | cons y ys ih =>
    rw [List.map_cons, List.append_cons] at rising ⊢
    have deeper : ∀ x ∈ seen, x < y.2 := fun x mem =>
      (List.pairwise_append.1 (List.pairwise_append.1 rising).1).2.2 x mem y.2 (List.mem_singleton_self _)
    exact ih (Channel.take_traced h deeper confirm) rising

/-- A measurement that ended normally stands in FINISHED. -/
theorem Channel.Traced.finished (h : c.Traced seen) (ended : c.ending = some .finished) :
    c.Stacked seen ∧ ∃ b, c.exit = some b ∧ c.Beyond seen b := by
  unfold Channel.Traced at h
  split at h
  · exact absurd (h.symm.trans ended) (by decide)
  · exact absurd (h.1.symm.trans ended) (by decide)
  · exact absurd (h.2.1.symm.trans ended) (by decide)
  · exact h

end Traced

/-- Settles O51: the first two parts are the equations of the machine's states, the last an induction over the
outputs. -/
theorem stackMeasured : Obligations.StackMeasured := by
  refine ⟨fun c f depth y last => ⟨fun above => ?_, fun reached => ?_⟩,
    fun c f y d => ⟨fun waiting => ?_, fun p q level cutting peak hq low high => ?_, fun v dip valley => ?_,
      c.take_finished f y d⟩, fun f h i ys c confirm rising hc ended => ?_⟩
  · rw [Channel.measure, machineDepth_eq, if_neg (by omega)]
  · rw [Channel.measure, machineDepth_eq, if_pos reached, last]
    rfl
  · rw [c.take_waiting f y d waiting]
    exact ⟨fun entry => if_pos entry, fun before => if_neg (by omega)⟩
  · have raised : c.raisedPeak y = q := by rw [Channel.raisedPeak, peak, hq]
    have drop : dropLevel q f.dropRatio = level := by rw [dropLevel]; omega
    rw [c.take_cutting f y d cutting, Channel.takeCutting, raised, drop]
    exact ⟨fun below => if_pos below, fun on => if_neg (by omega)⟩
  · rw [c.take_dip f y d dip, Channel.takeDip]
    refine ⟨fun rebound n w layers depth => ?_, fun c' noRebound hc' => ?_⟩
    · rw [if_pos (Channel.rebounds_iff.2 ⟨v, valley, rebound⟩)]
      exact ⟨fun room => Channel.rebound_room layers room depth, fun full => Channel.rebound_full layers full⟩
    · have below : ¬ c.rebounds f y = true := fun rebound => by
        obtain ⟨u, at', le⟩ := Channel.rebounds_iff.1 rebound
        cases valley.symm.trans at'
        omega
      rw [if_neg below, Channel.deepen_eq d valley, ← hc']
      have count : c'.runCount = c.runCount ∧ c'.runStart = c.runStart := by
        rw [hc']
        split <;> exact ⟨rfl, rfl⟩
      refine ⟨fun above confirm => ?_, fun start below hstart => ⟨fun more => ?_, fun reached => ?_⟩⟩ <;>
        rw [Channel.run]
      · rw [if_neg (by omega), Channel.breakThrough, if_neg (by simp only; omega)]
      · rw [if_pos below, count.1, count.2, ← hstart, Channel.breakThrough, if_neg (by simp only; omega)]
      · rw [if_pos below, count.1, count.2, ← hstart, Channel.breakThrough, if_pos (by exact reached)]
  · have traced := Channel.foldl_take_traced (c := Channel.grantTo h i) (seen := []) confirm ys rfl (by simpa using rising)
    rw [← hc, List.nil_append] at traced
    obtain ⟨⟨a, entry, layers, few, stacked, taken⟩, b, exit, at', below⟩ := traced.finished ended
    refine ⟨a, b, entry, exit, ?_, layers, few, by rw [Channel.grip, exit, entry], fun x mem => ?_⟩
    · rw [List.pairwise_append]
      exact ⟨stacked, List.pairwise_singleton _ _, fun x mem z last =>
        List.mem_singleton.1 last ▸ below x (by rwa [entry])⟩
    · rw [List.mem_append, List.mem_singleton] at mem
      exact mem.elim (taken x) fun e => e ▸ at'

end Sys2Proof.Machine
end

section
/-! O23 and O24: the bytes of a frame at the receive assembler (R175, R176), and the check as a division of polynomials
over the bits of the bytes. -/

namespace Sys2Proof.Machine
set_option Elab.async false

/-! ## Bytes in turn (R175, R176) -/

/-- Bytes arrive one after another, each with its stop bit. -/
def State.receive (s : State) (bytes : List Byte) : State := bytes.foldl (fun t b => t.receiveByte b true) s

theorem exec_frameReceive (bytes : List Byte) (s : State) :
    exec (.frameReceive bytes) s = .next (s.cleared.receive bytes) := rfl

/-- The state with the assembler in another state. -/
def State.assembling (s : State) (a : Assembler) : State := { s with link := s.link.to a }

/-- The state in which one more frame has been discarded (R176). -/
def State.discarded (s : State) : State :=
  { s with link := { s.link with frameErrors := min 65535 (s.link.frameErrors + 1) } }

theorem State.assembling_hunting {s : State} (hunting : s.link.assembler = .hunting) : s.assembling .hunting = s := by
  rw [State.assembling, Link.to, ← hunting]

theorem State.discard_hunting {s : State} (hunting : s.link.assembler = .hunting) (a : Assembler) :
    { s.assembling a with link := (s.assembling a).link.discard } = s.discarded := by
  have link : (s.link.to a).discard = { s.link with frameErrors := min 65535 (s.link.frameErrors + 1) } := by
    rw [Link.discard, Link.to, ← hunting]
    rfl
  rw [State.discarded, ← link]
  rfl

/-- A byte that completes no frame acts on the assembler alone. -/
theorem State.receiveByte_moves {s : State} {b : Byte} {l : Link} (h : s.link.take b = (l, none)) :
    s.receiveByte b true = { s with link := l } := by
  have byte : s.link.byte b true = (l, none) := h
  rw [State.receiveByte, byte]

theorem State.receiveByte_sorts {s : State} {b : Byte} {l : Link} {f : Frame} (h : s.link.take b = (l, some f)) :
    s.receiveByte b true = (State.sortFrame { s with link := l } f).settle := by
  have byte : s.link.byte b true = (l, some f) := h
  rw [State.receiveByte, byte]

section Bytes

variable {s : State}

theorem State.receive_cons (b : Byte) (rest : List Byte) : s.receive (b :: rest) = (s.receiveByte b true).receive rest := rfl

theorem State.receive_append (l m : List Byte) : s.receive (l ++ m) = (s.receive l).receive m := List.foldl_append

theorem State.receiveByte_start (hunting : s.link.assembler = .hunting) :
    s.receiveByte 0x5A true = s.assembling (.length 0) :=
  State.receiveByte_moves (by rw [Link.take, hunting]; rfl)

theorem State.receiveByte_passed {b : Byte} (hunting : s.link.assembler = .hunting) (other : b ≠ 0x5A) :
    s.receiveByte b true = s :=
  State.receiveByte_moves (l := s.link) (by rw [Link.take, hunting]; simp only [if_neg other])

theorem State.receive_passed {bytes : List Byte} (hunting : s.link.assembler = .hunting)
    (others : ∀ b ∈ bytes, b ≠ 0x5A) : s.receive bytes = s := by
  induction bytes with
  | nil => rfl
  | cons b rest ih =>
    rw [State.receive_cons, State.receiveByte_passed hunting (others b List.mem_cons_self)]
    exact ih fun c mem => others c (List.mem_cons_of_mem b mem)

theorem State.receiveByte_length {len : Byte} {gap : Nat} (least : 2 ≤ len.toNat) (most : len.toNat ≤ 242) :
    (s.assembling (.length gap)).receiveByte len true = s.assembling (.body len [] 0) :=
  State.receiveByte_moves (by
    simp only [Link.take, State.assembling, Link.to, if_pos (within_iff.2 ⟨least, most⟩)])

/-- LEN and all that it counts, but for the bytes taken already. -/
theorem State.receive_body {len : Byte} {got rest : List Byte} (some' : rest ≠ [])
    (length : got.length + rest.length = len.toNat) :
    (s.assembling (.body len got 0)).receive rest = s.assembling (.check len (got ++ rest) none 0) := by
  induction rest generalizing got with
  | nil => exact absurd rfl some'
  | cons b rest ih =>
    rw [List.length_cons] at length
    have byte : (s.assembling (.body len got 0)).receiveByte b true =
        s.assembling (if len.toNat ≤ got.length + 1 then .check len (got ++ [b]) none 0 else .body len (got ++ [b]) 0) :=
      State.receiveByte_moves (by
        simp only [Link.take, State.assembling, Link.to]
        split <;> rfl)
    rw [State.receive_cons, byte]
    by_cases last : rest = []
    · subst last
      rw [if_pos (by simp only [List.length_nil] at length; omega)]
      rfl
    · have := List.length_pos_iff.2 last
      rw [if_neg (by omega), ih last (by simp; omega), List.append_assoc]
      rfl

theorem State.receiveByte_high {len a : Byte} {got : List Byte} :
    (s.assembling (.check len got none 0)).receiveByte a true = s.assembling (.check len got (some a) 0) :=
  State.receiveByte_moves rfl

theorem State.receiveByte_low {len a b : Byte} {got : List Byte} (hunting : s.link.assembler = .hunting) :
    (s.assembling (.check len got (some a) 0)).receiveByte b true =
      if crc16 (len :: got) = a ++ b then (s.sortFrame (frameOf got)).settle else s.discarded := by
  have take : (s.assembling (.check len got (some a) 0)).link.take b =
      (s.assembling (.check len got (some a) 0)).link.verify len got (a ++ b) := rfl
  by_cases good : crc16 (len :: got) = a ++ b
  · rw [if_pos good]
    rw [Link.verify, if_pos good] at take
    have back : ({ s.assembling (.check len got (some a) 0) with
        link := (s.assembling (.check len got (some a) 0)).link.to .hunting } : State) = s :=
      State.assembling_hunting hunting
    rw [State.receiveByte_sorts take, back]
  · rw [if_neg good]
    rw [Link.verify, if_neg good] at take
    rw [State.receiveByte_moves take, State.discard_hunting hunting]

/-- The bytes of a frame at a hunting assembler. -/
theorem State.receive_frame {len a b : Byte} {body : List Byte} (hunting : s.link.assembler = .hunting)
    (length : body.length = len.toNat) (least : 2 ≤ len.toNat) (most : len.toNat ≤ 242) :
    s.receive (0x5A :: len :: body ++ [a, b]) =
      if crc16 (len :: body) = a ++ b then (s.sortFrame (frameOf body)).settle else s.discarded := by
  have some' : body ≠ [] := List.length_pos_iff.1 (by omega)
  rw [List.cons_append, List.cons_append, State.receive_cons, State.receiveByte_start hunting, State.receive_cons,
    State.receiveByte_length least most, State.receive_append,
    State.receive_body some' (by rw [List.length_nil]; omega), List.nil_append, State.receive_cons,
    State.receiveByte_high, State.receive_cons, State.receiveByte_low hunting]
  rfl

end Bytes

/-! ## A frame on the line (R190) -/

theorem Frame.len_toNat {f : Frame} (fits : f.payload.length ≤ 240) : f.len.toNat = f.payload.length + 2 := by
  rw [Frame.len, BitVec.toNat_ofNat, Frame.body, List.length_cons, List.length_cons]
  omega

theorem frameOf_body (f : Frame) : frameOf f.body = f := rfl

theorem highByte_append_lowByte (x : BitVec 16) : highByte x ++ lowByte x = x := by
  apply BitVec.eq_of_toNat_eq
  have := x.isLt
  simp only [highByte, lowByte, BitVec.toNat_append, BitVec.extractLsb'_toNat, Nat.shiftRight_eq_div_pow,
    Nat.shiftLeft_eq]
  rw [← Nat.shiftLeft_eq, ← Nat.shiftLeft_add_eq_or_of_lt (by omega), Nat.shiftLeft_eq]
  omega

/-- The bytes of a frame reach the sorter as that frame. -/
theorem exec_frame {s : State} {f : Frame} (hunting : s.link.assembler = .hunting) (fits : f.payload.length ≤ 240) :
    exec (.frameReceive f.bytes) s = .next (s.hostFrame f.kind f.tag f.payload) := by
  have length := Frame.len_toNat fits
  have bytes := State.receive_frame (s := s.cleared) (a := highByte f.crc) (b := lowByte f.crc) (len := f.len)
    (body := f.body) hunting (by rw [length]; rfl) (by omega) (by omega)
  rw [if_pos (show crc16 (f.len :: f.body) = _ from (highByte_append_lowByte f.crc).symm), frameOf_body] at bytes
  exact congrArg Host.Outcome.next bytes

/-! ## A reply at the sorter (R177, R179) -/

/-- The end of an event that placed one reply, its own effect leaving the link settled but for the reports. -/
theorem State.settle_replyNow {s u : State} (h : s.LinkSettled) (hl : u.link = s.link)
    (hm : u.control.restartMark = s.control.restartMark) (hc : u.ControllerRests) (f : Frame) (st : Status)
    (c : List Byte) : (u.replyNow f st c).settle = u.withImmediate ⟨f.kind, f.tag, st, c⟩ := by
  have link : (u.replyNow f st c).link = { s.link with fifo := s.link.fifo ++ [⟨f.kind, f.tag, st, c⟩] } := by
    rw [← hl]
    rfl
  rw [State.settle_replied h link hm hc, State.transmitTurn_replied h link, State.withImmediate, hl]
  split
  · rfl
  · rw [State.replyNow, hl]

theorem State.replyRoom_iff {s : State} : s.replyRoom = true ↔ s.link.fifo.length < 4 := decide_eq_true_iff

/-- A frame that the sorter answers without effect. -/
theorem State.hostFrame_answered {s : State} (h : s.Settled) {kind tag : Byte} {p : List Byte} {st : Status}
    {c : List Byte} (sorted : s.cleared.sortFrame ⟨kind, tag, p⟩ = s.cleared.replyNow ⟨kind, tag, p⟩ st c) :
    s.hostFrame kind tag p = s.cleared.withImmediate ⟨kind, tag, st, c⟩ := by
  show (s.cleared.sortFrame ⟨kind, tag, p⟩).settle = _
  rw [sorted]
  exact State.settle_replyNow (s := s) (u := s.cleared) h.2 rfl rfl h.1 _ _ _

theorem requestOf_eq_none {kind : Byte} (other : ∀ k : RequestKind, k.code ≠ kind) : requestOf kind = none := by
  rw [requestOf, List.find?_eq_none]
  intro k _
  simpa using other k

theorem directiveOf_eq_none {kind : Byte} (other : ∀ d : Directive, d.kindCode ≠ kind.toNat) : directiveOf kind = none := by
  rw [directiveOf, List.find?_eq_none]
  rintro d - same
  refine other d ?_
  rw [← beq_iff_eq.1 same, BitVec.toNat_ofNat]
  cases d <;> rfl

/-- Settles O23. -/
theorem frameRoundTrip : Obligations.FrameRoundTrip := by
  refine fun s tag hunting => ⟨fun k p fits => ?_, fun d => ?_, fun p fits => ?_, fun ready => ?_,
    fun kind p settled room fits noRequest noDirective noFlush => ?_, fun d p settled room fits some' => ?_⟩
  · rw [exec_frame hunting fits, exec_request]
    rfl
  · rw [exec_frame hunting (Nat.zero_le _), exec_directive]
    rfl
  · exact exec_frame hunting fits
  · rw [exec_frame hunting (Nat.zero_le _)]
    exact State.request_refused ready .statusRead tag [] rfl
  · rw [exec_frame hunting fits]
    refine congrArg Host.Outcome.next (State.hostFrame_answered settled ?_)
    rw [State.sortFrame, directiveOf_eq_none noDirective]
    simp only [flushKind, if_neg noFlush, requestOf_eq_none noRequest, Option.isSome_none, Bool.false_eq_true, if_false,
      State.sortUnknown, State.replyRoom_iff, State.cleared, room, if_true]
  · rw [exec_frame hunting fits]
    refine congrArg Host.Outcome.next (State.hostFrame_answered settled ?_)
    rw [State.sortFrame, directiveOf_kindCode]
    have space : s.cleared.replyRoom = true := State.replyRoom_iff.2 room
    simp only [State.sortDirective, space, Bool.true_eq_false, if_false, ne_eq, some', not_false_eq_true, if_true]

/-! ## The check (R176) -/

/-- One bit taken into the check: the register moves left by one, and the polynomial is added where the bit differs from
the one moved out. -/
def crcStep (r : BitVec 16) (bit : Bool) : BitVec 16 := (r <<< 1) ^^^ (if r.msb = bit then 0 else 0x1021)

/-- The bits of a byte, the most significant first. -/
def bitsOf (b : Byte) : List Bool :=
  [b.getLsbD 7, b.getLsbD 6, b.getLsbD 5, b.getLsbD 4, b.getLsbD 3, b.getLsbD 2, b.getLsbD 1, b.getLsbD 0]

/-- Bits that stand in the register beside its own are taken one by one from the top. -/
theorem crcBit_xor (r w : BitVec 16) : crcBit (r ^^^ w) = crcStep r w.msb ^^^ (w <<< 1) := by
  rw [crcBit, crcStep, BitVec.msb_xor, BitVec.shiftLeft_xor_distrib]
  cases r.msb <;> cases w.msb <;> simp <;> ac_rfl

/-- Eight turns take the top eight bits of what stands in the register beside its own. -/
theorem crcByte_xor (r w : BitVec 16) :
    crcBit (crcBit (crcBit (crcBit (crcBit (crcBit (crcBit (crcBit (r ^^^ w)))))))) =
      [w.getLsbD 15, w.getLsbD 14, w.getLsbD 13, w.getLsbD 12, w.getLsbD 11, w.getLsbD 10, w.getLsbD 9,
        w.getLsbD 8].foldl crcStep r ^^^ (w <<< 8) := by
  simp only [crcBit_xor, ← BitVec.shiftLeft_add, List.foldl_cons, List.foldl_nil, BitVec.msb_eq_getLsbD_last,
    BitVec.getLsbD_shiftLeft]
  simp

theorem crcByte_eq (r : BitVec 16) (b : Byte) : crcByte r b = (bitsOf b).foldl crcStep r := by
  have gone : (b.setWidth 16 <<< 8) <<< 8 = 0 := by
    rw [← BitVec.shiftLeft_add]
    exact BitVec.shiftLeft_eq_zero (by decide)
  rw [crcByte, crcByte_xor, gone, bitsOf]
  simp

theorem crc16_eq (bytes : List Byte) : crc16 bytes = (bytes.flatMap bitsOf).foldl crcStep 0xFFFF := by
  rw [crc16, List.foldl_flatMap]
  congr 1
  funext r b
  exact crcByte_eq r b

/-- The check of bytes followed by their own check is 0. -/
theorem crcByte_own (c : BitVec 16) : crcByte (crcByte c (highByte c)) (lowByte c) = 0 := by
  have zeros (w : BitVec 16) (low : ∀ i, 8 ≤ i → w.getLsbD i = false) :
      crcBit (crcBit (crcBit (crcBit (crcBit (crcBit (crcBit (crcBit w))))))) = w <<< 8 := by
    have := crcByte_xor 0 w
    rw [show 0 ^^^ w = w from BitVec.zero_xor] at this
    have still : crcStep 0 false = 0 := by decide
    rw [this, low 15 (by decide), low 14 (by decide), low 13 (by decide), low 12 (by decide), low 11 (by decide),
      low 10 (by decide), low 9 (by decide), low 8 (by decide)]
    simp only [List.foldl_cons, List.foldl_nil, still]
    exact BitVec.zero_xor
  have first : c ^^^ ((highByte c).setWidth 16 <<< 8) = (lowByte c).setWidth 16 := by
    apply BitVec.eq_of_getLsbD_eq
    intro i hi
    simp [highByte, lowByte]
    interval_cases i <;> simp
  have second : ((lowByte c).setWidth 16 <<< 8) ^^^ ((lowByte c).setWidth 16 <<< 8) = 0 := BitVec.xor_self
  rw [crcByte, crcByte, first, zeros ((lowByte c).setWidth 16) (fun i hi => by simp [lowByte, Nat.not_lt.2 hi]),
    second]
  decide

theorem Frame.bytes_eq (f : Frame) :
    f.bytes = 0x5A :: (b8 (f.payload.length + 2) ++ (f.kind :: f.tag :: f.payload)) ++
        [highByte f.crc, lowByte f.crc] ∧
      f.crc = crc16 (b8 (f.payload.length + 2) ++ (f.kind :: f.tag :: f.payload)) := ⟨rfl, rfl⟩

theorem Frame.crc16_bytes (f : Frame) : crc16 (f.bytes.drop 1) = 0 := by
  have split : f.bytes.drop 1 = (f.len :: f.body) ++ [highByte f.crc, lowByte f.crc] := rfl
  rw [split, crc16, List.foldl_append]
  exact crcByte_own f.crc

/-! ## Bytes that complete no frame (R175, R189) -/

theorem State.exec_frameGapTimeout {s : State} (h : s.Settled) {l : Link}
    (gap : s.cleared.gapExpired = { s.cleared with link := l }) (same : { l with
      assembler := s.link.assembler, frameErrors := s.link.frameErrors } = s.link) :
    exec .frameGapTimeout s = .next { s.cleared with link := l } := by
  have settled : State.Settled { s.cleared with link := l } := by
    rw [State.Settled, State.LinkSettled]
    have parts : l.sending = s.link.sending ∧ l.fifo = s.link.fifo ∧ l.slot = s.link.slot ∧
        l.requests = s.link.requests := by rw [← same]; exact ⟨rfl, rfl, rfl, rfl⟩
    obtain ⟨sending, fifo, slot, requests⟩ := parts
    simp only [sending, fifo, slot, requests]
    exact h
  show Host.Outcome.next (State.settle (s.cleared.gapExpired)) = _
  rw [gap, State.settle_settled settled]

theorem Link.abandon_eq {l : Link} (busy : l.assembler ≠ .hunting) : l.abandon =
    { l with assembler := .hunting, frameErrors := min 65535 (l.frameErrors + 1) } := by
  unfold Link.abandon
  split
  · next hunting => exact absurd hunting busy
  all_goals rfl

/-- Settles O24. -/
theorem assemblerTakesBytes : Obligations.AssemblerTakesBytes := by
  refine ⟨fun s hunting => ⟨fun len a b body length least most bad => ?_, fun len body range others => ?_⟩,
    fun s b settled => ⟨fun hunting => ⟨?_, ?_, ?_⟩, fun gap length least most => ?_, fun len got gap body => ?_,
      fun len got gap check => ?_, fun busy => ⟨?_, fun over' => ?_, fun short => ?_⟩⟩,
    crc16_eq, fun f fits => ⟨highByte f.crc, lowByte f.crc, f.bytes_eq.1, ?_, f.crc16_bytes⟩⟩
  · have bytes := State.receive_frame (s := s.cleared) hunting (a := a) (b := b) length least most
    rw [if_neg bad] at bytes
    exact congrArg Host.Outcome.next bytes
  · have discard : (s.cleared.assembling (.length 0)).receiveByte len true = s.cleared.discarded := by
      have take : (s.cleared.assembling (.length 0)).link.take len =
          ((s.cleared.assembling (.length 0)).link.discard, none) := by
        simp only [Link.take, State.assembling, Link.to, within_eq_false.2 range, Bool.false_eq_true, if_false]
      rw [State.receiveByte_moves take, State.discard_hunting (s := s.cleared) hunting]
    rw [exec_frameReceive, State.receive_cons, State.receiveByte_start (s := s.cleared) hunting, State.receive_cons,
      discard, State.receive_passed (s := s.cleared.discarded) hunting others]
    rfl
  · refine congrArg Host.Outcome.next (State.receiveByte_moves (s := s.cleared) ?_)
    rw [Link.take, show s.cleared.link.assembler = .hunting from hunting]
    simp only
    split
    · rfl
    · rw [← hunting]; rfl
  · have byte : s.cleared.link.byte b false = (s.cleared.link, none) := by
      rw [Link.byte, Link.abandon, show s.cleared.link.assembler = .hunting from hunting]
      rfl
    show Host.Outcome.next (s.cleared.receiveByte b false) = _
    rw [State.receiveByte, byte]
  · refine State.exec_frameGapTimeout settled (l := s.link) ?_ rfl
    rw [State.gapExpired, show s.cleared.link.assembler = .hunting from hunting]
    rfl
  · refine congrArg Host.Outcome.next (State.receiveByte_moves (s := s.cleared) ?_)
    rw [Link.take, show s.cleared.link.assembler = .length gap from length]
    simp only [if_pos (within_iff.2 ⟨least, most⟩)]
    rfl
  · refine congrArg Host.Outcome.next (State.receiveByte_moves (s := s.cleared) ?_)
    rw [Link.take, show s.cleared.link.assembler = .body len got gap from body]
    by_cases more : got.length + 1 < len.toNat
    · simp only [if_pos more, if_neg (Nat.not_le.2 more)]
      rfl
    · simp only [if_neg more, if_pos (Nat.not_lt.1 more)]
      rfl
  · refine congrArg Host.Outcome.next (State.receiveByte_moves (s := s.cleared) ?_)
    rw [Link.take, show s.cleared.link.assembler = .check len got none gap from check]
    rfl
  · have byte : s.cleared.link.byte b false = (s.cleared.link.abandon, none) := rfl
    show Host.Outcome.next (s.cleared.receiveByte b false) = _
    rw [State.receiveByte, byte, Link.abandon_eq (l := s.cleared.link) busy]
    rfl
  · refine State.exec_frameGapTimeout settled ?_ rfl
    rw [State.gapExpired, if_pos (by exact over'), Link.abandon_eq (l := s.cleared.link) busy]
    rfl
  · refine State.exec_frameGapTimeout settled (l := s.link) ?_ rfl
    rw [State.gapExpired, if_neg (by exact Nat.not_le.2 short)]
    rfl
  · rw [highByte_append_lowByte]
    exact f.bytes_eq.2

end Sys2Proof.Machine
end

section
/-! O22 and O25: the warm restart (R23, R70, R123, R139, R161, R173, R188), and frames that find the holding places full
or that empty them (R177 to R179, R183). -/

namespace Sys2Proof.Machine
set_option Elab.async false

/-! ## The warm restart -/

/-- The blocks of the part after the warm restart, but for the latches. -/
theorem State.warmRestart_blocks (s : State) :
    s.warmRestart.table = s.warmBlocks.table ∧ s.warmRestart.dispatcher = s.dispatcher ∧
      s.warmRestart.heads = s.warmHeads.heads ∧ s.warmRestart.signature = s.signature ∧
      s.warmRestart.heater = s.warmBlocks.heater ∧ s.warmRestart.arbiter = .cold ∧
      s.warmRestart.control = s.control.warm ∧ s.warmRestart.link = s.link.warm ∧ s.warmRestart.time = 0 ∧
      s.warmRestart.outgoing = (s.parkWhere HeadState.restarted).outgoing := by
  simp [State.warmRestart, State.warmBlocks, State.warmHeads, ModeControl.warm, Link.warm]

theorem State.warmHeads_head (s : State) (h : HeadNo) : s.warmHeads.head h =
    (if HeadState.restarted (s.head h).state then (s.head h).inPark else s.head h).warm := by
  rw [← State.parkWhere_head]
  exact Vector.getElem_map _ _

theorem Joint.warm_eq (j : Joint) : j.warm =
    { j with state := if j.state = .locked then .rejected else j.state, corrected := none, pocket := none } := by
  unfold Joint.warm Joint.unlock
  split <;> rfl

theorem Pocket.restore_eq (x : Pocket) : x.restore = if x = .disabled then .empty else x := by
  cases x <;> simp [Pocket.restore]

theorem HeadState.restarted_iff {x : HeadState} :
    x.restarted = true ↔ x = .stopped ∨ x = .fault ∨ x = .idle ∨ x = .homing := by
  cases x <;> decide

/-- The latches after the warm restart: CLEAR, but for STATION_STARTED. -/
theorem State.warmRestart_reports (s : State) :
    (∀ k, s.warmRestart.latch k = { s.latch k with
      held :=
        if k = .stationStarted then some ⟨if (s.latch k).enabled then .queued else .heldBack, 1, 0, .setup, 1⟩
        else none }) ∧
    s.warmRestart.reports.queue = if (s.latch .stationStarted).enabled then [.stationStarted] else [] := by
  have reports : s.warmHeads.reports = s.reports := (s.parkWhere_frame HeadState.restarted).2.2.2.2.2.2.1
  generalize hu : s.warmHeads.warmBlocks = u
  have cleared (k : EventKind) : u.latch k = { s.latch k with held := none } := by
    rw [← hu, State.latch, State.warmBlocks]
    simp only [reports, Reports.warm, State.latch, Fin.getElem_fin, Vector.getElem_map]
  have queue : u.reports.queue = [] := by rw [← hu]; rfl
  have first (place : Place) : u.firstRecord place 1 = ⟨place, 1, 0, .setup, 1⟩ := by rw [← hu]; rfl
  have held : (u.latch .stationStarted).held = none := by rw [cleared]
  rw [State.warmRestart, hu]
  cases enabled : (s.latch .stationStarted).enabled with
  | true =>
    rw [State.post_queued held (by rw [cleared, enabled]) (by rw [queue]; decide)]
    refine ⟨fun k => ?_, by rw [State.enqueueReport, queue]; rfl⟩
    rw [State.enqueueReport_latch, cleared, first]
    by_cases e : k = .stationStarted
    · subst e
      simp [enabled]
    · simp [e, Ne.symm e]
      exact cleared k
  | false =>
    rw [State.post_heldBack held (.inl (by rw [cleared, enabled]))]
    refine ⟨fun k => ?_, queue⟩
    rw [State.holdReport_latch, cleared, first]
    by_cases e : k = .stationStarted
    · subst e
      simp [enabled]
    · simp [e, Ne.symm e]
      exact cleared k

/-- The end of the OK reply to RESTART takes the warm restart. -/
theorem State.exec_transmitDone_restart {s : State} {tag : Byte} (marked : s.control.restartMark = true)
    (reply : s.link.sending = some ⟨0x80, tag, [0x15, 0x00]⟩) :
    exec .transmitDone s = .next s.cleared.warmRestart := by
  show Host.Outcome.next s.cleared.transmitDone = _
  rw [State.transmitDone, show s.cleared.link.sending = _ from reply]
  simp only [State.frameSent]
  rw [if_pos ⟨marked, rfl⟩]

/-- Settles O22. -/
theorem warmRestartTaken : Obligations.WarmRestartTaken := by
  intro s tag marked reply
  obtain ⟨table, dispatcher, heads, signature, heater, arbiter, control, link, time, outgoing⟩ :=
    s.cleared.warmRestart_blocks
  obtain ⟨latch, queue⟩ := s.cleared.warmRestart_reports
  refine ⟨_, State.exec_transmitDone_restart marked reply, ?_, by rw [table]; rfl, by rw [table]; rfl, dispatcher, signature,
    fun h => ?_, by rw [heater]; rfl, by rw [heater]; rfl, by rw [heater]; rfl, by rw [heater]; rfl, fun p => ?_,
    fun k => ?_, by rw [arbiter]; rfl, control, fun k => ?_, queue, link, time, ?_⟩
  · rw [table]
    exact List.map_congr_left fun j _ => j.warm_eq
  · have head : s.cleared.warmRestart.head h =
        (if HeadState.restarted (s.head h).state then (s.head h).inPark else s.head h).warm :=
      (congrArg (fun v : Vector Head 4 => v[h]) heads).trans (s.cleared.warmHeads_head h)
    simp only [head, ← HeadState.restarted_iff]
    split <;> exact ⟨rfl, rfl, rfl, rfl, rfl, rfl, rfl, rfl, rfl, rfl, rfl⟩
  · rw [State.pocket, heater, ← Pocket.restore_eq]
    exact Vector.getElem_map _ _
  · rw [State.permit, arbiter]
    exact Vector.getElem_replicate _
  · rw [latch k]
    exact ⟨rfl, rfl, rfl⟩
  · rw [outgoing, State.parkWhere_outgoing]
    have same (h : HeadNo) : (HeadState.restarted (s.head h).state && (s.head h).state == .homing) =
        ((s.head h).state == .homing) := by cases (s.head h).state <;> rfl
    exact congrArg (fun c => (headNos.filter c).map (fun h => PortOrder.drive h .stop)) (funext same)

/-! ## Full holding places (R177 to R179) -/

/-- A frame whose sorting leaves a settled state. -/
theorem State.hostFrame_settled {s u : State} {kind tag : Byte} {p : List Byte}
    (sorted : s.cleared.sortFrame ⟨kind, tag, p⟩ = u) (settled : u.Settled) : s.hostFrame kind tag p = u := by
  show (s.cleared.sortFrame ⟨kind, tag, p⟩).settle = u
  rw [sorted, State.settle_settled settled]

theorem State.sortFrame_request (s : State) (k : RequestKind) (tag : Byte) (p : List Byte) :
    s.sortFrame ⟨k.code, tag, p⟩ = s.sortRequest ⟨k.code, tag, p⟩ := by
  simp [State.sortFrame, RequestKind.code_ne_flush]

theorem State.sortFrame_directive (s : State) (d : Directive) (tag : Byte) (p : List Byte) :
    s.sortFrame ⟨BitVec.ofNat 8 d.kindCode, tag, p⟩ = s.sortDirective ⟨BitVec.ofNat 8 d.kindCode, tag, p⟩ d := by
  simp [State.sortFrame]

theorem State.sortFrame_flush (s : State) (tag : Byte) (p : List Byte) :
    s.sortFrame ⟨flushKind, tag, p⟩ = s.sortFlush ⟨flushKind, tag, p⟩ := by
  simp [State.sortFrame, show directiveOf flushKind = none by decide]

theorem State.replyRoom_full {s : State} (full : s.link.fifo.length = 4) : s.replyRoom = false := by
  rw [← Bool.not_eq_true, State.replyRoom_iff]
  omega

section Full

variable {s : State} (settled : s.Settled)
include settled

/-- A frame that finds no place for its reply is lost and counted. -/
theorem State.hostFrame_lost {kind tag : Byte} {p : List Byte}
    (sorted : s.cleared.sortFrame ⟨kind, tag, p⟩ = s.cleared.overrun) : s.hostFrame kind tag p =
      { s.cleared with link := { s.link with overruns := min 65535 (s.link.overruns + 1) } } :=
  State.hostFrame_settled sorted settled

variable (k : RequestKind) (tag : Byte) (p : List Byte)

theorem State.hostFrame_busy (waiting : s.link.requests.length = 4) (room : s.link.fifo.length < 4) :
    s.hostFrame k.code tag p = s.cleared.withImmediate ⟨k.code, tag, .busy, []⟩ := by
  refine State.hostFrame_answered settled ?_
  rw [State.sortFrame_request, State.sortRequest, if_neg (by rw [Config.maxRequests]; exact Nat.not_lt.2 waiting.ge),
    if_pos (State.replyRoom_iff (s := s.cleared).2 room)]

theorem State.hostFrame_request_lost (waiting : s.link.requests.length = 4) (full : s.link.fifo.length = 4) :
    s.hostFrame k.code tag p =
      { s.cleared with link := { s.link with overruns := min 65535 (s.link.overruns + 1) } } := by
  refine State.hostFrame_lost settled ?_
  rw [State.sortFrame_request, State.sortRequest, if_neg (by rw [Config.maxRequests]; exact Nat.not_lt.2 waiting.ge),
    if_neg (by rw [State.replyRoom_full (s := s.cleared) full]; decide)]

theorem State.hostFrame_waits (room : s.link.requests.length < 4)
    (barred : s.link.slot ≠ none ∨ s.control.restartMark = true) : s.hostFrame k.code tag p =
      { s.cleared with link := { s.link with requests := s.link.requests ++ [⟨k.code, tag, p⟩] } } := by
  refine State.hostFrame_settled ?_ ⟨settled.1, settled.2.1, .inr barred⟩
  rw [State.sortFrame_request, State.sortRequest, if_pos (by rw [Config.maxRequests]; exact room)]
  rfl

end Full

/-! ## LINK_FLUSH (R183) -/

theorem State.sendRecord_latch (s : State) (k l : EventKind) : (s.sendRecord k).latch l =
    if k = l then { s.latch k with held := (s.latch k).held.map (fun r => { r with place := .sent }) } else s.latch l := by
  cases held : (s.latch k).held with
  | none =>
    simp only [State.sendRecord, held, Option.map_none]
    split
    · next e => rw [← e, ← held]; rfl
    · rfl
  | some r =>
    simp only [State.sendRecord, held, Option.map_some]
    exact s.latch_setLatch k l { s.latch k with held := some { r with place := .sent } }

theorem State.sendRecord_queue (s : State) (k : EventKind) :
    (s.sendRecord k).reports.queue = s.reports.queue.filter (· ≠ k) := by
  unfold State.sendRecord
  split <;> rfl

/-- Sending some records away changes the report unit alone. -/
theorem State.sendKinds_reports (ks : List EventKind) (s : State) :
    ks.foldl State.sendRecord s = { s with reports := (ks.foldl State.sendRecord s).reports } := by
  induction ks generalizing s with
  | nil => rfl
  | cons k ks ih =>
    have one : s.sendRecord k = { s with reports := (s.sendRecord k).reports } := by
      unfold State.sendRecord
      split <;> rfl
    rw [List.foldl_cons, ih, one]

theorem State.sendKinds_queue (ks : List EventKind) (s : State) :
    (ks.foldl State.sendRecord s).reports.queue = s.reports.queue.filter (· ∉ ks) := by
  induction ks generalizing s with
  | nil => simp
  | cons k ks ih =>
    rw [List.foldl_cons, ih, State.sendRecord_queue, List.filter_filter]
    refine List.filter_congr fun l _ => ?_
    simp [Bool.and_comm]

theorem State.sendKinds_latch (ks : List EventKind) (s : State) (l : EventKind) :
    (ks.foldl State.sendRecord s).latch l = if l ∈ ks then
      { s.latch l with held := (s.latch l).held.map (fun r => { r with place := .sent }) } else s.latch l := by
  induction ks generalizing s with
  | nil => rfl
  | cons k ks ih =>
    rw [List.foldl_cons, ih, State.sendRecord_latch]
    by_cases first : k = l
    · subst first
      simp
      exact fun _ => rfl
    · simp [first, Ne.symm first]

/-- The state in which a flush has removed what its selector names, the freed room not yet filled. -/
def State.emptied (s : State) (n : Nat) : State :=
  let u := { s with link := { s.link with requests := if n % 2 = 1 then [] else s.link.requests } }
  if 2 ≤ n then u.reports.queue.foldl State.sendRecord u else u

theorem State.emptied_eq (s : State) (n : Nat) : s.emptied n =
    { s with link := { s.link with requests := if n % 2 = 1 then [] else s.link.requests }
             reports := (s.emptied n).reports } := by
  unfold State.emptied
  simp only
  split
  · exact State.sendKinds_reports _ _
  · rfl

theorem State.flush_eq (s : State) {n : Nat} (least : 1 ≤ n) (most : n ≤ 3) :
    s.flush n = if 2 ≤ n then (s.emptied n).fill else s.emptied n := by
  interval_cases n <;> rfl

theorem State.flushContent_eq (s : State) {n : Nat} (least : 1 ≤ n) (most : n ≤ 3) : s.flushContent n =
    b8 (if n % 2 = 1 then s.link.requests.length else 0) ++ b8 (if 2 ≤ n then s.reports.queue.length else 0) := by
  interval_cases n <;> rfl

section Flush

variable {s : State} (settled : s.Settled) (room : s.link.fifo.length < 4) (tag : Byte)
include settled room

theorem State.hostFrame_flush {n : Nat} (least : 1 ≤ n) (most : n ≤ 3) :
    s.hostFrame flushKind tag (b8 n) = (s.cleared.flush n).withImmediate ⟨flushKind, tag, .ok, s.flushContent n⟩ := by
  have named : byteAt (b8 n) 0 = n := by rw [byteAt_b8_last]; omega
  have sorted : s.cleared.sortFrame ⟨flushKind, tag, b8 n⟩ =
      (s.cleared.flush n).replyNow ⟨flushKind, tag, b8 n⟩ .ok (s.flushContent n) := by
    have space : s.cleared.replyRoom = true := State.replyRoom_iff.2 room
    simp only [State.sortFrame_flush, State.sortFlush, space, Bool.true_eq_false, if_false, b8_length, ne_eq,
      not_true_eq_false, named, within_eq_false, if_neg (show ¬ (n < 1 ∨ 3 < n) by omega)]
    rfl
  show (s.cleared.sortFrame ⟨flushKind, tag, b8 n⟩).settle = _
  rw [sorted]
  have control : (s.cleared.flush n).control = s.control := by
    simp only [State.flush]
    split <;> split <;> simp [State.dropRequests, State.cleared]
  refine State.settle_replyNow (s := { s with link := (s.cleared.flush n).link }) (u := s.cleared.flush n) ?_ rfl
    (congrArg ModeControl.restartMark control) (.of_control settled.1 control) _ _ _
  rw [State.LinkSettled, State.flush_link]
  split
  · exact ⟨settled.2.1, .inl rfl⟩
  · exact settled.2

theorem State.hostFrame_flush_badLength {p : List Byte} (length : p.length ≠ 1) :
    s.hostFrame flushKind tag p = s.cleared.withImmediate ⟨flushKind, tag, .badLength, []⟩ := by
  refine State.hostFrame_answered settled ?_
  have space : s.cleared.replyRoom = true := State.replyRoom_iff.2 room
  simp only [State.sortFrame_flush, State.sortFlush, space, Bool.true_eq_false, if_false, ne_eq, length,
    not_false_eq_true, if_true]

theorem State.hostFrame_flush_badField {n : Nat} (byte : n < 256) (bad : n = 0 ∨ 4 ≤ n) :
    s.hostFrame flushKind tag (b8 n) = s.cleared.withImmediate ⟨flushKind, tag, .badField, []⟩ := by
  refine State.hostFrame_answered settled ?_
  have space : s.cleared.replyRoom = true := State.replyRoom_iff.2 room
  have named : byteAt (b8 n) 0 = n := by rw [byteAt_b8_last]; omega
  simp only [State.sortFrame_flush, State.sortFlush, space, Bool.true_eq_false, if_false, b8_length, ne_eq,
    not_true_eq_false, named, within_eq_false, if_pos (show n < 1 ∨ 3 < n by omega)]

end Flush

/-- Settles O25. -/
theorem holdingPlacesKept : Obligations.HoldingPlacesKept := by
  refine ⟨fun s tag settled => ⟨fun k p waiting room => ?_, fun k p waiting full => ?_, fun d full => ?_, fun p full => ?_,
    fun k p room barred => ?_⟩, fun s tag settled room => ⟨fun n least most => ?_, fun p length => ?_,
    fun n byte bad => ?_⟩⟩
  · rw [exec_request]
    exact congrArg Host.Outcome.next (State.hostFrame_busy settled k tag p waiting room)
  · rw [exec_request]
    exact congrArg Host.Outcome.next (State.hostFrame_request_lost settled k tag p waiting full)
  · rw [exec_directive]
    refine congrArg Host.Outcome.next (State.hostFrame_lost settled ?_)
    rw [State.sortFrame_directive, State.sortDirective, if_pos (State.replyRoom_full (s := s.cleared) full)]
  · refine congrArg Host.Outcome.next (State.hostFrame_lost settled ?_)
    rw [State.sortFrame_flush, State.sortFlush, if_pos (State.replyRoom_full (s := s.cleared) full)]
  · rw [exec_request]
    exact congrArg Host.Outcome.next (State.hostFrame_waits settled k tag p room barred)
  · refine ⟨s.cleared.emptied n, ?_, State.emptied_eq s.cleared n, ?_, fun k => ?_⟩
    · rw [← State.flush_eq _ least most, ← State.flushContent_eq _ least most]
      exact congrArg Host.Outcome.next (State.hostFrame_flush settled room tag least most)
    · unfold State.emptied
      simp only
      split
      · rw [State.sendKinds_queue]
        exact List.filter_eq_nil_iff.2 fun k mem => by
          rw [decide_eq_true_iff]
          exact not_not.2 mem
      · rfl
    · unfold State.emptied
      simp only
      split
      · next reports =>
        rw [State.sendKinds_latch]
        exact if_congr ⟨fun mem => ⟨reports, mem⟩, And.right⟩ rfl rfl
      · next kept =>
        exact (if_neg fun h => kept h.1).symm
  · exact congrArg Host.Outcome.next (State.hostFrame_flush_badLength settled room tag length)
  · exact congrArg Host.Outcome.next (State.hostFrame_flush_badField settled room tag byte bad)

end Sys2Proof.Machine
end

section
/-! What the blocks of the part do does not depend on the requests and replies that wait in the link: every operation of
theirs gives the same state, whatever stands in the request queue and in the immediate reply FIFO. -/

namespace Sys2Proof.Machine
set_option Elab.async false

/-- The state with other requests and replies waiting. -/
def State.withQueues (s : State) (requests : List Frame) (fifo : List Reply) : State :=
  { s with link := { s.link with requests, fifo } }

section Queues

variable (s : State) (r : List Frame) (q : List Reply)

/-! ## What is read and written past the queues -/

@[simp] theorem State.withQueues_table : (s.withQueues r q).table = s.table := rfl
@[simp] theorem State.withQueues_dispatcher : (s.withQueues r q).dispatcher = s.dispatcher := rfl
@[simp] theorem State.withQueues_heads : (s.withQueues r q).heads = s.heads := rfl
@[simp] theorem State.withQueues_signature : (s.withQueues r q).signature = s.signature := rfl
@[simp] theorem State.withQueues_heater : (s.withQueues r q).heater = s.heater := rfl
@[simp] theorem State.withQueues_arbiter : (s.withQueues r q).arbiter = s.arbiter := rfl
@[simp] theorem State.withQueues_control : (s.withQueues r q).control = s.control := rfl
@[simp] theorem State.withQueues_reports : (s.withQueues r q).reports = s.reports := rfl
@[simp] theorem State.withQueues_time : (s.withQueues r q).time = s.time := rfl
@[simp] theorem State.withQueues_outgoing : (s.withQueues r q).outgoing = s.outgoing := rfl
@[simp] theorem State.withQueues_pending : (s.withQueues r q).pending = s.pending := rfl
@[simp] theorem State.withQueues_head (h : HeadNo) : (s.withQueues r q).head h = s.head h := rfl
@[simp] theorem State.withQueues_claim (h : HeadNo) : (s.withQueues r q).claim h = s.claim h := rfl
@[simp] theorem State.withQueues_joint (i : Nat) : (s.withQueues r q).joint? i = s.joint? i := rfl
@[simp] theorem State.withQueues_channel (c : ChannelNo) : (s.withQueues r q).channel c = s.channel c := rfl
@[simp] theorem State.withQueues_pocket (p : PocketNo) : (s.withQueues r q).pocket p = s.pocket p := rfl
@[simp] theorem State.withQueues_permit (k : PermitNo) : (s.withQueues r q).permit k = s.permit k := rfl
@[simp] theorem State.withQueues_latch (k : EventKind) : (s.withQueues r q).latch k = s.latch k := rfl
@[simp] theorem State.withQueues_mode : (s.withQueues r q).mode = s.mode := rfl
@[simp] theorem State.withQueues_station : (s.withQueues r q).station = s.station := rfl
@[simp] theorem State.withQueues_holderOf (i : Nat) : (s.withQueues r q).holderOf i = s.holderOf i := rfl
@[simp] theorem State.withQueues_heldJoint (h : HeadNo) : (s.withQueues r q).heldJoint h = s.heldJoint h := rfl
@[simp] theorem State.withQueues_permitOf (h : HeadNo) : (s.withQueues r q).permitOf h = s.permitOf h := rfl
@[simp] theorem State.withQueues_reportRoom : (s.withQueues r q).reportRoom = s.reportRoom := rfl
@[simp] theorem State.withQueues_firstRecord (place : Place) (n : Nat) : (s.withQueues r q).firstRecord place n = s.firstRecord place n := rfl
@[simp] theorem State.withQueues_rankBefore (a b : EventKind) : (s.withQueues r q).rankBefore a b = s.rankBefore a b := rfl
@[simp] theorem State.withQueues_waitsForRoom (k : EventKind) : (s.withQueues r q).waitsForRoom k = s.waitsForRoom k := rfl
@[simp] theorem State.withQueues_blockedBy : (s.withQueues r q).blockedBy = s.blockedBy := rfl
@[simp] theorem State.withQueues_countOf (st : JointState) : (s.withQueues r q).countOf st = s.countOf st := rfl
@[simp] theorem State.withQueues_anyInWork : (s.withQueues r q).anyInWork = s.anyInWork := rfl
@[simp] theorem State.withQueues_outOfTravel : (s.withQueues r q).outOfTravel = s.outOfTravel := rfl
@[simp] theorem State.withQueues_lockedJoints : (s.withQueues r q).lockedJoints = s.lockedJoints := rfl
@[simp] theorem State.withQueues_emptyPocket : (s.withQueues r q).emptyPocket = s.emptyPocket := rfl
@[simp] theorem State.withQueues_servable : (s.withQueues r q).servable = s.servable := rfl
@[simp] theorem State.withQueues_starvedCodes : (s.withQueues r q).starvedCodes = s.starvedCodes := rfl
@[simp] theorem State.withQueues_pocketOf (h : HeadNo) : (s.withQueues r q).pocketOf h = s.pocketOf h := rfl
@[simp] theorem State.withQueues_mayAsk (h : HeadNo) : (s.withQueues r q).mayAsk h = s.mayAsk h := rfl
@[simp] theorem State.withQueues_hotterThan (a b : HeadNo) : (s.withQueues r q).hotterThan a b = s.hotterThan a b := rfl
@[simp] theorem State.withQueues_freePermit : (s.withQueues r q).freePermit = s.freePermit := rfl
@[simp] theorem State.withQueues_bestPocket (c : RivetCode) : (s.withQueues r q).bestPocket c = s.bestPocket c := rfl
@[simp] theorem State.withQueues_search (h : HeadNo) (p : Nat) : (s.withQueues r q).search h p = s.search h p := rfl
@[simp] theorem State.withQueues_homingClaim (h : HeadNo) : (s.withQueues r q).homingClaim h = s.homingClaim h := rfl
@[simp] theorem State.withQueues_allAtRest : (s.withQueues r q).allAtRest = s.allAtRest := rfl
@[simp] theorem State.withQueues_armFault : (s.withQueues r q).armFault = s.armFault := rfl
@[simp] theorem State.withQueues_nextDirective : (s.withQueues r q).nextDirective = s.nextDirective := rfl
@[simp] theorem State.setHead_withQueues (h : HeadNo) (x : Head) :
    (s.withQueues r q).setHead h x = (s.setHead h x).withQueues r q := rfl
@[simp] theorem State.modHead_withQueues (h : HeadNo) (f : Head → Head) :
    (s.withQueues r q).modHead h f = (s.modHead h f).withQueues r q := rfl
@[simp] theorem State.setClaim_withQueues (h : HeadNo) (c : Option Claim) :
    (s.withQueues r q).setClaim h c = (s.setClaim h c).withQueues r q := rfl
@[simp] theorem State.sendDrive_withQueues (h : HeadNo) (o : DriveOrder) :
    (s.withQueues r q).sendDrive h o = (s.sendDrive h o).withQueues r q := rfl
@[simp] theorem State.sendHeater_withQueues (o : HeaterOrder) :
    (s.withQueues r q).sendHeater o = (s.sendHeater o).withQueues r q := rfl
@[simp] theorem State.enterPhase_withQueues (h : HeadNo) (p : HeadState) (n : Nat) (o : DriveOrder) :
    (s.withQueues r q).enterPhase h p n o = (s.enterPhase h p n o).withQueues r q := rfl
@[simp] theorem State.modJoint_withQueues (i : Nat) (f : Joint → Joint) :
    (s.withQueues r q).modJoint i f = (s.modJoint i f).withQueues r q := rfl
@[simp] theorem State.mapJoints_withQueues (f : Joint → Joint) :
    (s.withQueues r q).mapJoints f = (s.mapJoints f).withQueues r q := rfl
@[simp] theorem State.dropCorrected_withQueues :
    (s.withQueues r q).dropCorrected = (s.dropCorrected).withQueues r q := rfl
@[simp] theorem State.setDrillQueue_withQueues (l : List HeadNo) :
    (s.withQueues r q).setDrillQueue l = (s.setDrillQueue l).withQueues r q := rfl
@[simp] theorem State.modChannel_withQueues (c : ChannelNo) (f : Channel → Channel) :
    (s.withQueues r q).modChannel c f = (s.modChannel c f).withQueues r q := rfl
@[simp] theorem State.setPocket_withQueues (p : PocketNo) (x : Pocket) :
    (s.withQueues r q).setPocket p x = (s.setPocket p x).withQueues r q := rfl
@[simp] theorem State.setOrders_withQueues (l : List HeatOrder) :
    (s.withQueues r q).setOrders l = (s.setOrders l).withQueues r q := rfl
@[simp] theorem State.setPermit_withQueues (k : PermitNo) (g : Option PermitGrant) :
    (s.withQueues r q).setPermit k g = (s.setPermit k g).withQueues r q := rfl
@[simp] theorem State.setPermitQueue_withQueues (l : List HeadNo) :
    (s.withQueues r q).setPermitQueue l = (s.setPermitQueue l).withQueues r q := rfl
@[simp] theorem State.setLatch_withQueues (k : EventKind) (l : Latch) :
    (s.withQueues r q).setLatch k l = (s.setLatch k l).withQueues r q := rfl
@[simp] theorem State.enqueueReport_withQueues (k : EventKind) (x : Held) :
    (s.withQueues r q).enqueueReport k x = (s.enqueueReport k x).withQueues r q := rfl
@[simp] theorem State.holdReport_withQueues (k : EventKind) (x : Held) :
    (s.withQueues r q).holdReport k x = (s.holdReport k x).withQueues r q := rfl
@[simp] theorem State.setJointPocket_withQueues (i : Nat) (p : Option PocketNo) :
    (s.withQueues r q).setJointPocket i p = (s.setJointPocket i p).withQueues r q := rfl
@[simp] theorem State.ownPocket_withQueues (p : PocketNo) (i : Nat) :
    (s.withQueues r q).ownPocket p i = (s.ownPocket p i).withQueues r q := rfl
@[simp] theorem State.serveInto_withQueues (p : PocketNo) (o : HeatOrder) :
    (s.withQueues r q).serveInto p o = (s.serveInto p o).withQueues r q := rfl
@[simp] theorem State.ejectPocket_withQueues (p : PocketNo) (c : RivetCode) :
    (s.withQueues r q).ejectPocket p c = (s.ejectPocket p c).withQueues r q := rfl
@[simp] theorem State.restorePockets_withQueues :
    (s.withQueues r q).restorePockets = (s.restorePockets).withQueues r q := rfl
@[simp] theorem State.mapWaits_withQueues (f : WaitTimer → WaitTimer) :
    (s.withQueues r q).mapWaits f = (s.mapWaits f).withQueues r q := rfl
@[simp] theorem State.enterHoming_withQueues (h : HeadNo) :
    (s.withQueues r q).enterHoming h = (s.enterHoming h).withQueues r q := rfl
@[simp] theorem State.removePending_withQueues (ds : List Directive) :
    (s.withQueues r q).removePending ds = (s.removePending ds).withQueues r q := rfl
@[simp] theorem State.joinPending_withQueues (d : Directive) :
    (s.withQueues r q).joinPending d = (s.joinPending d).withQueues r q := rfl
@[simp] theorem State.lockJoints_withQueues : (s.withQueues r q).lockJoints = (s.lockJoints).withQueues r q := rfl
@[simp] theorem State.abortPermits_withQueues : (s.withQueues r q).abortPermits = (s.abortPermits).withQueues r q := rfl

/-! ## Reports and joints -/

@[simp] theorem State.post_withQueues (k : EventKind) (n : Nat) :
    (s.withQueues r q).post k n = (s.post k n).withQueues r q := by
  simp only [State.post, State.withQueues_latch, State.withQueues_reportRoom, State.withQueues_firstRecord,
    State.holdReport_withQueues, State.enqueueReport_withQueues]
  split
  · rfl
  · exact (apply_ite (State.withQueues · r q) _ _ _).symm

@[simp] theorem State.postBlocked_withQueues (was : Bool) :
    (s.withQueues r q).postBlocked was = (s.postBlocked was).withQueues r q := by
  simp only [State.postBlocked, State.withQueues_blockedBy, State.post_withQueues]
  (repeat' split) <;> rfl

@[simp] theorem State.postAdvance_withQueues (old : Option Pass) :
    (s.withQueues r q).postAdvance old = (s.postAdvance old).withQueues r q := by
  simp only [State.postAdvance, State.withQueues_table, State.withQueues_mode, State.post_withQueues]
  (repeat' split) <;> rfl

@[simp] theorem State.recompute_withQueues (was : Bool) :
    (s.withQueues r q).recompute was = (s.recompute was).withQueues r q := by
  have pass := State.postAdvance_withQueues
    { s with table := { s.table with currentPass := currentPassOf s.table.joints } } r q s.table.currentPass
  rw [State.recompute, State.recompute, ← State.postBlocked_withQueues, ← pass]
  rfl

@[simp] theorem State.changeJoint_withQueues (i : Nat) (f : Joint → Joint) :
    (s.withQueues r q).changeJoint i f = (s.changeJoint i f).withQueues r q := by
  simp [State.changeJoint]

@[simp] theorem State.setJointState_withQueues (h : HeadNo) (st : JointState) :
    (s.withQueues r q).setJointState h st = (s.setJointState h st).withQueues r q := by
  simp only [State.setJointState, State.withQueues_head, State.changeJoint_withQueues]
  split <;> rfl

end Queues

/-- Steps taken one after another, each going past the queues. -/
theorem State.foldl_withQueues {α : Type} {f : State → α → State}
    (each : ∀ s a r q, f (s.withQueues r q) a = (f s a).withQueues r q) (l : List α) (s : State) (r : List Frame)
    (q : List Reply) : l.foldl f (s.withQueues r q) = (l.foldl f s).withQueues r q := by
  induction l generalizing s with
  | nil => rfl
  | cons a l ih => rw [List.foldl_cons, each, ih, List.foldl_cons]

section Queues

variable (s : State) (r : List Frame) (q : List Reply)

@[simp] theorem State.postRejected_withQueues (is : List Nat) :
    (s.withQueues r q).postRejected is = (s.postRejected is).withQueues r q :=
  State.foldl_withQueues (fun s i r q => s.post_withQueues r q .jointRejected i) is s r q

@[simp] theorem State.computeCorrected_withQueues :
    (s.withQueues r q).computeCorrected = s.computeCorrected.withQueues r q := by
  simp [State.computeCorrected]

/-! ## Serving, permits and pre-heats -/

@[simp] theorem State.serveTurns_withQueues (n : Nat) :
    (s.withQueues r q).serveTurns n = (s.serveTurns n).withQueues r q := by
  induction n generalizing s with
  | zero => rfl
  | succ n ih =>
    simp only [State.serveTurns, State.withQueues_emptyPocket, State.withQueues_servable, State.serveInto_withQueues, ih]
    split <;> rfl

@[simp] theorem State.postStarved_withQueues (cs : List RivetCode) :
    (s.withQueues r q).postStarved cs = (s.postStarved cs).withQueues r q :=
  State.foldl_withQueues (fun s c r q => s.post_withQueues r q .magazineEmpty c.val) cs s r q

@[simp] theorem State.serve_withQueues : (s.withQueues r q).serve = s.serve.withQueues r q := by
  simp only [State.serve, State.withQueues_mode, State.withQueues_emptyPocket, State.serveTurns_withQueues,
    State.withQueues_starvedCodes, State.postStarved_withQueues]
  split <;> rfl

@[simp] theorem State.joinPermitQueue_withQueues (h : HeadNo) :
    (s.withQueues r q).joinPermitQueue h = (s.joinPermitQueue h).withQueues r q := by
  exact (apply_ite (State.withQueues · r q) (s.mayAsk h = true ∧ h ∉ s.arbiter.queue ∧ s.permitOf h = none)
    (s.setPermitQueue (insertBy s.hotterThan h s.arbiter.queue)) s).symm

@[simp] theorem State.grantPermit_withQueues (k : PermitNo) (h : HeadNo) (i : Nat) (p : PocketNo) (c : RivetCode) :
    (s.withQueues r q).grantPermit k h i p c = (s.grantPermit k h i p c).withQueues r q := by
  simp [State.grantPermit, State.enterFeed]

@[simp] theorem State.grantFront_withQueues (k : PermitNo) (h : HeadNo) :
    (s.withQueues r q).grantFront k h = (s.grantFront k h).withQueues r q := by
  simp only [State.grantFront, State.withQueues_head, State.withQueues_pocketOf, State.withQueues_pocket,
    State.grantPermit_withQueues]
  (repeat' split) <;> rfl

@[simp] theorem State.grantTurns_withQueues (n : Nat) :
    (s.withQueues r q).grantTurns n = (s.grantTurns n).withQueues r q := by
  induction n generalizing s with
  | zero => rfl
  | succ n ih =>
    simp only [State.grantTurns, State.withQueues_freePermit, State.withQueues_arbiter, State.setPermitQueue_withQueues,
      State.grantFront_withQueues, ih]
    split <;> rfl

@[simp] theorem State.grantAll_withQueues : (s.withQueues r q).grantAll = s.grantAll.withQueues r q :=
  s.grantTurns_withQueues r q _

@[simp] theorem State.requestPermit_withQueues (h : HeadNo) :
    (s.withQueues r q).requestPermit h = (s.requestPermit h).withQueues r q := by
  simp [State.requestPermit]

@[simp] theorem State.reRaise_withQueues : (s.withQueues r q).reRaise = s.reRaise.withQueues r q := by
  rw [State.reRaise, State.foldl_withQueues (fun s h r q => s.joinPermitQueue_withQueues r q h), State.grantAll_withQueues]
  rfl

@[simp] theorem State.tellReady_withQueues (i : Nat) :
    (s.withQueues r q).tellReady i = (s.tellReady i).withQueues r q := by
  simp only [State.tellReady, State.withQueues_holderOf, State.requestPermit_withQueues]
  split <;> rfl

@[simp] theorem State.takePocket_withQueues (p : PocketNo) (i : Nat) :
    (s.withQueues r q).takePocket p i = (s.takePocket p i).withQueues r q := by
  simp [State.takePocket]

@[simp] theorem State.seekAs_withQueues (i : Nat) (c : RivetCode) (cls : OrderClass) (front : Bool) :
    (s.withQueues r q).seekAs i c cls front = (s.seekAs i c cls front).withQueues r q := by
  simp only [State.seekAs, State.withQueues_bestPocket, State.withQueues_heater, State.takePocket_withQueues,
    State.setOrders_withQueues, State.serve_withQueues]
  split <;> rfl

@[simp] theorem State.preHeat_withQueues (i : Nat) : (s.withQueues r q).preHeat i = (s.preHeat i).withQueues r q := by
  simp only [State.preHeat, State.withQueues_joint, State.withQueues_heater, State.seekAs_withQueues]
  (repeat' split) <;> rfl

/-! ## Dispatch rounds -/

@[simp] theorem State.assign_withQueues (h : HeadNo) (p i t : Nat) :
    (s.withQueues r q).assign h p i t = (s.assign h p i t).withQueues r q := by
  simp [State.assign]

@[simp] theorem State.serveHead_withQueues (h : HeadNo) :
    (s.withQueues r q).serveHead h = (s.serveHead h).withQueues r q := by
  simp only [State.serveHead, State.withQueues_head, State.withQueues_search, State.withQueues_joint,
    State.assign_withQueues]
  (repeat' split) <;> rfl

@[simp] theorem State.round_withQueues : (s.withQueues r q).round = s.round.withQueues r q := by
  rw [State.round, State.foldl_withQueues (fun s h r q => s.serveHead_withQueues r q h), State.withQueues_mode, State.round]
  split <;> rfl

/-! ## Modes and what is watched -/

@[simp] theorem State.enterMode_withQueues (m : Mode) :
    (s.withQueues r q).enterMode m = (s.enterMode m).withQueues r q :=
  State.post_withQueues { s with control := { s.control with mode := m, inProgress := m.progress } } r q .modeChanged m.code

@[simp] theorem State.completeProgram_withQueues :
    (s.withQueues r q).completeProgram = s.completeProgram.withQueues r q := by
  simp [State.completeProgram]

@[simp] theorem State.programTest_withQueues : (s.withQueues r q).programTest = s.programTest.withQueues r q := by
  simp only [State.programTest, State.withQueues_mode, State.withQueues_table, State.completeProgram_withQueues]
  split <;> rfl

@[simp] theorem State.drainTest_withQueues : (s.withQueues r q).drainTest = s.drainTest.withQueues r q := by
  simp only [State.drainTest, State.withQueues_mode, State.withQueues_anyInWork, State.enterMode_withQueues]
  split <;> rfl

@[simp] theorem State.holdTest_withQueues : (s.withQueues r q).holdTest = s.holdTest.withQueues r q := by
  simp only [State.holdTest, State.withQueues_mode, State.withQueues_allAtRest, State.enterMode_withQueues]
  split <;> rfl

@[simp] theorem State.settleJoint_withQueues (old : Option Pass) :
    (s.withQueues r q).settleJoint old = (s.settleJoint old).withQueues r q := by
  have gone : (s.withQueues r q).passGone old = (s.passGone old).withQueues r q := by
    simp only [State.passGone, State.programTest_withQueues]
    split <;> rfl
  simp only [State.settleJoint, gone, State.drainTest_withQueues, State.roundIfPassChanged, State.withQueues_table,
    State.round_withQueues]
  split <;> rfl

/-! ## Heads out of work -/

@[simp] theorem State.park_withQueues (h : HeadNo) : (s.withQueues r q).park h = (s.park h).withQueues r q := by
  have stop : (s.withQueues r q).stopHoming h = (s.stopHoming h).withQueues r q :=
    (apply_ite (State.withQueues · r q) ((s.head h).state = .homing) (s.sendDrive h .stop) s).symm
  rw [State.park, stop, State.modHead_withQueues, State.park]

@[simp] theorem State.parkWhere_withQueues (which : HeadState → Bool) :
    (s.withQueues r q).parkWhere which = (s.parkWhere which).withQueues r q :=
  State.foldl_withQueues (fun s h r q => by
    simp only [State.withQueues_head, State.park_withQueues]
    exact (apply_ite (State.withQueues · r q) _ _ _).symm) headNos s r q

@[simp] theorem State.homeAll_withQueues : (s.withQueues r q).homeAll = s.homeAll.withQueues r q :=
  State.foldl_withQueues (fun s h r q => by
    simp only [State.withQueues_head, State.enterHoming_withQueues]
    exact (apply_ite (State.withQueues · r q) _ _ _).symm) headNos s r q

@[simp] theorem State.stopHeads_withQueues : (s.withQueues r q).stopHeads = s.stopHeads.withQueues r q :=
  State.foldl_withQueues (fun s h r q => by
    simp only [State.withQueues_head, State.modHead_withQueues, State.sendDrive_withQueues]
    exact (apply_ite (State.withQueues · r q) _ _ _).symm) headNos s r q

@[simp] theorem State.abortChannels_withQueues : (s.withQueues r q).abortChannels = s.abortChannels.withQueues r q := by
  rw [State.abortChannels, State.foldl_withQueues (fun s c r q => s.modChannel_withQueues r q c _),
    State.setDrillQueue_withQueues]
  rfl

@[simp] theorem State.ejectAll_withQueues : (s.withQueues r q).ejectAll = s.ejectAll.withQueues r q := by
  have each (s : State) (p : PocketNo) (r : List Frame) (q : List Reply) :
      (s.withQueues r q).ejectIfLoaded p = (s.ejectIfLoaded p).withQueues r q := by
    simp only [State.ejectIfLoaded, State.withQueues_pocket, State.ejectPocket_withQueues]
    split <;> rfl
  rw [State.ejectAll, State.foldl_withQueues each, State.setOrders_withQueues, State.mapJoints_withQueues]
  rfl

/-! ## The directives -/

@[simp] theorem State.executeArm_withQueues : (s.withQueues r q).executeArm = s.executeArm.withQueues r q := by
  simp only [State.executeArm, State.enterMode_withQueues, State.withQueues_armFault, State.post_withQueues,
    State.computeCorrected_withQueues, State.homeAll_withQueues]
  split <;> rfl

@[simp] theorem State.beginRunning_withQueues : (s.withQueues r q).beginRunning = s.beginRunning.withQueues r q := by
  simp [State.beginRunning]

@[simp] theorem State.backToWork_withQueues : (s.withQueues r q).backToWork = s.backToWork.withQueues r q := by
  simp [State.backToWork]

/-- What a directive does goes past the requests and replies that wait. -/
@[simp] theorem State.perform_withQueues (d : Directive) :
    (s.withQueues r q).perform d = (s.perform d).withQueues r q := by
  cases d with
  | abort => simp [State.perform, State.executeAbort]
  | recover => simp [State.perform, State.executeRecover]
  | drain =>
    simp only [State.perform, State.executeDrain, State.withQueues_mode, State.enterMode_withQueues,
      State.backToWork_withQueues, State.drainTest_withQueues]
    split <;> rfl
  | hold => simp [State.perform, State.executeHold]
  | resume => simp [State.perform, State.executeResume]
  | start => simp [State.perform, State.executeStart]
  | disarm => simp [State.perform, State.executeDisarm]
  | arm => simp [State.perform]

@[simp] theorem State.execute_withQueues (d : Directive) :
    (s.withQueues r q).execute d = (s.execute d).withQueues r q := by
  simp [State.execute]

@[simp] theorem State.takeDirective_withQueues (d : Directive) :
    (s.withQueues r q).takeDirective d = (s.takeDirective d).withQueues r q := by
  simp only [State.takeDirective, State.withQueues_mode, State.removePending_withQueues, State.execute_withQueues,
    State.post_withQueues]
  split <;> rfl

@[simp] theorem State.controllerTurn_withQueues : (s.withQueues r q).controllerTurn = s.controllerTurn.withQueues r q := by
  have turns (n : Nat) (s : State) : (s.withQueues r q).takeTurns n = (s.takeTurns n).withQueues r q := by
    induction n generalizing s with
    | zero => rfl
    | succ n ih =>
      simp only [State.takeTurns, State.withQueues_mode, State.withQueues_nextDirective, State.takeDirective_withQueues, ih]
      (repeat' split) <;> rfl
  simp only [State.controllerTurn, State.withQueues_control, turns]
  split <;> rfl

/-- A reply placed at the sorter is one more that waits. -/
theorem State.replyNow_eq_withQueues (f : Frame) (st : Status) (c : List Byte) :
    s.replyNow f st c = s.withQueues s.link.requests (s.link.fifo ++ [⟨f.kind, f.tag, st, c⟩]) := rfl

end Queues

end Sys2Proof.Machine
end

section
/-! Requests go past the link's queues: no request but STATUS_READ looks at the requests and immediate replies that wait. -/

namespace Sys2Proof.Machine
set_option Elab.async false

/-! ## Requests go past the queues -/

/-- An answer with other requests and replies waiting. -/
def Answer.withQueues (a : Answer) (r : List Frame) (q : List Reply) : Answer := ⟨a.state.withQueues r q, a.status, a.content⟩

section Queues

variable (s : State) (r : List Frame) (q : List Reply)

@[simp] theorem Answer.withQueues_ite {c : Prop} [Decidable c] (a b : Answer) :
    (if c then a else b).withQueues r q = if c then a.withQueues r q else b.withQueues r q :=
  apply_ite (Answer.withQueues · r q) c a b

theorem checked_withQueues (modeOk : Bool) (n : Nat) (p : List Byte) (rest : Answer) :
    checked modeOk n (s.withQueues r q) p (rest.withQueues r q) = (checked modeOk n s p rest).withQueues r q := by
  simp only [checked, Answer.withQueues_ite]
  rfl

/-- So is one whose own checks and effects go past the queues. -/
theorem checked_alike {modeOk : Bool} {n : Nat} {p : List Byte} {a b : Answer} (alike : a = b.withQueues r q) :
    checked modeOk n (s.withQueues r q) p a = (checked modeOk n s p b).withQueues r q := by
  rw [alike, checked_withQueues]

/-- And a test that does not look at the queues. -/
theorem Answer.ite_alike {c : Prop} [Decidable c] {a a' b b' : Answer} (taken : a' = a.withQueues r q)
    (refused : b' = b.withQueues r q) : (if c then a' else b') = (if c then a else b).withQueues r q := by
  rw [taken, refused, Answer.withQueues_ite]

theorem withHead_withQueues {f g : HeadNo → Answer} (each : ∀ h, g h = (f h).withQueues r q) (p : List Byte) :
    withHead (s.withQueues r q) p g = (withHead s p f).withQueues r q := by
  unfold withHead
  split
  · rfl
  · exact each _

@[simp] theorem State.setJoints_withQueues (js : List Joint) :
    (s.withQueues r q).setJoints js = (s.setJoints js).withQueues r q :=
  State.recompute_withQueues { s with table := { s.table with joints := js } } r q _

theorem State.jointLoad_withQueues (p : List Byte) : (s.withQueues r q).jointLoad p = (s.jointLoad p).withQueues r q := by
  simp only [State.jointLoad, State.withQueues_mode, State.withQueues_table, State.setJoints_withQueues,
    Answer.withQueues_ite]
  split
  · rfl
  · split
    · rfl
    · split
      · rfl
      · simp only [Answer.withQueues_ite]
        rfl

theorem State.jointSkip_withQueues (p : List Byte) : (s.withQueues r q).jointSkip p = (s.jointSkip p).withQueues r q := by
  rw [State.jointSkip, State.jointSkip, ← checked_withQueues]
  congr 1
  simp only [State.withQueues_joint, State.changeJoint_withQueues, State.withQueues_table, State.settleJoint_withQueues]
  split
  · rfl
  · rw [Answer.withQueues_ite]
    rfl

theorem State.jointRework_withQueues (p : List Byte) :
    (s.withQueues r q).jointRework p = (s.jointRework p).withQueues r q := by
  rw [State.jointRework, State.jointRework, ← checked_withQueues]
  congr 1
  simp only [State.withQueues_joint, State.changeJoint_withQueues,
    show ∀ j, (s.withQueues r q).reworkPosition j = s.reworkPosition j from fun _ => rfl]
  split
  · rfl
  · rw [Answer.withQueues_ite, Answer.withQueues_ite]
    congr 2
    split <;> rfl

theorem State.stationSet_withQueues (p : List Byte) :
    (s.withQueues r q).stationSet p = (s.stationSet p).withQueues r q := by
  have settings : ((s.withQueues r q).takeSettings (settingsOf p)).dropClaims =
      (s.takeSettings (settingsOf p)).dropClaims.withQueues r q := rfl
  have taken (u : State) : done (u.withQueues r q).dropPositions [] = (done u.dropPositions []).withQueues r q := rfl
  refine checked_alike s r q (Answer.ite_alike r q ?_ rfl)
  rw [settings, State.parkWhere_withQueues, taken]

theorem State.permissiveSet_withQueues (p : List Byte) :
    (s.withQueues r q).permissiveSet p = (s.permissiveSet p).withQueues r q := by
  have changed (f : Vector Bool 4) :
      (if f = s.dispatcher.flags then s.withQueues r q else ((s.withQueues r q).setFlags f).round) =
        (if f = s.dispatcher.flags then s else (s.setFlags f).round).withQueues r q := by
    rw [apply_ite (State.withQueues · r q), ← State.round_withQueues]
    rfl
  exact checked_alike s r q (Answer.ite_alike r q (congrArg (done · _) (changed _)) rfl)

theorem State.bringBackFrom_withQueues (p : List Byte) (from' : HeadState) :
    (s.withQueues r q).bringBackFrom p from' = (s.bringBackFrom p from').withQueues r q := by
  have back (h : HeadNo) : (s.withQueues r q).bringBack h = (s.bringBack h).withQueues r q := by
    simp only [State.bringBack, State.withQueues_mode, State.park_withQueues, State.enterHoming_withQueues,
      State.round_withQueues]
    exact (apply_ite (State.withQueues · r q) _ _ _).symm
  have brought (h : HeadNo) :
      (if ((s.withQueues r q).head h).state = from' then
        done ((s.withQueues r q).bringBack h) (b8 (((s.withQueues r q).bringBack h).head h).state.code)
      else refuse (s.withQueues r q) .wrongState) =
      (if (s.head h).state = from' then done (s.bringBack h) (b8 ((s.bringBack h).head h).state.code)
      else refuse s .wrongState).withQueues r q := by
    rw [Answer.withQueues_ite, back]
    generalize s.bringBack h = u
    rfl
  rw [State.bringBackFrom, State.bringBackFrom, ← checked_withQueues]
  exact congrArg (checked _ 1 (s.withQueues r q) p) (withHead_withQueues s r q brought p)

theorem State.headDisable_withQueues (p : List Byte) :
    (s.withQueues r q).headDisable p = (s.headDisable p).withQueues r q := by
  rw [State.headDisable, State.headDisable, ← checked_withQueues]
  congr 1
  refine withHead_withQueues s r q (fun h => ?_) p
  have test := State.holdTest_withQueues (s.takeOffline h) r q
  rw [Answer.withQueues_ite]
  exact congrArg (fun u => if (s.head h).state.canDisable then done u [] else _) test

theorem State.magazineSet_withQueues (p : List Byte) :
    (s.withQueues r q).magazineSet p = (s.magazineSet p).withQueues r q := by
  rw [State.magazineSet, State.magazineSet, ← checked_withQueues]
  congr 1
  split
  · rfl
  · exact congrArg (done · _) (State.serve_withQueues (s.setMagazine _ _) r q)

/-- Filling goes past the queues. -/
@[simp] theorem State.fill_withQueues : (s.withQueues r q).fill = s.fill.withQueues r q := by
  have one (s : State) : (s.withQueues r q).fillOne = s.fillOne.withQueues r q := by
    have next : pickFirst (s.withQueues r q).rankBefore (EventKind.all.filter (s.withQueues r q).waitsForRoom) =
        pickFirst s.rankBefore (EventKind.all.filter s.waitsForRoom) := rfl
    simp only [State.fillOne, State.withQueues_reportRoom, next, State.withQueues_latch,
      State.enqueueReport_withQueues]
    rw [apply_ite (State.withQueues · r q)]
    congr 1
    split
    · rfl
    · split <;> rfl
  have turns (n : Nat) (s : State) : (s.withQueues r q).fillTurns n = (s.fillTurns n).withQueues r q := by
    induction n generalizing s with
    | zero => rfl
    | succ n ih => rw [State.fillTurns, one, ih, State.fillTurns]
  exact turns _ s

theorem State.eventConfig_withQueues (p : List Byte) :
    (s.withQueues r q).eventConfig p = (s.eventConfig p).withQueues r q := by
  have configured (k : EventKind) (e : Bool) (n : Fin 8) :
      (s.withQueues r q).configureKind k e n = (s.configureKind k e n).withQueues r q := by
    simp only [State.configureKind, State.withQueues_latch, State.setLatch_withQueues, State.withQueues_reportRoom,
      State.enqueueReport_withQueues]
    split
    · rfl
    · exact (apply_ite (State.withQueues · r q) _ _ _).symm
  rw [State.eventConfig, State.eventConfig, ← checked_withQueues]
  congr 1
  split
  · rw [Answer.withQueues_ite, configured]
    rfl
  · rfl
  · rfl

theorem State.eventAck_withQueues (p : List Byte) : (s.withQueues r q).eventAck p = (s.eventAck p).withQueues r q := by
  have cleared (ks : List EventKind) : (s.withQueues r q).acknowledge ks = (s.acknowledge ks).withQueues r q := by
    rw [State.acknowledge, State.foldl_withQueues (f := State.clearLatch) (fun _ _ _ _ => rfl), State.fill_withQueues]
    rfl
  have taken (ks : List EventKind) (c : List Byte) :
      done ((s.withQueues r q).acknowledge ks) c = (done (s.acknowledge ks) c).withQueues r q := by
    rw [cleared]
    generalize s.acknowledge ks = u
    rfl
  refine checked_alike s r q (Answer.ite_alike r q ?_ rfl)
  rw [taken]
  rfl

theorem State.filterSet_withQueues (p : List Byte) : (s.withQueues r q).filterSet p = (s.filterSet p).withQueues r q := by
  simp only [State.filterSet, Answer.withQueues_ite]
  rfl

theorem State.rivetTableSet_withQueues (p : List Byte) :
    (s.withQueues r q).rivetTableSet p = (s.rivetTableSet p).withQueues r q := by
  have taken (es : List RivetEntry) : (s.withQueues r q).takeEntries es = (s.takeEntries es).withQueues r q := by
    simp only [State.takeEntries, State.withQueues_mode,
      show (s.withQueues r q).undefinedEntry es = s.undefinedEntry es from rfl]
    split <;> rfl
  simp only [State.rivetTableSet, Answer.withQueues_ite, taken, State.withQueues_mode]
  congr 2
  split <;> rfl

/-- A request that does not count the requests waiting is executed alike whatever waits. -/
theorem State.answer_withQueues {k : RequestKind} (other : k ≠ .statusRead) (p : List Byte) :
    (s.withQueues r q).answer p k = (s.answer p k).withQueues r q := by
  cases k with
  | statusRead => exact absurd rfl other
  | jointLoad => exact s.jointLoad_withQueues r q p
  | jointSkip => exact s.jointSkip_withQueues r q p
  | jointRework => exact s.jointRework_withQueues r q p
  | stationSet => exact s.stationSet_withQueues r q p
  | permissiveSet => exact s.permissiveSet_withQueues r q p
  | headEnable => exact s.bringBackFrom_withQueues r q p .offline
  | headReset => exact s.bringBackFrom_withQueues r q p .fault
  | headDisable => exact s.headDisable_withQueues r q p
  | magazineSet => exact s.magazineSet_withQueues r q p
  | filterSet => exact s.filterSet_withQueues r q p
  | rivetTableSet => exact s.rivetTableSet_withQueues r q p
  | eventConfig => exact s.eventConfig_withQueues r q p
  | eventAck => exact s.eventAck_withQueues r q p
  | jointClear =>
    rw [State.answer, State.answer, State.jointClear, State.jointClear, State.setJoints_withQueues, ← checked_withQueues]
    rfl
  | jointRead =>
    rw [State.answer, State.answer, State.jointRead, State.jointRead, ← checked_withQueues]
    congr 1
    simp only [State.withQueues_joint]
    split <;> rfl
  | jointFind =>
    rw [State.answer, State.answer, State.jointFind, State.jointFind, ← checked_withQueues]
    congr 1
    simp only [show (s.withQueues r q).findId (u16At p 0) = s.findId (u16At p 0) from rfl]
    split <;> rfl
  | datumSet =>
    rw [State.answer, State.answer, State.datumSet, State.datumSet, ← checked_withQueues]
    congr 1
    split
    · rfl
    · rw [Answer.withQueues_ite]
      rfl
  | restart =>
    rw [State.answer, State.answer, State.restart, State.restart, ← checked_withQueues, Answer.withQueues_ite]
    rfl
  | headRead =>
    rw [State.answer, State.answer, State.headRead, State.headRead, ← checked_withQueues]
    congr 1
    exact withHead_withQueues s r q (f := fun h => done s (s.headContent h)) (fun _ => rfl) p
  | peckSet =>
    rw [State.answer, State.answer, State.peckSet, State.peckSet, ← checked_withQueues]
    congr 1
    refine withHead_withQueues s r q (fun h => ?_) p
    split <;> rfl
  | channelRead =>
    rw [State.answer, State.answer, State.channelRead, State.channelRead, ← checked_withQueues]
    congr 1
    split <;> rfl
  | rivetClassSet =>
    rw [State.answer, State.answer, State.rivetClassSet, State.rivetClassSet, ← checked_withQueues]
    congr 1
    split
    · rfl
    · simp only [State.defineClass, Answer.withQueues_ite]
      rfl
  | datumRead => exact checked_withQueues s r q true 0 p (done s (s.table.datum.toList.flatMap bs16))
  | stationRead => exact checked_withQueues s r q true 0 p (done s s.stationContent)
  | filterRead => exact checked_withQueues s r q true 0 p (done s s.signature.filter.bytes)
  | heaterRead => exact checked_withQueues s r q true 0 p (done s s.heaterContent)
  | eventRead => exact checked_withQueues s r q true 0 p (done s s.eventContent)

end Queues

end Sys2Proof.Machine
end

section
/-! O26: the transmitter's choice, what an emptied slot lets go on, and filling. -/

namespace Sys2Proof.Machine
set_option Elab.async false

/-! ## The first in rank order -/

/-- A ranking's choice is the member that goes ahead of all others. -/
theorem pickFirst_eq {α : Type} {before : α → α → Bool} {a : α} {l : List α} (mem : a ∈ l)
    (first : ∀ b ∈ l, b ≠ a → before a b = true ∧ before b a = false) : pickFirst before l = some a := by
  induction l with
  | nil => cases mem
  | cons b l ih =>
    have rest (c : α) (inside : c ∈ l) : c ≠ a → before a c = true ∧ before c a = false :=
      first c (List.mem_cons_of_mem b inside)
    rw [pickFirst]
    by_cases here : a ∈ l
    · rw [ih here rest]
      by_cases same : b = a
      · rw [same]
        exact ite_self _
      · exact if_pos (first b List.mem_cons_self same).1
    · obtain rfl : a = b := by simpa [here] using mem
      split
      · rfl
      · next c best =>
        have inside := pickFirst_mem best
        exact if_neg (by simp [(rest c inside (fun same => here (same ▸ inside))).2])

theorem State.rankBefore_eq_false {s : State} {a b : EventKind} (ahead : s.RanksBefore a b) :
    s.rankBefore b a = false := by
  rw [← Bool.not_eq_true, State.rankBefore_iff]
  exact fun back => State.RanksBefore.irrefl (ahead.trans back)

/-- The report that goes ahead of all others of a list is its first in rank order. -/
theorem State.pickFirst_rank {s : State} {k : EventKind} {l : List EventKind} (mem : k ∈ l)
    (first : ∀ k' ∈ l, k' ≠ k → s.RanksBefore k k') : pickFirst s.rankBefore l = some k :=
  pickFirst_eq mem fun k' inside other =>
    have ahead := first k' inside other
    ⟨State.rankBefore_iff.2 ahead, State.rankBefore_eq_false ahead⟩

/-! ## Filling (R168) -/

/-- Filling has nothing to do where the queue is full or no kind waits for room. -/
def State.Filled (s : State) : Prop := s.reportRoom = false ∨ s.NoneWaits

theorem State.fillOne_filled {s : State} (filled : s.Filled) : s.fillOne = s := by
  rcases filled with full | none
  · simp [State.fillOne, full]
  · have noKind : EventKind.all.filter s.waitsForRoom = [] := List.filter_eq_nil_iff.2 fun k _ => by simp [none k]
    simp only [State.fillOne, noKind, pickFirst, ite_self]

theorem State.fillTurns_filled {s : State} (filled : s.Filled) (n : Nat) : s.fillTurns n = s := by
  induction n with
  | zero => rfl
  | succ n ih => rw [State.fillTurns, State.fillOne_filled filled, ih]

theorem State.fill_filled {s : State} (filled : s.Filled) : s.fill = s := State.fillTurns_filled filled _

/-- Turns of filling fill the queue, leave nothing waiting, or take a kind each. -/
theorem State.fillTurns_reach (n : Nat) (s : State) :
    (s.fillTurns n).Filled ∨ s.reports.queue.length + n ≤ (s.fillTurns n).reports.queue.length := by
  induction n generalizing s with
  | zero => exact .inr (Nat.le_refl _)
  | succ n ih =>
    rw [State.fillTurns]
    rcases s.fillOne_cases with ⟨same, filled⟩ | ⟨k, r, -, -, -, entered⟩
    · rw [same, State.fillTurns_filled filled]
      exact .inl filled
    · refine (ih s.fillOne).imp id fun more => ?_
      have : s.fillOne.reports.queue.length = s.reports.queue.length + 1 := by simp [entered, State.enqueueReport]
      omega

theorem State.fillTurns_add (m n : Nat) (s : State) : s.fillTurns (m + n) = (s.fillTurns m).fillTurns n := by
  induction m generalizing s with
  | zero => rw [Nat.zero_add, State.fillTurns]
  | succ m ih => rw [Nat.succ_add, State.fillTurns, ih, State.fillTurns]

/-- One turn before filling makes no difference, filling having turns enough. -/
theorem State.fill_fillOne (s : State) (room : 1 ≤ s.fillOne.reports.queue.length) : s.fillOne.fill = s.fill := by
  have last : (s.fillOne.fillTurns 7).Filled := by
    rcases State.fillTurns_reach 7 s.fillOne with filled | long
    · exact filled
    · exact .inl (Bool.eq_false_iff.2 fun free => by have := State.reportRoom_iff.1 free; omega)
  calc s.fillOne.fill = (s.fillOne.fillTurns 7).fillTurns 1 := State.fillTurns_add 7 1 _
    _ = s.fillOne.fillTurns 7 := State.fillTurns_filled last 1
    _ = s.fill := rfl

/-- Filling does not look at the link. -/
theorem State.fill_withLink (s : State) (l : Link) : ({ s with link := l } : State).fill = { s.fill with link := l } := by
  have one (s : State) : ({ s with link := l } : State).fillOne = { s.fillOne with link := l } := by
    have next : pickFirst ({ s with link := l } : State).rankBefore
        (EventKind.all.filter ({ s with link := l } : State).waitsForRoom) =
        pickFirst s.rankBefore (EventKind.all.filter s.waitsForRoom) := rfl
    unfold State.fillOne
    rw [next, apply_ite (fun u : State => ({ u with link := l } : State))]
    refine ite_congr rfl (fun _ => ?_) fun _ => rfl
    cases pickFirst s.rankBefore (EventKind.all.filter s.waitsForRoom) with
    | none => rfl
    | some k =>
      have same : (({ s with link := l } : State).latch k).held = (s.latch k).held := rfl
      simp only [same]
      cases (s.latch k).held <;> rfl
  have turns (n : Nat) (s : State) : ({ s with link := l } : State).fillTurns n = { s.fillTurns n with link := l } := by
    induction n generalizing s with
    | zero => rfl
    | succ n ih => rw [State.fillTurns, one, ih, State.fillTurns]
  exact turns _ s

theorem State.fill_full {s : State} (done : 8 ≤ s.reports.queue.length ∨ s.NoneWaits) : s.fill = s :=
  State.fill_filled (done.imp_left fun full =>
    Bool.eq_false_iff.2 fun free => by have := State.reportRoom_iff.1 free; omega)

/-- Filling takes the waiting kind that is first in rank order, and goes on. -/
theorem State.fill_takes {s : State} {k : EventKind} {r : Held} (room : s.reports.queue.length < 8)
    (enabled : (s.latch k).enabled = true) (held : (s.latch k).held = some r) (back : r.place = .heldBack)
    (first : ∀ k', (s.latch k').enabled = true → (∃ r', (s.latch k').held = some r' ∧ r'.place = .heldBack) →
      k' ≠ k → s.RanksBefore k k') : s.fill = (s.enqueueReport k r).fill := by
  have waits (k' : EventKind) : s.waitsForRoom k' = true ↔
      (s.latch k').enabled = true ∧ ∃ r', (s.latch k').held = some r' ∧ r'.place = .heldBack := by
    simp [State.waitsForRoom, Option.any_eq_true]
  have chosen : pickFirst s.rankBefore (EventKind.all.filter s.waitsForRoom) = some k := by
    refine State.pickFirst_rank (List.mem_filter.2 ⟨EventKind.mem_all k, (waits k).2 ⟨enabled, r, held, back⟩⟩) ?_
    intro k' inside other
    obtain ⟨on, waiting⟩ := (waits k').1 (List.mem_filter.1 inside).2
    exact first k' on waiting other
  have one : s.fillOne = s.enqueueReport k r := by
    simp [State.fillOne, State.reportRoom, Config.maxReports, room, chosen, held]
  rw [← one, State.fill_fillOne s (by simp [one, State.enqueueReport])]

/-! ## The transmitter's choice (R167, R181) -/

/-- The frame of a report (R194). -/
def reportFrameOf (k : EventKind) (r : Held) : Frame :=
  ⟨0x81, 0, b8 k.index.val ++ b16 r.subject ++ b32 r.first.toNat ++ b8 r.mode.code ++ b8 r.count⟩

/-- The state whose report of a kind has been sent, the freed room filled (R167, R168). -/
def State.reportSent (s : State) (k : EventKind) (r : Held) : State :=
  State.fill { s with reports :=
    { latches := s.reports.latches.set k.index { s.latch k with held := some { r with place := .sent } }
      queue := s.reports.queue.filter (· ≠ k) } }

theorem State.reportSent_withLink (s : State) (l : Link) (k : EventKind) (r : Held) :
    ({ s with link := l } : State).reportSent k r = { s.reportSent k r with link := l } :=
  State.fill_withLink { s with reports :=
    { latches := s.reports.latches.set k.index { s.latch k with held := some { r with place := .sent } }
      queue := s.reports.queue.filter (· ≠ k) } } l

theorem State.startReport_eq {s : State} {k : EventKind} {r : Held} (held : (s.latch k).held = some r) :
    s.startReport k = { s.reportSent k r with link := { s.link with sending := some (reportFrameOf k r) } } := by
  have frame : s.reportFrame k = reportFrameOf k r := by
    simp only [State.reportFrame, State.reportRecord, held, reportFrameOf]
  have sent : (s.sendRecord k).fill = s.reportSent k r := by simp only [State.sendRecord, held, State.reportSent]
  have link : (s.reportSent k r).link = s.link := by simp [State.reportSent]
  rw [State.startReport, frame, sent, State.startFrame, link]

/-- The idle transmitter sends the report first in rank order. -/
theorem State.transmitTurn_first {s : State} {k : EventKind} {r : Held} (idle : s.link.sending = none)
    (noFifo : s.link.fifo = []) (noSlot : s.link.slot = none) (mem : k ∈ s.reports.queue)
    (held : (s.latch k).held = some r) (first : ∀ k' ∈ s.reports.queue, k' ≠ k → s.RanksBefore k k') :
    s.transmitTurn = { s.reportSent k r with link := { s.link with sending := some (reportFrameOf k r) } } := by
  rw [State.transmitTurn_report idle noFifo noSlot (State.pickFirst_rank mem first), State.startReport_eq held]

/-! ## The end of a frame (R180, R181) -/

/-- The state whose frame has ended, the transmitter idle. -/
def State.idled (s : State) : State := { s.cleared with link := { s.link with sending := none } }

/-- At a frame's end the transmitter chooses, and the executor takes what an emptied slot lets go on. -/
theorem exec_transmitDone {s : State} {f : Frame} (settled : s.Settled) (clear : s.control.restartMark = false)
    (sending : s.link.sending = some f) :
    exec .transmitDone s = .next s.idled.transmitTurn.executorTurn := by
  obtain ⟨rests, -, reason⟩ := settled
  have event : exec .transmitDone s = .next s.idled.settle := by
    show Host.Outcome.next (State.transmitDone s.cleared) = _
    have same : s.cleared.link.sending = some f := sending
    simp only [State.transmitDone, same, State.frameSent]
    rw [if_neg (by simp [State.cleared, clear])]
    rfl
  have idle : s.idled.executorTurn = s.idled := State.executorTurn_idle reason
  rw [event, State.settle, State.controllerTurn_rests (s := s.idled) rests, State.settleLink, idle]

/-- The event ends there where no request can go on. -/
theorem exec_transmitDone_stops {s t : State} {f : Frame} (settled : s.Settled) (clear : s.control.restartMark = false)
    (sending : s.link.sending = some f) (turn : s.idled.transmitTurn = t)
    (stays : t.link.requests = [] ∨ t.link.slot ≠ none ∨ t.control.restartMark = true) :
    exec .transmitDone s = .next t := by
  rw [exec_transmitDone settled clear sending, turn, State.executorTurn_idle stays]

/-- A request taken from the queue is executed, and the controller goes on. -/
theorem State.executorTurn_request {s : State} {g : Frame} {rest : List Frame} {k : RequestKind}
    (front : s.link.requests = g :: rest) (kind : g.kind = k.code) (empty : s.link.slot = none)
    (clear : s.control.restartMark = false) :
    s.executorTurn =
      (({ s with link := { s.link with requests := rest } } : State).answer g.payload k |>.fillSlot g).controllerTurn := by
  rw [State.executorTurn_takes front empty clear, State.executeRequest, kind, requestOf_code]

/-- The state in which the slot's reply is on the line, with some requests waiting. -/
def State.slotSent (s : State) (r : Reply) (requests : List Frame) : State :=
  { s.cleared with link := { s.link with slot := none, sending := some r.frame, requests } }

/-- The same request sent to a part with no other waiting is executed alike (R180). -/
theorem State.slotSent_request {s : State} (settled : s.Settled) (clear : s.control.restartMark = false) (r : Reply)
    {k : RequestKind} {g : Frame} (kind : g.kind = k.code) :
    exec (k.command g.tag g.payload) (s.slotSent r []) =
      .next (((s.slotSent r []).answer g.payload k).fillSlot g).controllerTurn := by
  have ready : (s.slotSent r []).Ready := ⟨⟨settled.1, nofun, .inl rfl⟩, rfl, rfl, clear⟩
  have frame : (⟨k.code, g.tag, g.payload⟩ : Frame) = g := by rw [← kind]
  rw [exec_request, State.hostRequest_ready ready, frame]
  have link : ((((s.slotSent r []).cleared.answer g.payload k).fillSlot g).controllerTurn).link =
      { s.link with
        slot := some ⟨g.kind, g.tag, ((s.slotSent r []).cleared.answer g.payload k).status,
          ((s.slotSent r []).cleared.answer g.payload k).content⟩
        sending := some r.frame
        requests := []
        settings := ((s.slotSent r []).cleared.answer g.payload k).state.link.settings } := by
    rw [(State.controllerTurn_frame _).1, Answer.fillSlot, State.answer_link]
    rfl
  rw [State.transmitTurn_busy (by rw [link]; nofun), State.executorTurn_idle (.inl (by rw [link]))]
  rfl

section SlotEmptied

variable {s : State} {f : Frame} {r : Reply} (settled : s.Settled) (clear : s.control.restartMark = false)
  (sending : s.link.sending = some f) (noFifo : s.link.fifo = []) (slot : s.link.slot = some r)

include settled clear sending noFifo slot

/-- The slot's reply is sent, and the request at the front of the queue executed. -/
theorem exec_transmitDone_request {g : Frame} {rest : List Frame} {k : RequestKind}
    (front : s.link.requests = g :: rest) (kind : g.kind = k.code) :
    exec .transmitDone s = .next (((s.slotSent r rest).answer g.payload k).fillSlot g).controllerTurn := by
  have turn : s.idled.transmitTurn = s.slotSent r (g :: rest) := by
    rw [State.transmitTurn_slot (s := s.idled) rfl noFifo slot]
    simp only [State.idled, State.slotSent, ← front]
  rw [exec_transmitDone settled clear sending, turn,
    State.executorTurn_request (s := s.slotSent r (g :: rest)) rfl kind rfl clear]
  rfl

theorem exec_transmitDone_alike {g : Frame} {rest : List Frame} {k : RequestKind} {t : State}
    (front : s.link.requests = g :: rest) (kind : g.kind = k.code) (alike : rest = [] ∨ k ≠ .statusRead)
    (alone : exec (k.command g.tag g.payload) (s.slotSent r []) = .next t) :
    exec .transmitDone s = .next { t with link := { t.link with requests := rest } } := by
  rw [State.slotSent_request settled clear r kind] at alone
  obtain rfl := Host.Outcome.next.inj alone
  have others : s.slotSent r rest = (s.slotSent r []).withQueues rest [] := by
    rw [State.slotSent, State.slotSent, State.withQueues, ← noFifo]
  have fifo : ((((s.slotSent r []).answer g.payload k).fillSlot g).controllerTurn).link.fifo = [] := by
    rw [(State.controllerTurn_frame _).1, Answer.fillSlot, State.answer_link]
    exact noFifo
  have answered : (s.slotSent r rest).answer g.payload k =
      ((s.slotSent r []).answer g.payload k).withQueues rest [] := by
    rcases alike with rfl | other
    · have same (a : Answer) (requests : a.state.link.requests = []) (fifo : a.state.link.fifo = []) :
          a.withQueues [] [] = a := by
        rw [Answer.withQueues, State.withQueues, ← requests, ← fifo]
      refine (same _ ?_ ?_).symm
      · rw [State.answer_link]; rfl
      · rw [State.answer_link]; exact noFifo
    · rw [others, State.answer_withQueues _ _ _ other]
  have slot (a : Answer) : (a.withQueues rest []).fillSlot g = (a.fillSlot g).withQueues rest [] := rfl
  rw [exec_transmitDone_request settled clear sending noFifo ‹_› front kind, answered, slot,
    State.controllerTurn_withQueues]
  rw [State.withQueues, ← fifo]

theorem exec_transmitDone_status {g : Frame} {rest : List Frame} (front : s.link.requests = g :: rest)
    (kind : g.kind = RequestKind.statusRead.code) (empty : g.payload = []) :
    exec .transmitDone s = .next { s.slotSent r rest with link := { (s.slotSent r rest).link with
      slot := some ⟨0x14, g.tag, .ok, (s.slotSent r rest).statusContent⟩ } } := by
  have rests : ((done (s.slotSent r rest) (s.slotSent r rest).statusContent).fillSlot g).ControllerRests := settled.1
  have answered : (s.slotSent r rest).answer g.payload .statusRead =
      done (s.slotSent r rest) (s.slotSent r rest).statusContent := by
    rw [empty]; rfl
  rw [exec_transmitDone_request settled clear sending noFifo slot front kind, answered,
    State.controllerTurn_rests rests, Answer.fillSlot, kind]
  rfl

end SlotEmptied

/-- The reply at the front of the FIFO is sent. -/
theorem exec_transmitDone_fifo {s : State} {f : Frame} (settled : s.Settled) (clear : s.control.restartMark = false)
    (sending : s.link.sending = some f) {r : Reply} {rest : List Reply} (fifo : s.link.fifo = r :: rest) :
    exec .transmitDone s =
      .next { s.cleared with link := { s.link with fifo := rest, sending := some r.frame } } :=
  exec_transmitDone_stops settled clear sending (State.transmitTurn_fifo (s := s.idled) rfl fifo) settled.2.2

/-- The slot's reply is sent, no request waiting. -/
theorem exec_transmitDone_slot {s : State} {f : Frame} (settled : s.Settled) (clear : s.control.restartMark = false)
    (sending : s.link.sending = some f) {r : Reply} (noFifo : s.link.fifo = []) (slot : s.link.slot = some r)
    (none : s.link.requests = []) :
    exec .transmitDone s =
      .next { s.cleared with link := { s.link with slot := Option.none, sending := some r.frame } } :=
  exec_transmitDone_stops settled clear sending (State.transmitTurn_slot (s := s.idled) rfl noFifo slot) (.inl none)

/-- The report first in rank order is sent. -/
theorem exec_transmitDone_report {s : State} {f : Frame} (settled : s.Settled) (clear : s.control.restartMark = false)
    (sending : s.link.sending = some f) {k : EventKind} {r : Held} (noFifo : s.link.fifo = [])
    (noSlot : s.link.slot = none) (mem : k ∈ s.reports.queue) (held : (s.latch k).held = some r)
    (first : ∀ k' ∈ s.reports.queue, k' ≠ k → s.RanksBefore k k') :
    exec .transmitDone s =
      .next { s.cleared.reportSent k r with link := { s.link with sending := some (reportFrameOf k r) } } := by
  have turn := State.transmitTurn_first (s := s.idled) rfl noFifo noSlot mem held first
  have sent : s.idled.reportSent k r =
      { s.cleared.reportSent k r with link := { s.link with sending := none } } :=
    s.cleared.reportSent_withLink { s.link with sending := none } k r
  have control : (s.cleared.reportSent k r).control = s.control := by simp [State.reportSent, State.cleared]
  rw [sent] at turn
  generalize s.cleared.reportSent k r = u at turn control ⊢
  refine exec_transmitDone_stops settled clear sending turn ?_
  exact settled.2.2.imp_right (Or.imp_right fun marked => control.symm ▸ marked)

/-- With nothing to send the transmitter is idle. -/
theorem exec_transmitDone_nothing {s : State} {f : Frame} (settled : s.Settled) (clear : s.control.restartMark = false)
    (sending : s.link.sending = some f) (noFifo : s.link.fifo = []) (noSlot : s.link.slot = none)
    (none : s.reports.queue = []) :
    exec .transmitDone s = .next { s.cleared with link := { s.link with sending := Option.none } } :=
  exec_transmitDone_stops settled clear sending
    (State.transmitTurn_none (s := s.idled) noFifo noSlot (State.nextReport_none none)) settled.2.2

/-- Settles O26: at a frame's end the transmitter's choice is made as at the end of every event, and a slot that empties
lets the front request go on as if it had just arrived. -/
theorem transmitterChooses : Obligations.TransmitterChooses := by
  unfold Obligations.TransmitterChooses
  refine ⟨fun s f settled clear sending => ⟨fun r rest fifo => exec_transmitDone_fifo settled clear sending fifo, ?_,
    fun k r noFifo noSlot mem held first =>
      exec_transmitDone_report settled clear sending noFifo noSlot mem held first,
    fun noFifo noSlot none => exec_transmitDone_nothing settled clear sending noFifo noSlot none⟩, fun _ => rfl, ?_,
    fun s idle => ⟨fun r rest fifo => State.transmitTurn_fifo idle fifo,
      fun r noFifo slot => State.transmitTurn_slot idle noFifo slot,
      fun k r noFifo noSlot mem held first => State.transmitTurn_first idle noFifo noSlot mem held first⟩,
    fun s full => State.fill_full full,
    fun s k r room enabled held back first => State.fill_takes room enabled held back first⟩
  · refine fun r noFifo slot => ⟨fun none => exec_transmitDone_slot settled clear sending noFifo slot none,
      fun g rest k front kind => ⟨?_, ?_⟩⟩
    · rintro u t alike rfl alone
      exact exec_transmitDone_alike settled clear sending noFifo slot front kind alike alone
    · rintro u rfl empty rfl
      exact exec_transmitDone_status settled clear sending noFifo slot front kind empty
  · rintro s (busy | ⟨noFifo, noSlot, none⟩)
    · exact State.transmitTurn_busy busy
    · exact State.transmitTurn_none noFifo noSlot (State.nextReport_none none)

end Sys2Proof.Machine
end

section
/-! O28: directives at their arrival, and the controller's turns (R142 to R146, R160). With it, what the execution of a
directive that is obeyed at once comes to, for the statements about each directive. -/

namespace Sys2Proof.Machine
set_option Elab.async false

/-! ## The pending set's order (R143, R145) -/

/-- The first of a list in rising order that meets a test is the lowest that does. -/
theorem find?_eq_some_of_rising {α : Type} {f : α → Nat} {p : α → Bool} {l : List α}
    (rising : l.Pairwise (fun a b => f a < f b)) {a : α} :
    l.find? p = some a ↔ (a ∈ l ∧ p a = true) ∧ ∀ b ∈ l, p b = true → f a ≤ f b := by
  constructor
  · intro found
    refine ⟨⟨List.mem_of_find?_eq_some found, List.find?_some found⟩, fun b inside meets => ?_⟩
    obtain ⟨-, as, bs, rfl, before⟩ := List.find?_eq_some_iff_append.1 found
    rcases List.mem_append.1 inside with left | right
    · exact absurd meets (by simpa using before b left)
    · rcases List.mem_cons.1 right with rfl | right
      · exact Nat.le_refl _
      · exact Nat.le_of_lt ((List.pairwise_cons.1 (List.pairwise_append.1 rising).2.1).1 b right)
  · rintro ⟨⟨inside, meets⟩, lowest⟩
    cases found : l.find? p with
    | none => exact absurd meets (by simpa using List.find?_eq_none.1 found a inside)
    | some b =>
      obtain ⟨-, as, bs, rfl, before⟩ := List.find?_eq_some_iff_append.1 found
      have low := lowest b (by simp) (List.find?_some found)
      rcases List.mem_append.1 inside with left | right
      · exact absurd meets (by simpa using before a left)
      · rcases List.mem_cons.1 right with rfl | right
        · rfl
        · exact absurd ((List.pairwise_cons.1 (List.pairwise_append.1 rising).2.1).1 a right) (by omega)

theorem State.nextDirective_eq_some {s : State} {d : Directive} :
    s.nextDirective = some d ↔ d ∈ s.control.pendingSet ∧ ∀ e ∈ s.control.pendingSet, d.kindCode ≤ e.kindCode := by
  rw [State.nextDirective, find?_eq_some_of_rising (f := Directive.kindCode) (by decide)]
  simp [Directive.mem_all]

/-! ## One turn of the controller (R145) -/

theorem State.takeTurns_succ (n : Nat) (s : State) : s.takeTurns (n + 1) = (s.takeTurns n).takeTurns 1 := by
  induction n generalizing s with
  | zero => rfl
  | succ n ih =>
    rw [State.takeTurns]
    split
    next busy => rw [State.takeTurns_rests (.inl busy), State.takeTurns_rests (.inl busy)]
    next idle =>
      split
      next none =>
        have empty : s.control.pendingSet = [] := State.pendingSet_eq_nil none
        rw [State.takeTurns_rests (.inr empty), State.takeTurns_rests (.inr empty)]
      next d next =>
        have turn : s.takeTurns (n + 1) = (s.takeDirective d).takeTurns n := by
          rw [State.takeTurns, if_neg idle, next]
        rw [ih, turn]

theorem State.takeDirective_restartMark (s : State) (d : Directive) :
    (s.takeDirective d).control.restartMark = s.control.restartMark := by
  unfold State.takeDirective
  split <;> simp [State.execute]

/-- A controller that is free takes the first pending directive, and goes on with the rest. -/
theorem State.controllerTurn_takes {s : State} {d : Directive} (free : s.mode.busy = false)
    (clear : s.control.restartMark = false) (next : s.nextDirective = some d) :
    s.controllerTurn = (s.takeDirective d).controllerTurn := by
  have clear' : (s.takeDirective d).control.restartMark = false := by rw [State.takeDirective_restartMark, clear]
  have fewer : (s.takeDirective d).pendingKinds ≤ 7 := by
    have := State.pendingKinds_takeDirective next
    have := s.pendingKinds_le
    omega
  have rests : ((s.takeDirective d).takeTurns 7).mode.busy = true ∨
      ((s.takeDirective d).takeTurns 7).control.pendingSet = [] := by
    have rest := State.takeTurns_rest 7 _ fewer
    simp only [State.ControllerRests, State.takeTurns_restartMark, clear', Bool.false_eq_true, false_or] at rest
    exact rest
  calc s.controllerTurn = s.takeTurns 8 := by rw [State.controllerTurn, if_neg (by simp [clear])]; rfl
    _ = (s.takeDirective d).takeTurns 7 := by rw [State.takeTurns, if_neg (by simp [free]), next]
    _ = (s.takeDirective d).takeTurns 8 := by rw [State.takeTurns_succ 7, State.takeTurns_rests rests]
    _ = (s.takeDirective d).controllerTurn := by rw [State.controllerTurn, if_neg (by simp [clear'])]; rfl

/-! ## Arrival (R142, R144, R160) -/

/-- A directive's frame, answered, is the end of an event that placed its reply. -/
theorem State.hostDirective_settles {s : State} {d : Directive} {tag : Byte} (room : s.link.fifo.length < 4) :
    s.hostDirective d tag =
      ((s.cleared.arrive d).replyNow ⟨BitVec.ofNat 8 d.kindCode, tag, []⟩ (s.cleared.arrivalStatus d) []).settle := by
  have place : s.cleared.replyRoom = true := decide_eq_true room
  show (s.cleared.sortFrame ⟨BitVec.ofNat 8 d.kindCode, tag, []⟩).settle = _
  rw [State.sortFrame_directive, State.sortDirective, if_neg (by simp [place]), if_neg (by simp)]

/-- A directive whose kind is pending already is answered ALREADY_PENDING and lost. -/
theorem exec_directive_already {s : State} {d : Directive} (tag : Byte) (settled : s.Settled)
    (room : s.link.fifo.length < 4) (pending : d ∈ s.control.pendingSet) :
    exec (d.command tag) s = .next (s.cleared.withImmediate (d.reply tag .alreadyPending)) := by
  have lost : s.cleared.arrive d = s.cleared := if_pos pending
  have status : s.cleared.arrivalStatus d = .alreadyPending := if_pos pending
  rw [exec_directive, State.hostDirective_settles room, lost, status,
    State.settle_replyNow (s := s) (u := s.cleared) settled.2 rfl rfl settled.1]
  rfl

/-- A directive that does not interrupt and finds the controller busy, or a restart ordered, waits. -/
theorem exec_directive_waits {s : State} {d : Directive} (tag : Byte) (settled : s.Settled)
    (room : s.link.fifo.length < 4) (new : d ∉ s.control.pendingSet)
    (busy : (s.mode.busy = true ∧ d.interrupts s.mode = false) ∨ s.control.restartMark = true) :
    exec (d.command tag) s = .next ((s.cleared.joinPending d).withImmediate (d.reply tag .accepted)) := by
  have joins : s.cleared.arrive d = s.cleared.joinPending d := by
    refine (if_neg new).trans (if_neg ?_)
    rintro ⟨clear, interrupts⟩
    rcases busy with ⟨-, stays⟩ | mark
    · exact Bool.false_ne_true (stays.symm.trans interrupts)
    · exact Bool.false_ne_true (clear.symm.trans mark)
  have status : s.cleared.arrivalStatus d = .accepted := if_neg new
  have rests : (s.cleared.joinPending d).ControllerRests := busy.imp (fun b => b.1) .inl
  rw [exec_directive, State.hostDirective_settles room, joins, status,
    State.settle_replyNow (s := s) (u := s.cleared.joinPending d) settled.2 rfl rfl rests]
  rfl

/-- A directive that is not legal in the mode is refused by a free controller. -/
theorem exec_directive_refused {s : State} {d : Directive} (tag : Byte) (listens : s.Listens)
    (illegal : d.legal s.mode = false) :
    exec (d.command tag) s =
      .next ((s.cleared.post .modeCommandRefused d.kindCode).withImmediate (d.reply tag .accepted)) := by
  rw [exec_directive, State.hostDirective_listens listens, if_neg (by simp [illegal]),
    State.replyNow_eq_withQueues, State.post_withQueues]
  have link : (s.cleared.post .modeCommandRefused d.kindCode).link = s.link := by simp
  generalize s.cleared.post .modeCommandRefused d.kindCode = u at link ⊢
  have replied : (u.withQueues s.link.requests (s.link.fifo ++ [d.reply tag .accepted])).link =
      { s.link with fifo := s.link.fifo ++ [d.reply tag .accepted] } := by rw [← link]; rfl
  refine congrArg Host.Outcome.next ((State.transmitTurn_replied listens.1.1 replied).trans ?_)
  rw [State.withImmediate, link]
  refine ite_congr rfl (fun _ => rfl) fun _ => ?_
  rw [State.withQueues, link]

/-- Settles O28, from the arrival's three ends and one turn of the controller. -/
theorem directivesWait : Obligations.DirectivesWait := by
  unfold Obligations.DirectivesWait
  refine ⟨fun s d tag settled room => ⟨fun pending _ => exec_directive_already tag settled room pending,
    fun new busy => exec_directive_waits tag settled room new busy, fun empty free clear illegal =>
      exec_directive_refused tag ⟨⟨settled.2, empty⟩, clear, free, room⟩ illegal⟩,
    fun s d => State.nextDirective_eq_some, fun s rests => State.controllerTurn_rests rests, ?_,
    fun s d => by cases d <;> rfl, fun m => by cases m <;> decide⟩
  rintro s u d free clear pending first rfl
  have turn := State.controllerTurn_takes free clear (State.nextDirective_eq_some.2 ⟨pending, first⟩)
  have removed : s.removePending [d] =
      { s with control := { s.control with pendingSet := s.control.pendingSet.filter (· ≠ d) } } := by
    simp [State.removePending]
  refine ⟨fun legal => ?_, fun illegal => ?_⟩
  · rw [turn, State.takeDirective, if_pos legal, removed]
  · rw [turn, State.takeDirective, if_neg (by simp [illegal]), removed]

/-! ## A directive obeyed at once (R144, R145) -/

/-- The state in which a directive has been replied to. -/
def State.replied (s : State) (d : Directive) (tag : Byte) : State :=
  { s.cleared with link := { s.link with fifo := s.link.fifo ++ [d.reply tag .accepted] } }

theorem State.replied_eq (s : State) (d : Directive) (tag : Byte) :
    s.replied d tag = s.cleared.withQueues s.link.requests (s.link.fifo ++ [d.reply tag .accepted]) := rfl

theorem State.Obeys.listens {s : State} {d : Directive} (obeys : s.Obeys d) (free : s.mode.busy = false) : s.Listens := by
  obtain ⟨⟨rests, link⟩, clear, room, -, -, -⟩ := obeys
  have empty : s.control.pendingSet = [] := by
    rcases rests with busy | mark | empty
    · exact absurd (free.symm.trans busy) Bool.false_ne_true
    · exact absurd (clear.symm.trans mark) Bool.false_ne_true
    · exact empty
  exact ⟨⟨link, empty⟩, clear, free, room⟩

/-- A directive that is obeyed has its effect beside its reply; the controller takes what else waits, and the
transmitter goes on. -/
theorem exec_obeyed {s : State} {d : Directive} (obeys : s.Obeys d) (tag : Byte) :
    exec (d.command tag) s = .next ((s.replied d tag).execute d).controllerTurn.transmitTurn := by
  obtain ⟨legal, free | interrupts⟩ := obeys.2.2.2.2
  · have listens := obeys.listens free
    have same : (s.replied d tag).removePending d.removes = s.replied d tag := by
      have empty := listens.1.2
      simp only [State.removePending, State.replied, State.cleared, empty, List.filter_nil]
      rw [← empty]
    have rests : ((s.replied d tag).perform d).ControllerRests := by
      refine .inr (.inr ?_)
      simp only [State.perform_marks]
      exact listens.1.2
    rw [exec_directive, State.hostDirective_listens listens, if_pos legal, State.execute, same,
      State.controllerTurn_rests rests]
    rfl
  · rw [exec_directive, State.hostDirective_interrupts obeys interrupts, State.replied_eq, State.execute_withQueues]
    have link : (s.cleared.execute d).link = s.link := by simp [State.execute, State.cleared]
    rw [State.replyNow_eq_withQueues, link]
    rfl

/-- Where nothing waits behind it, its effect is what the event changes, but for the link. -/
theorem exec_obeyed_rests {s : State} {d : Directive} (obeys : s.Obeys d) (tag : Byte)
    (rests : (s.cleared.execute d).ControllerRests) :
    ∃ l, exec (d.command tag) s = .next { s.cleared.execute d with link := l } := by
  have link : (s.cleared.execute d).link = s.link := by simp [State.execute, State.cleared]
  have effect : (s.replied d tag).execute d =
      (s.cleared.execute d).withQueues s.link.requests (s.link.fifo ++ [d.reply tag .accepted]) := by
    rw [State.replied_eq, State.execute_withQueues]
  rw [exec_obeyed obeys, effect, State.controllerTurn_withQueues, State.controllerTurn_rests rests]
  generalize s.cleared.execute d = u at link ⊢
  have replied : (u.withQueues s.link.requests (s.link.fifo ++ [d.reply tag .accepted])).link =
      { s.link with fifo := s.link.fifo ++ [d.reply tag .accepted] } := by rw [← link]; rfl
  rw [State.transmitTurn_replied obeys.1.2 replied]
  split
  · exact ⟨_, rfl⟩
  · exact ⟨_, rfl⟩

end Sys2Proof.Machine
end

section
/-! O29 and O30: ARM, START and RESUME (R147, R150, R153, R155). -/

namespace Sys2Proof.Machine
set_option Elab.async false

/-! ## Occurrences (R164, R165) -/

/-- An occurrence leaves the other kinds' latches alone. -/
theorem State.post_latch_ne {s : State} {k l : EventKind} (other : k ≠ l) (n : Nat) : (s.post k n).latch l = s.latch l := by
  unfold State.post
  split
  · rw [State.holdReport_latch, if_neg other]
  · split
    · rw [State.enqueueReport_latch, if_neg other]
    · rw [State.holdReport_latch, if_neg other]

/-- An occurrence posted where the latch still stands as it did, the time being the same. -/
theorem State.Occurred.post {s u : State} {k : EventKind} (held : u.latch k = s.latch k) (time : u.time = s.time) (n : Nat) :
    s.Occurred (u.post k n) k n u.mode := by
  unfold State.Occurred State.post
  rw [held]
  cases (s.latch k).held with
  | some r => exact ⟨r.place, by simp only [State.holdReport_latch, if_true, Held.again]⟩
  | none =>
    simp only
    split
    · exact ⟨.queued, by simp only [State.enqueueReport_latch, if_true, State.firstRecord, time]⟩
    · exact ⟨.heldBack, by simp only [State.holdReport_latch, if_true, State.firstRecord, time]⟩

/-- What happens after an occurrence without touching its latch leaves it an occurrence. -/
theorem State.Occurred.of_latch {s t u : State} {k : EventKind} {n : Nat} {m : Mode} (occurred : s.Occurred t k n m)
    (same : u.latch k = t.latch k) : s.Occurred u k n m := by
  unfold State.Occurred at occurred ⊢
  rwa [same]

theorem State.latch_congr {s t : State} (same : t.reports = s.reports) (k : EventKind) : t.latch k = s.latch k := by
  rw [State.latch, same, State.latch]

theorem State.postBlocked_latch_ne {s : State} {k : EventKind} (other : k ≠ .passBlocked) (was : Bool) :
    (s.postBlocked was).latch k = s.latch k := by
  unfold State.postBlocked
  split
  · rfl
  · split
    · rfl
    · exact State.post_latch_ne other.symm _

/-! ## Modes (R140, R141) -/

@[simp] theorem State.enterMode_mode (s : State) (m : Mode) : (s.enterMode m).mode = m := by
  simp [State.enterMode, State.mode]

@[simp] theorem State.enterMode_control (s : State) (m : Mode) :
    (s.enterMode m).control = { s.control with mode := m, inProgress := m.progress } := by simp [State.enterMode]

theorem State.enterMode_latch_ne {s : State} {k : EventKind} (other : k ≠ .modeChanged) (m : Mode) :
    (s.enterMode m).latch k = s.latch k := State.post_latch_ne other.symm _

theorem State.Occurred.enterMode {s u : State} (held : u.latch .modeChanged = s.latch .modeChanged)
    (time : u.time = s.time) (m : Mode) : s.Occurred (u.enterMode m) .modeChanged m.code m :=
  State.Occurred.post (u := { u with control := { u.control with mode := m, inProgress := m.progress } }) held time m.code

theorem State.removePending_nil (s : State) : s.removePending [] = s := by simp [State.removePending]

/-! ## ARM (R147) -/

/-- A directive that removes none is executed by its own effect. -/
theorem State.execute_of_removes_nil {s : State} {d : Directive} (none : d.removes = []) : s.execute d = s.perform d := by
  rw [State.execute, none, State.removePending_nil]

/-- A directive obeyed in a mode that is not busy finds no other waiting. -/
theorem State.Obeys.alone {s : State} {d : Directive} (obeys : s.Obeys d) (never : ∀ m, d.interrupts m = false) :
    s.control.pendingSet = [] := by
  have free : s.mode.busy = false := by
    rcases obeys.2.2.2.2.2 with free | interrupts
    · exact free
    · exact absurd ((never _).symm.trans interrupts) Bool.false_ne_true
  exact (obeys.listens free).1.2

/-- The whole event of a directive that interrupts no mode. -/
theorem exec_obeyed_alone {s : State} {d : Directive} (obeys : s.Obeys d) (never : ∀ m, d.interrupts m = false)
    (none : d.removes = []) (tag : Byte) : ∃ l, exec (d.command tag) s = .next { s.cleared.perform d with link := l } := by
  have rests : (s.cleared.execute d).ControllerRests := by
    refine .inr (.inr ?_)
    simp only [State.execute_of_removes_nil none, State.perform_marks]
    exact obeys.alone never
  have event := exec_obeyed_rests obeys tag rests
  rwa [State.execute_of_removes_nil none] at event

theorem State.allOffline_eq_false {s : State} (inService : ∃ h, (s.head h).state ≠ .offline) :
    headNos.all (fun h => (s.head h).state == .offline) = false := by
  obtain ⟨h, on⟩ := inService
  exact List.all_eq_false.2 ⟨h, mem_headNos h, by simpa using on⟩

theorem State.anyUndefined_eq_false {s : State} (defined : ∀ e ∈ s.heater.table, s.heater.classes[e.code] ≠ none) :
    s.heater.table.any (fun e => s.heater.classes[e.code].isNone) = false := by
  simpa [Option.isSome_iff_ne_none] using defined

/-- The reason for which ARM fails, by its three checks in order (R147, R191). -/
theorem State.armFault_eq {s : State} {reason : Nat}
    (failing : (reason = 0 ∧ ∀ h, (s.head h).state = .offline) ∨
      (reason = 1 ∧ (∃ h, (s.head h).state ≠ .offline) ∧ ∃ e ∈ s.heater.table, s.heater.classes[e.code] = none) ∨
      (reason = 2 ∧ (∃ h, (s.head h).state ≠ .offline) ∧ (∀ e ∈ s.heater.table, s.heater.classes[e.code] ≠ none) ∧
        s.control.stationMark = false)) : s.armFault = some reason := by
  rcases failing with ⟨rfl, off⟩ | ⟨rfl, on, e, mem, undefined⟩ | ⟨rfl, on, defined, unset⟩
  · exact if_pos (by simp [off])
  · have unset : s.heater.table.any (fun e => s.heater.classes[e.code].isNone) = true :=
      List.any_eq_true.2 ⟨e, mem, by simp [undefined]⟩
    rw [State.armFault, State.allOffline_eq_false on, if_neg Bool.false_ne_true, if_pos unset]
  · rw [State.armFault, State.allOffline_eq_false on, if_neg Bool.false_ne_true, State.anyUndefined_eq_false defined,
      if_neg Bool.false_ne_true, if_pos unset]

theorem State.armFault_eq_none {s : State} (on : ∃ h, (s.head h).state ≠ .offline)
    (defined : ∀ e ∈ s.heater.table, s.heater.classes[e.code] ≠ none) (set : s.control.stationMark = true) :
    s.armFault = none := by
  rw [State.armFault, State.allOffline_eq_false on, if_neg Bool.false_ne_true, State.anyUndefined_eq_false defined,
    if_neg Bool.false_ne_true, if_neg (by simp [set])]

theorem State.armFault_enterMode (s : State) (m : Mode) : (s.enterMode m).armFault = s.armFault := by
  simp [State.armFault, State.head, State.enterMode]

/-- An ARM that fails its validation posts its failure, back in SETUP. -/
theorem exec_arm_fails {s : State} {tag : Byte} {reason : Nat} (obeys : s.Obeys .arm) (fault : s.armFault = some reason) :
    ∃ t, exec (.arm tag) s = .next t ∧ t.control = { s.control with mode := .setup, inProgress := none } ∧
      t.table = s.table ∧ t.heads = s.heads ∧ t.dispatcher = s.dispatcher ∧ t.signature = s.signature ∧
      t.heater = s.heater ∧ t.arbiter = s.arbiter ∧ t.time = s.time ∧ t.outgoing = [] ∧
      s.Occurred t .armFailed reason .setup := by
  obtain ⟨l, event⟩ := exec_obeyed_alone obeys (fun _ => rfl) rfl tag
  have fault' : (s.cleared.enterMode .arming).armFault = some reason := by
    rw [State.armFault_enterMode]
    exact fault
  have effect : s.cleared.perform .arm = ((s.cleared.enterMode .arming).enterMode .setup).post .armFailed reason := by
    simp only [State.perform, State.executeArm, fault']
  rw [effect] at event
  refine ⟨_, event, ?_⟩
  have occurred := State.Occurred.post (s := s) (u := (s.cleared.enterMode .arming).enterMode .setup) (k := .armFailed)
    (by rw [State.enterMode_latch_ne (k := .armFailed) nofun, State.enterMode_latch_ne (k := .armFailed) nofun]; rfl) (by simp [State.enterMode, State.cleared])
    reason
  rw [State.enterMode_mode] at occurred
  refine ⟨?_, ?_, ?_, ?_, ?_, ?_, ?_, ?_, ?_, occurred⟩ <;> simp [State.enterMode, State.cleared, Mode.progress]

/-! ## Changes of one part after another -/

section Folds

variable {ι β : Type} [DecidableEq ι] {f : State → ι → State} {P : State → Prop} {read : State → ι → β}

/-- Where each step of a fold keeps a condition and changes what is read at its own index alone, the fold changes what
is read at each of its indices once. -/
theorem foldl_read {φ : ι → β → β} (keeps : ∀ t a, P t → P (f t a))
    (each : ∀ t a b, P t → read (f t a) b = if a = b then φ a (read t a) else read t b) {l : List ι} (distinct : l.Nodup)
    {s : State} (holds : P s) (b : ι) : read (l.foldl f s) b = if b ∈ l then φ b (read s b) else read s b := by
  induction l generalizing s with
  | nil => simp
  | cons a l ih =>
    obtain ⟨out, distinct⟩ := List.nodup_cons.1 distinct
    rw [List.foldl_cons, ih distinct (keeps s a holds), each s a b holds]
    by_cases e : a = b
    · subst e
      simp [out]
    · simp [e, Ne.symm e]

omit [DecidableEq ι] in
/-- What such a fold puts on the ports, each step deciding by what is read at its own index. -/
theorem foldl_sent {sent : ι → β → List PortOrder} (keeps : ∀ t a, P t → P (f t a))
    (others : ∀ t a b, P t → a ≠ b → read (f t a) b = read t b)
    (each : ∀ t a, P t → (f t a).outgoing = t.outgoing ++ sent a (read t a)) {l : List ι} (distinct : l.Nodup) {s : State}
    (holds : P s) : (l.foldl f s).outgoing = s.outgoing ++ l.flatMap (fun a => sent a (read s a)) := by
  induction l generalizing s with
  | nil => simp
  | cons a l ih =>
    obtain ⟨out, distinct⟩ := List.nodup_cons.1 distinct
    have behind : l.flatMap (fun b => sent b (read (f s a) b)) = l.flatMap (fun b => sent b (read s b)) := by
      refine List.flatMap_congr fun b mem => ?_
      rw [others s a b holds (fun e => out (e ▸ mem))]
    rw [List.foldl_cons, ih distinct (keeps s a holds), each s a holds, behind, List.flatMap_cons, List.append_assoc]

end Folds

/-- What is sent for the chosen ones of a list, in turn. -/
theorem flatMap_ite_eq_map_filter {ι α : Type} (c : ι → Bool) (g : ι → α) (l : List ι) :
    l.flatMap (fun a => if c a then [g a] else []) = (l.filter c).map g := by
  induction l with
  | nil => rfl
  | cons a l ih => cases e : c a <;> simp [List.flatMap_cons, e, ih]

/-! ## Every head homes (R28, R63) -/

theorem State.homingClaim_eq (s : State) (h : HeadNo) : s.homingClaim h = s.claimHome h := by
  unfold State.homingClaim State.claimHome State.claimHi State.claimLo State.homePoint
  cases s.claim h <;> cases isLower h <;> rfl

/-- The record of a head that is sent home where it is in service. -/
def Head.homed (timeout : Nat) (x : Head) : Head := if x.state = .offline then x else x.inHoming timeout

section HomeAll

variable (s : State)

theorem State.enterHoming_station (h : HeadNo) : (s.enterHoming h).station = s.station := by
  simp [State.station]

theorem State.homeOne_station (h : HeadNo) :
    (if (s.head h).state = .offline then s else s.enterHoming h).station = s.station := by
  split
  · rfl
  · exact s.enterHoming_station h

theorem State.homeOne_head (h g : HeadNo) : (if (s.head h).state = .offline then s else s.enterHoming h).head g =
    if h = g then (s.head h).homed s.station.homeTime else s.head g := by
  unfold Head.homed
  by_cases e : h = g
  · subst e
    split <;> simp [State.enterHoming, Head.inHoming]
  · split <;> simp [State.enterHoming, e]

theorem State.homeOne_claim (h g : HeadNo) : (if (s.head h).state = .offline then s else s.enterHoming h).claim g =
    if h = g then (if (s.head h).state = .offline then s.claim h else some (s.claimHome h)) else s.claim g := by
  by_cases e : h = g
  · subst e
    split <;> simp [State.enterHoming, State.homingClaim_eq, *]
  · split <;> simp [State.enterHoming, e]

theorem State.homeOne_outgoing (h : HeadNo) : (if (s.head h).state = .offline then s else s.enterHoming h).outgoing =
    s.outgoing ++ if (s.head h).state != .offline then [.drive h .home] else [] := by
  by_cases off : (s.head h).state = .offline
  · simp [off]
  · simp [off, State.enterHoming, State.enterPhase, State.sendDrive, State.modHead, State.setHead, State.setClaim]

theorem State.homeAll_head (g : HeadNo) : s.homeAll.head g = (s.head g).homed s.station.homeTime := by
  have all := foldl_read (P := fun t => t.station = s.station) (read := State.head)
    (f := fun t h => if (t.head h).state = .offline then t else t.enterHoming h)
    (φ := fun _ x => x.homed s.station.homeTime) (fun t a same => (t.homeOne_station a).trans same)
    (fun t a b same => by rw [State.homeOne_head, same]) headNos_nodup rfl g
  rw [State.homeAll, all, if_pos (mem_headNos g)]

/-- The claim of a head that is sent home where it is in service, as the claims stand before. -/
theorem State.homeAll_claim (g : HeadNo) : s.homeAll.claim g =
    if (s.head g).state = .offline then s.claim g else some (s.claimHome g) := by
  have home (t : State) (h : HeadNo) (same : t.station = s.station) (claim : t.claim h = s.claim h) :
      t.claimHome h = s.claimHome h := by
    simp only [State.claimHome, State.claimHi, State.claimLo, State.homePoint, claim, same]
  have all := foldl_read (P := fun t => t.station = s.station) (read := fun t h => (t.head h, t.claim h))
    (f := fun t h => if (t.head h).state = .offline then t else t.enterHoming h)
    (φ := fun h x => (x.1.homed s.station.homeTime,
      if x.1.state = .offline then x.2
      else some (if isLower h then ⟨0, (x.2.map Claim.hi).getD (s.homePoint h)⟩
        else ⟨(x.2.map Claim.lo).getD (s.homePoint h), s.station.railLength⟩)))
    (fun t a same => (t.homeOne_station a).trans same) (fun t a b same => ?_) headNos_nodup rfl g
  · rw [if_pos (mem_headNos g)] at all
    rw [State.homeAll]
    generalize headNos.foldl _ s = u at all ⊢
    exact congrArg Prod.snd all
  · have point : t.homePoint a = s.homePoint a := by simp only [State.homePoint, same]
    simp only [State.homeOne_head, State.homeOne_claim, same]
    split
    · simp only [State.claimHome, State.claimHi, State.claimLo, point, same]
    · rfl

theorem State.homeAll_outgoing : s.homeAll.outgoing =
    s.outgoing ++ (headNos.filter (fun h => (s.head h).state != .offline)).map (fun h => .drive h .home) := by
  have all := foldl_sent (P := fun _ => True) (read := State.head)
    (f := fun t h => if (t.head h).state = .offline then t else t.enterHoming h)
    (sent := fun h x => if x.state != .offline then [.drive h .home] else []) (fun _ _ _ => trivial)
    (fun t a b _ other => by rw [State.homeOne_head, if_neg other]) (fun t a _ => t.homeOne_outgoing a) headNos_nodup
    (s := s) trivial
  rw [State.homeAll, all, flatMap_ite_eq_map_filter]

theorem State.homeOne_flags (h : HeadNo) :
    (if (s.head h).state = .offline then s else s.enterHoming h).dispatcher.flags = s.dispatcher.flags := by
  split <;> simp [State.enterHoming, State.setClaim]

theorem State.homeAll_flags : s.homeAll.dispatcher.flags = s.dispatcher.flags := by
  have step (l : List HeadNo) (t : State) :
      (l.foldl (fun t h => if (t.head h).state = .offline then t else t.enterHoming h) t).dispatcher.flags =
        t.dispatcher.flags := by
    induction l generalizing t with
    | nil => rfl
    | cons h l ih => rw [List.foldl_cons, ih, State.homeOne_flags]
  rw [State.homeAll, step]

end HomeAll

/-! ## Corrected positions (R18) -/

theorem State.postRejected_latch_ne {s : State} {k : EventKind} (other : k ≠ .jointRejected) (is : List Nat) :
    (s.postRejected is).latch k = s.latch k :=
  List.foldlRecOn (motive := fun t : State => t.latch k = s.latch k) is (fun t i => t.post .jointRejected i) rfl
    fun _ same _ _ => (State.post_latch_ne other.symm _).trans same

/-- The corrected positions computed in a mode other than RUNNING (R18, R20). -/
theorem State.computeCorrected_quiet {s : State} (quiet : s.mode ≠ .running) :
    s.computeCorrected.table = { s.table with
        joints := s.table.joints.map (Joint.armed s.table.datum s.station.railLength)
        currentPass := currentPassOf (s.table.joints.map (Joint.armed s.table.datum s.station.railLength)) } ∧
      ∀ k, k ≠ .jointRejected → s.computeCorrected.latch k = s.latch k := by
  have mode : ((s.mapJoints (Joint.armed s.table.datum s.station.railLength)).postRejected s.outOfTravel).mode ≠ .running := by
    simpa [State.mode] using quiet
  rw [State.computeCorrected, State.recompute_quiet mode]
  refine ⟨?_, fun k other => ?_⟩
  · simp [State.mapJoints]
  · exact State.postRejected_latch_ne other s.outOfTravel

theorem Joint.armed_eq (datum : Vector Int 16) (railLength : Nat) (j : Joint) : j.armed datum railLength =
    if 0 ≤ ((j.identity.zone.val * 65536 + j.identity.offset : Nat) : Int) + datum[j.identity.zone] ∧
        ((j.identity.zone.val * 65536 + j.identity.offset : Nat) : Int) + datum[j.identity.zone] ≤ railLength then
      { j with corrected := some (((j.identity.zone.val * 65536 + j.identity.offset : Nat) : Int) +
          datum[j.identity.zone]).toNat }
    else if j.state = .pending then
      { j with corrected := none, state := .rejected, rejection := some ⟨.outOfTravel, true⟩ }
    else { j with corrected := none } := by
  by_cases onRail : 0 ≤ ((j.identity.zone.val * 65536 + j.identity.offset : Nat) : Int) + datum[j.identity.zone] ∧
      ((j.identity.zone.val * 65536 + j.identity.offset : Nat) : Int) + datum[j.identity.zone] ≤ railLength
  · have found : correctedOf datum railLength j.identity = some _ := if_pos onRail
    rw [if_pos onRail, Joint.armed, found]
    rfl
  · have none : correctedOf datum railLength j.identity = none := if_neg onRail
    rw [if_neg onRail, Joint.armed, none]
    rfl

/-- An ARM that passes its validation corrects every position and sends the heads in service home. -/
theorem exec_arm_passes {s : State} {tag : Byte} (obeys : s.Obeys .arm) (passes : s.armFault = none) :
    ∃ t, exec (.arm tag) s = .next t ∧
      t.control = { s.control with mode := .arming, inProgress := some .arm } ∧
      t.table = { s.table with
        joints := s.table.joints.map (Joint.armed s.table.datum s.station.railLength)
        currentPass := currentPassOf (s.table.joints.map (Joint.armed s.table.datum s.station.railLength)) } ∧
      (∀ h, t.head h = (s.head h).homed s.station.homeTime) ∧
      (∀ h, t.claim h = if (s.head h).state = .offline then s.claim h else some (s.claimHome h)) ∧
      t.dispatcher.flags = s.dispatcher.flags ∧ t.signature = s.signature ∧ t.heater = s.heater ∧
      t.arbiter = s.arbiter ∧ t.time = s.time ∧
      t.outgoing = (headNos.filter (fun h => (s.head h).state != .offline)).map (fun h => .drive h .home) ∧
      s.Occurred t .modeChanged 1 .arming := by
  obtain ⟨l, event⟩ := exec_obeyed_alone obeys (fun _ => rfl) rfl tag
  have passes' : (s.cleared.enterMode .arming).armFault = none := by
    rw [State.armFault_enterMode]
    exact passes
  have effect : s.cleared.perform .arm = (s.cleared.enterMode .arming).computeCorrected.homeAll := by
    simp only [State.perform, State.executeArm, passes']
  rw [effect] at event
  refine ⟨_, event, ?_⟩
  have occurred := State.Occurred.enterMode (s := s) (u := s.cleared) rfl rfl .arming
  have mode : (s.cleared.enterMode .arming).mode ≠ .running := by rw [State.enterMode_mode]; decide
  have control : (s.cleared.enterMode .arming).control = { s.control with mode := .arming, inProgress := some .arm } :=
    State.enterMode_control _ _
  have entered := s.cleared.enterMode_frame .arming
  generalize s.cleared.enterMode .arming = u at occurred mode control entered ⊢
  obtain ⟨table, dispatcher, heads, signature, heater, arbiter, link, time, outgoing, -⟩ := entered
  obtain ⟨corrected, latches⟩ := State.computeCorrected_quiet mode
  have kept := u.computeCorrected_frame
  have latch := latches .modeChanged nofun
  generalize u.computeCorrected = v at corrected kept latch ⊢
  obtain ⟨dispatcher', heads', signature', heater', arbiter', control', link', time', outgoing', -⟩ := kept
  obtain ⟨table'', signature'', heater'', arbiter'', control'', reports'', link'', time'', -⟩ := v.homeAll_frame
  have station : v.station = s.station := by simp only [State.station, link', link]; rfl
  have head (h : HeadNo) : v.head h = s.head h := by simp only [State.head, heads', heads]; rfl
  have claim (h : HeadNo) : v.claim h = s.claim h := by simp only [State.claim, dispatcher', dispatcher]; rfl
  have home (h : HeadNo) : v.claimHome h = s.claimHome h := by
    simp only [State.claimHome, State.claimHi, State.claimLo, State.homePoint, claim, station]
  have datum : u.table.datum = s.table.datum := by rw [table]; rfl
  have joints : u.table.joints = s.table.joints := by rw [table]; rfl
  have length : u.station = s.station := by simp only [State.station, link]; rfl
  have homed (h : HeadNo) : v.homeAll.head h = (s.head h).homed s.station.homeTime := by
    rw [State.homeAll_head, head, station]
  have claimed (h : HeadNo) : v.homeAll.claim h =
      if (s.head h).state = .offline then s.claim h else some (s.claimHome h) := by
    rw [State.homeAll_claim, head, claim, home]
  have flags : v.homeAll.dispatcher.flags = s.dispatcher.flags := by
    rw [State.homeAll_flags, dispatcher', dispatcher]
    rfl
  have sent : v.homeAll.outgoing =
      (headNos.filter (fun h => (s.head h).state != .offline)).map (fun h => .drive h .home) := by
    rw [State.homeAll_outgoing, outgoing', outgoing]
    simp only [head]
    rfl
  have posted : v.homeAll.latch .modeChanged = u.latch .modeChanged := (State.latch_congr reports'' _).trans latch
  have program : v.homeAll.table = { s.table with
      joints := s.table.joints.map (Joint.armed s.table.datum s.station.railLength)
      currentPass := currentPassOf (s.table.joints.map (Joint.armed s.table.datum s.station.railLength)) } := by
    rw [table'', corrected, datum, joints, length, table]
    rfl
  generalize v.homeAll = w at *
  exact ⟨control''.trans (control'.trans control), program, homed, claimed, flags,
    signature''.trans (signature'.trans signature), heater''.trans (heater'.trans heater),
    arbiter''.trans (arbiter'.trans arbiter), time''.trans (time'.trans time), sent, occurred.of_latch posted⟩

/-- Settles O29, by the fault that ARM's validation finds or does not find. -/
theorem armTaken : Obligations.ArmTaken := by
  refine ⟨fun s tag reason obeys failing => exec_arm_fails obeys (State.armFault_eq failing),
    fun s tag obeys on defined set => ?_⟩
  obtain ⟨t, event, control, table, head, claim, rest⟩ := exec_arm_passes (tag := tag) obeys (State.armFault_eq_none on defined set)
  refine ⟨t, event, control, ?_, ?_, ?_, head, claim, rest⟩
  · rw [table]
    exact List.map_congr_left fun j _ => Joint.armed_eq _ _ j
  · rw [table]
  · rw [table]

end Sys2Proof.Machine
end

section
/-! O30: START and RESUME (R150, R153, R155). -/

namespace Sys2Proof.Machine
set_option Elab.async false

/-! ## The entry to RUNNING -/

theorem State.search_noPass {s : State} (noPass : s.table.currentPass = none) (h : HeadNo) (p : Nat) : s.search h p = none := by
  by_contra found
  obtain ⟨i, found⟩ := Option.ne_none_iff_exists'.1 found
  obtain ⟨⟨j, pass, -, -, is, -⟩, -⟩ := State.search_eq_some_iff.1 found
  simp [noPass] at is

/-- A round in which no head has anything to take changes nothing. -/
theorem State.round_nothing {s : State} (nothing : ∀ h, s.serveHead h = s) : s.round = s := by
  unfold State.round
  split
  · exact List.foldlRecOn (motive := fun t : State => t = s) headNos State.serveHead rfl fun t same h _ => by rw [same, nothing]
  · rfl

theorem State.round_noPass {s : State} (noPass : s.table.currentPass = none) : s.round = s := by
  refine State.round_nothing fun h => ?_
  unfold State.serveHead
  split
  · split
    · rfl
    · rw [State.search_noPass noPass]
  · rfl

theorem State.round_noIdle {s : State} (noIdle : ∀ h, (s.head h).state ≠ .idle) : s.round = s :=
  State.round_nothing fun h => State.serveHead_not_idle (noIdle h)

theorem State.postBlocked_noPass {s : State} (noPass : s.table.currentPass = none) (was : Bool) : s.postBlocked was = s := by
  simp only [State.postBlocked, State.blockedBy, noPass]

theorem State.beginRunning_noPass {s : State} (running : s.mode = .running) (noPass : s.table.currentPass = none) :
    s.beginRunning = s.completeProgram := by
  rw [State.beginRunning, State.round_noPass noPass, State.postBlocked_noPass noPass, State.programTest,
    if_pos ⟨running, noPass⟩]

theorem State.programTest_pass {s : State} (pass : s.table.currentPass ≠ none) : s.programTest = s :=
  if_neg fun both => pass both.2

theorem State.beginRunning_noIdle {s : State} (pass : s.table.currentPass ≠ none) (noIdle : ∀ h, (s.head h).state ≠ .idle) :
    s.beginRunning = s.postBlocked false := by
  have pass' : (s.postBlocked false).table.currentPass ≠ none := by rwa [(s.postBlocked_frame false).1]
  rw [State.beginRunning, State.round_noIdle noIdle, State.programTest_pass pass']

/-- Where the mode is RUNNING, the entry ends with the program completion test on the state its round has left. -/
theorem State.beginRunning_eq {s : State} (running : s.mode = .running) :
    s.beginRunning = if (s.round.postBlocked false).table.currentPass = none then (s.round.postBlocked false).completeProgram
      else s.round.postBlocked false := by
  have mode : (s.round.postBlocked false).mode = .running := by simpa [State.mode] using running
  rw [State.beginRunning, State.programTest]
  simp only [mode, true_and]

/-- What an occurrence leaves of a state in which the program has been found complete. -/
theorem State.Occurred.completeProgram {s u : State} (held : u.latch .programComplete = s.latch .programComplete)
    (time : u.time = s.time) (table : u.table = s.table) :
    s.Occurred u.completeProgram .programComplete (s.table.joints.countP (fun j => j.state == .complete)) .armed := by
  have same : (u.enterMode .armed).latch .programComplete = s.latch .programComplete := by
    rw [State.enterMode_latch_ne (k := .programComplete) nofun, held]
  have occurred := State.Occurred.post (u := u.enterMode .armed) same (by simpa using time) (u.countOf .complete)
  rw [State.enterMode_mode] at occurred
  rw [← table]
  exact occurred

theorem State.completeProgram_eq (s : State) : s.completeProgram =
    (s.enterMode .armed).post .programComplete (s.table.joints.countP (fun j => j.state == .complete)) := rfl

/-! ## START (R150) -/

section Start

variable {s : State} {tag : Byte} (obeys : s.Obeys .start)

include obeys

/-- START, its effect on a part with any link. -/
theorem exec_start : exec (.start tag) s =
    .next (((s.replied .start tag).enterMode .running).beginRunning).transmitTurn := by
  have rests : (((s.replied .start tag).enterMode .running).beginRunning).ControllerRests := by
    have empty := (s.replied .start tag).perform_marks .start
    exact .inr (.inr (empty.1.trans (obeys.alone fun _ => rfl)))
  have event := exec_obeyed obeys tag
  rw [State.execute_of_removes_nil rfl] at event
  refine event.trans ?_
  exact congrArg (fun u : State => Host.Outcome.next u.transmitTurn) (State.controllerTurn_rests rests)

theorem exec_start_noPass (noPass : s.table.currentPass = none) :
    ∃ t, exec (.start tag) s = .next t ∧ t.control = { s.control with mode := .armed, inProgress := none } ∧
      t.table = s.table ∧ t.heads = s.heads ∧ t.dispatcher = s.dispatcher ∧ t.signature = s.signature ∧
      t.heater = s.heater ∧ t.arbiter = s.arbiter ∧ t.time = s.time ∧ t.outgoing = [] ∧
      s.Occurred t .programComplete (s.table.joints.countP (fun j => j.state == .complete)) .armed := by
  obtain ⟨l, event⟩ := exec_obeyed_alone obeys (fun _ => rfl) rfl tag
  have entered := s.cleared.enterMode_frame .running
  have effect : s.cleared.perform .start = (s.cleared.enterMode .running).completeProgram :=
    State.beginRunning_noPass (State.enterMode_mode _ _) ((congrArg JointTable.currentPass entered.1).trans noPass)
  rw [effect] at event
  have occurred := State.Occurred.completeProgram (s := s) (u := s.cleared.enterMode .running)
    (State.enterMode_latch_ne (s := s.cleared) (k := .programComplete) nofun _) (by simp [State.cleared]) (by simp [State.cleared])
  refine ⟨_, event, ?_, ?_, ?_, ?_, ?_, ?_, ?_, ?_, ?_, occurred⟩ <;>
    simp [State.completeProgram_eq, State.cleared, Mode.progress]

theorem exec_start_noIdle (pass : s.table.currentPass ≠ none) (noIdle : ∀ h, (s.head h).state ≠ .idle) :
    ∃ t, exec (.start tag) s = .next t ∧ t.control = { s.control with mode := .running, inProgress := none } ∧
      t.table = s.table ∧ t.heads = s.heads ∧ t.dispatcher = s.dispatcher ∧ t.signature = s.signature ∧
      t.heater = s.heater ∧ t.arbiter = s.arbiter ∧ t.time = s.time ∧ t.outgoing = [] ∧
      s.Occurred t .modeChanged 3 .running := by
  obtain ⟨l, event⟩ := exec_obeyed_alone obeys (fun _ => rfl) rfl tag
  have entered := s.cleared.enterMode_frame .running
  have effect : s.cleared.perform .start = (s.cleared.enterMode .running).postBlocked false :=
    State.beginRunning_noIdle (fun none => pass ((congrArg JointTable.currentPass entered.1).symm.trans none))
      (fun h => by simpa [State.head, State.cleared] using noIdle h)
  rw [effect] at event
  have occurred := (State.Occurred.enterMode (s := s) (u := s.cleared) rfl rfl .running).of_latch
    (State.postBlocked_latch_ne (k := .modeChanged) nofun false)
  refine ⟨_, event, ?_, ?_, ?_, ?_, ?_, ?_, ?_, ?_, ?_, occurred⟩ <;>
    simp [State.cleared, Mode.progress]

end Start

/-! ## RESUME (R153, R128) -/

theorem State.mapWaits_post (s : State) (f : WaitTimer → WaitTimer) (k : EventKind) (n : Nat) :
    (s.post k n).mapWaits f = (s.mapWaits f).post k n := by
  have latch : (s.mapWaits f).latch k = s.latch k := rfl
  have room : (s.mapWaits f).reportRoom = s.reportRoom := rfl
  unfold State.post
  rw [latch, room]
  cases (s.latch k).held with
  | some r => rfl
  | none => exact apply_ite (State.mapWaits · f) _ _ _

/-- The READY rivet of a head is read off its joint and the joint's pocket. -/
theorem State.stampOf_congr {s t : State} {h : HeadNo} (held : (t.head h).held = (s.head h).held)
    (table : t.table = s.table) (heater : t.heater = s.heater) : t.stampOf h = s.stampOf h := by
  have pocket : t.pocketOf h = s.pocketOf h := by
    have joint : t.joint? = s.joint? := by
      funext i
      simp only [State.joint?, table]
    simp only [State.pocketOf, State.heldJoint, held, joint]
  rw [State.stampOf, pocket, State.stampOf]
  simp only [State.pocket, heater]

/-- Where no head has a rivet READY and nobody waits, raising the requests again grants nothing. -/
theorem State.reRaise_nobody {s : State} (cold : ∀ h, (s.head h).state = .awaitRivet → s.stampOf h = none)
    (nobody : s.arbiter.queue = []) : s.reRaise = s := by
  have none (h : HeadNo) : s.joinPermitQueue h = s := by
    refine if_neg fun may => ?_
    have asks := may.1
    simp only [State.mayAsk, Bool.and_eq_true, beq_iff_eq] at asks
    simp [cold h asks.1.1] at asks
  have same : headNos.foldl State.joinPermitQueue s = s :=
    List.foldlRecOn (motive := fun t : State => t = s) headNos State.joinPermitQueue rfl fun t same h _ => by rw [same, none]
  rw [State.reRaise, same, State.grantAll_nobody nobody]

@[simp] theorem State.mapWaits_head (s : State) (f : WaitTimer → WaitTimer) (h : HeadNo) :
    (s.mapWaits f).head h = { s.head h with rivetWait := f (s.head h).rivetWait } := by
  simp [State.head, State.mapWaits]

/-- A mode entered and the wait timers counting on: where no head has a rivet READY and nobody waits, no permit is
granted (R53, R128). -/
theorem State.backToWork_cold {s : State} (m : Mode) (cold : ∀ h, (s.head h).state = .awaitRivet → s.stampOf h = none)
    (nobody : s.arbiter.queue = []) :
    (s.enterMode m).backToWork = (s.mapWaits WaitTimer.resume).enterMode m := by
  have entered : (s.enterMode m).mapWaits WaitTimer.resume = (s.mapWaits WaitTimer.resume).enterMode m :=
    State.mapWaits_post _ _ _ _
  have frame := (s.mapWaits WaitTimer.resume).enterMode_frame m
  have head (h : HeadNo) : ((s.mapWaits WaitTimer.resume).enterMode m).head h = (s.mapWaits WaitTimer.resume).head h := by
    simp only [State.head, frame.2.2.1]
  rw [State.backToWork, entered]
  refine State.reRaise_nobody (fun h waits => ?_) (by simpa using nobody)
  rw [State.stampOf_congr (s := s) (by rw [head, State.mapWaits_head]) (by rw [frame.1]; rfl)
    (by rw [frame.2.2.2.2.1]; rfl)]
  rw [head, State.mapWaits_head] at waits
  exact cold h waits

/-- The state as a directive that pauses or resumes the waits leaves it before its mode is entered. -/
def State.rewaiting (s : State) (ds : List Directive) (f : WaitTimer → WaitTimer) : State :=
  (s.cleared.removePending ds).mapWaits f

theorem State.rewaiting_frame (s : State) (ds : List Directive) (f : WaitTimer → WaitTimer) :
    (s.rewaiting ds f).table = s.table ∧ (s.rewaiting ds f).dispatcher = s.dispatcher ∧
      (s.rewaiting ds f).signature = s.signature ∧ (s.rewaiting ds f).heater = s.heater ∧
      (s.rewaiting ds f).arbiter = s.arbiter ∧ (s.rewaiting ds f).reports = s.reports ∧
      (s.rewaiting ds f).time = s.time ∧ (s.rewaiting ds f).outgoing = [] ∧
      (s.rewaiting ds f).control = { s.control with pendingSet := s.waitingBeside ds } := by
  refine ⟨rfl, rfl, rfl, rfl, rfl, rfl, rfl, rfl, rfl⟩

theorem State.rewaiting_head (s : State) (ds : List Directive) (f : WaitTimer → WaitTimer) (h : HeadNo) :
    (s.rewaiting ds f).head h = { s.head h with rivetWait := f (s.head h).rivetWait } :=
  (s.cleared.removePending ds).mapWaits_head f h

section Resume

variable {s : State} {tag : Byte} (obeys : s.Obeys .resume)

include obeys

theorem exec_resume : exec (.resume tag) s =
    .next (((((s.replied .resume tag).removePending [.hold]).enterMode .running).backToWork.beginRunning).controllerTurn).transmitTurn :=
  exec_obeyed obeys tag

/-- RESUME with nothing waiting behind it and no permit request to raise, but for the link. -/
theorem exec_resume_cold (cold : ∀ h, (s.head h).state = .awaitRivet → s.stampOf h = none) (nobody : s.arbiter.queue = [])
    (alone : s.waitingBeside [.hold] = []) : ∃ l, exec (.resume tag) s =
      .next { ((s.rewaiting [.hold] WaitTimer.resume).enterMode .running).beginRunning with link := l } := by
  have effect : s.cleared.execute .resume =
      ((s.rewaiting [.hold] WaitTimer.resume).enterMode .running).beginRunning := by
    show ((s.cleared.removePending [.hold]).enterMode .running).backToWork.beginRunning = _
    rw [State.backToWork_cold (s := s.cleared.removePending [.hold]) .running cold nobody]
    rfl
  have rests : (s.cleared.execute .resume).ControllerRests := by
    refine .inr (.inr ?_)
    rw [State.execute, ((s.cleared.removePending _).perform_marks .resume).1]
    exact alone
  have event := exec_obeyed_rests obeys tag rests
  rwa [effect] at event

theorem exec_resume_noPass (noPass : s.table.currentPass = none)
    (cold : ∀ h, (s.head h).state = .awaitRivet → s.stampOf h = none) (nobody : s.arbiter.queue = [])
    (alone : s.waitingBeside [.hold] = []) :
    ∃ t, exec (.resume tag) s = .next t ∧
      t.control = { s.control with mode := .armed, inProgress := none, pendingSet := [] } ∧
      (∀ h, t.head h = { s.head h with rivetWait := (s.head h).rivetWait.resume }) ∧ t.table = s.table ∧
      t.dispatcher = s.dispatcher ∧ t.signature = s.signature ∧ t.heater = s.heater ∧ t.arbiter = s.arbiter ∧
      t.time = s.time ∧ t.outgoing = [] ∧
      s.Occurred t .programComplete (s.table.joints.countP (fun j => j.state == .complete)) .armed := by
  obtain ⟨l, event⟩ := exec_resume_cold (tag := tag) obeys cold nobody alone
  have head := s.rewaiting_head [.hold] WaitTimer.resume
  obtain ⟨table, dispatcher, signature, heater, arbiter, reports, time, outgoing, control⟩ :=
    s.rewaiting_frame [.hold] WaitTimer.resume
  generalize s.rewaiting [.hold] WaitTimer.resume = u at *
  have entered := u.enterMode_frame .running
  have complete := State.beginRunning_noPass (State.enterMode_mode u .running)
    ((congrArg JointTable.currentPass (entered.1.trans table)).trans noPass)
  have occurred := State.Occurred.completeProgram (s := s) (u := u.enterMode .running)
    ((State.enterMode_latch_ne (k := .programComplete) nofun _).trans (State.latch_congr reports _))
    (by simp [time]) (by simp [table])
  rw [complete] at event
  refine ⟨_, event, ?_, fun h => ?_, ?_, ?_, ?_, ?_, ?_, ?_, ?_, occurred⟩
  · simp [State.completeProgram_eq, control, alone, Mode.progress]
  · have same : (u.enterMode .running).completeProgram.heads = u.heads := by simp
    exact (congrArg (fun v : Vector Head 4 => v[h]) same).trans (head h)
  all_goals simp [table, dispatcher, signature, heater, arbiter, time, outgoing]

theorem exec_resume_noIdle (pass : s.table.currentPass ≠ none) (noIdle : ∀ h, (s.head h).state ≠ .idle)
    (cold : ∀ h, (s.head h).state = .awaitRivet → s.stampOf h = none) (nobody : s.arbiter.queue = [])
    (alone : s.waitingBeside [.hold] = []) :
    ∃ t, exec (.resume tag) s = .next t ∧
      t.control = { s.control with mode := .running, inProgress := none, pendingSet := [] } ∧
      (∀ h, t.head h = { s.head h with rivetWait := (s.head h).rivetWait.resume }) ∧ t.table = s.table ∧
      t.dispatcher = s.dispatcher ∧ t.signature = s.signature ∧ t.heater = s.heater ∧ t.arbiter = s.arbiter ∧
      t.time = s.time ∧ t.outgoing = [] ∧ s.Occurred t .modeChanged 3 .running := by
  obtain ⟨l, event⟩ := exec_resume_cold (tag := tag) obeys cold nobody alone
  have head := s.rewaiting_head [.hold] WaitTimer.resume
  obtain ⟨table, dispatcher, signature, heater, arbiter, reports, time, outgoing, control⟩ :=
    s.rewaiting_frame [.hold] WaitTimer.resume
  generalize s.rewaiting [.hold] WaitTimer.resume = u at *
  have entered := u.enterMode_frame .running
  have noIdle' (h : HeadNo) : ((u.enterMode .running).head h).state ≠ .idle := by
    simp only [State.head, entered.2.2.1]
    have same := head h
    simp only [State.head] at same
    rw [same]
    exact noIdle h
  have begun := State.beginRunning_noIdle
    (fun none => pass ((congrArg JointTable.currentPass (entered.1.trans table)).symm.trans none)) noIdle'
  have occurred := (State.Occurred.enterMode (s := s) (u := u) (State.latch_congr reports _) time .running).of_latch
    (State.postBlocked_latch_ne (k := .modeChanged) nofun false)
  rw [begun] at event
  refine ⟨_, event, ?_, fun h => ?_, ?_, ?_, ?_, ?_, ?_, ?_, ?_, occurred⟩
  · simp [control, alone, Mode.progress]
  · have same : ((u.enterMode .running).postBlocked false).heads = u.heads := by simp
    exact (congrArg (fun v : Vector Head 4 => v[h]) same).trans (head h)
  all_goals simp [table, dispatcher, signature, heater, arbiter, time, outgoing]

end Resume

/-- Settles O30. -/
theorem runningEntered : Obligations.RunningEntered := by
  refine ⟨fun s tag obeys => ⟨exec_start_noPass obeys, exec_start_noIdle obeys, ?_⟩,
    fun s tag obeys => ⟨exec_resume_noIdle obeys, exec_resume_noPass obeys, ?_⟩⟩
  · intro u w is begun
    have entered : (s.replied .start tag).enterMode .running = u.post .modeChanged 3 := by rw [is]; rfl
    have mode : (u.post .modeChanged 3).mode = .running := by rw [← entered, State.enterMode_mode]
    have event := exec_start (tag := tag) obeys
    rw [entered, State.beginRunning_eq mode, ← begun] at event
    exact ⟨fun pass => by rwa [if_neg pass] at event, fun none => by rwa [if_pos none] at event⟩
  · intro u v w is raised begun
    have entered : (((s.replied .resume tag).removePending [.hold]).enterMode .running).mapWaits WaitTimer.resume =
        u.post .modeChanged 3 := by
      rw [is]
      exact State.mapWaits_post _ _ _ _
    have raises : (((s.replied .resume tag).removePending [.hold]).enterMode .running).backToWork = v := by
      rw [State.backToWork, entered, raised]
    have mode : v.mode = .running := by
      have u_mode : u.mode = .running := by rw [is]; rfl
      simpa [raised, State.mode] using u_mode
    have event := exec_resume (tag := tag) obeys
    rw [raises, State.beginRunning_eq mode, ← begun] at event
    exact ⟨fun pass => by rwa [if_neg pass] at event, fun none => by rwa [if_pos none] at event⟩

end Sys2Proof.Machine
end

section
/-! O31 and O32: HOLD and DRAIN (R151, R154). -/

namespace Sys2Proof.Machine
set_option Elab.async false

/-! ## HOLD (R151) -/

theorem State.setPermitQueue_post (s : State) (q : List HeadNo) (k : EventKind) (n : Nat) :
    (s.post k n).setPermitQueue q = (s.setPermitQueue q).post k n := by
  have latch : (s.setPermitQueue q).latch k = s.latch k := rfl
  have room : (s.setPermitQueue q).reportRoom = s.reportRoom := rfl
  unfold State.post
  rw [latch, room]
  cases (s.latch k).held with
  | some r => rfl
  | none => exact apply_ite (State.setPermitQueue · q) _ _ _

theorem State.allAtRest_iff {s : State} : s.allAtRest = true ↔ ∀ h, (s.head h).state.atRest = true := by
  simp [State.allAtRest, List.all_eq_true]

/-- The hold completion test at an entry to HOLDING. -/
theorem State.holdTest_entered (s : State) : (s.enterMode .holding).holdTest =
    if ∀ h, (s.head h).state.atRest = true then (s.enterMode .holding).enterMode .held else s.enterMode .holding := by
  have rest : (s.enterMode .holding).allAtRest = true ↔ ∀ h, (s.head h).state.atRest = true := by
    simp [State.allAtRest_iff, State.head]
  simp only [State.holdTest, State.enterMode_mode, true_and, rest]

/-- HOLD's own effect: the permit queue emptied and the waits paused beside the entry to HOLDING. -/
theorem State.executeHold_eq (s : State) :
    s.executeHold = (((s.setPermitQueue []).mapWaits WaitTimer.pause).enterMode .holding).holdTest := by
  have entered : ((s.enterMode .holding).setPermitQueue []).mapWaits WaitTimer.pause =
      ((s.setPermitQueue []).mapWaits WaitTimer.pause).enterMode .holding := by
    unfold State.enterMode
    rw [State.setPermitQueue_post, State.mapWaits_post]
    rfl
  rw [State.executeHold, entered]

/-- The state as HOLD leaves it before HOLDING is entered. -/
def State.pausing (s : State) : State := (s.rewaiting [.resume, .drain] WaitTimer.pause).setPermitQueue []

theorem State.execute_hold (s : State) : s.cleared.execute .hold = (s.pausing.enterMode .holding).holdTest :=
  State.executeHold_eq _

section Hold

variable {s : State} {tag : Byte} (obeys : s.Obeys .hold)

include obeys

theorem exec_hold (ends : (∃ h, (s.head h).state.atRest = false) ∨ s.waitingBeside [.resume, .drain] = []) :
    ∃ t, exec (.hold tag) s = .next t ∧
      t.control = { s.control with
        mode := if ∀ h, (s.head h).state.atRest = true then .held else .holding
        inProgress := if ∀ h, (s.head h).state.atRest = true then none else some .hold
        pendingSet := s.waitingBeside [.resume, .drain] } ∧
      (∀ h, t.head h = { s.head h with rivetWait := (s.head h).rivetWait.pause }) ∧
      t.arbiter = { s.arbiter with queue := [] } ∧ t.table = s.table ∧ t.dispatcher = s.dispatcher ∧
      t.signature = s.signature ∧ t.heater = s.heater ∧ t.time = s.time ∧ t.outgoing = [] := by
  have head (h : HeadNo) : s.pausing.head h = { s.head h with rivetWait := (s.head h).rivetWait.pause } :=
    s.rewaiting_head [.resume, .drain] WaitTimer.pause h
  have rest : (∀ h, (s.pausing.head h).state.atRest = true) ↔ ∀ h, (s.head h).state.atRest = true := by
    simp only [head]
  have effect : s.cleared.execute .hold = if ∀ h, (s.head h).state.atRest = true then
      (s.pausing.enterMode .holding).enterMode .held else s.pausing.enterMode .holding := by
    rw [State.execute_hold, State.holdTest_entered]
    simp only [rest]
  have control : s.pausing.control = { s.control with pendingSet := s.waitingBeside [.resume, .drain] } := rfl
  have rests : (s.cleared.execute .hold).ControllerRests := by
    rw [effect]
    rcases ends with ⟨h, working⟩ | alone
    · rw [if_neg fun all => by simp [all h] at working]
      exact .inl (by rw [State.enterMode_mode]; rfl)
    · refine .inr (.inr ?_)
      split <;> simp [control, alone]
  obtain ⟨l, event⟩ := exec_obeyed_rests obeys tag rests
  rw [effect] at event
  have pieces : s.pausing.arbiter = { s.arbiter with queue := [] } ∧ s.pausing.table = s.table ∧
      s.pausing.dispatcher = s.dispatcher ∧ s.pausing.signature = s.signature ∧ s.pausing.heater = s.heater ∧
      s.pausing.time = s.time ∧ s.pausing.outgoing = [] := ⟨rfl, rfl, rfl, rfl, rfl, rfl, rfl⟩
  generalize s.pausing = u at *
  have heads (h : HeadNo) (v : State) (same : v.heads = u.heads) : v.head h = u.head h := by simp only [State.head, same]
  refine ⟨_, event, ?_⟩
  split
  · refine ⟨by simp [control, Mode.progress], fun h => (heads h _ (by simp)).trans (head h), ?_⟩
    simp [pieces]
  · refine ⟨by simp [control, Mode.progress], fun h => (heads h _ (by simp)).trans (head h), ?_⟩
    simp [pieces]

theorem exec_hold_ends {u v : State} (rest : ∀ h, (s.head h).state.atRest = true)
    (is : u = { s.cleared with
      link := { s.link with fifo := s.link.fifo ++ [Directive.reply .hold tag .accepted] }
      control := { s.control with
        mode := .holding, inProgress := some .hold, pendingSet := s.waitingBeside [.resume, .drain] }
      heads := s.heads.map (fun x => { x with rivetWait := x.rivetWait.pause })
      arbiter := { s.arbiter with queue := [] } })
    (entered : v = u.post .modeChanged 4) :
    exec (.hold tag) s = .next (State.transmitTurn (State.controllerTurn (State.post
      { v with control := { v.control with mode := .held, inProgress := none } } .modeChanged 5))) := by
  have event := exec_obeyed obeys tag
  have effect : (s.replied .hold tag).execute .hold =
      (((((s.replied .hold tag).removePending [.resume, .drain]).setPermitQueue []).mapWaits WaitTimer.pause).enterMode
        .holding).holdTest := State.executeHold_eq _
  have same : ((((s.replied .hold tag).removePending [.resume, .drain]).setPermitQueue []).mapWaits
      WaitTimer.pause).enterMode .holding = v := by rw [entered, is]; rfl
  have test : ∀ h, (((((s.replied .hold tag).removePending [.resume, .drain]).setPermitQueue []).mapWaits
      WaitTimer.pause).head h).state.atRest = true := fun h => by rw [State.mapWaits_head]; exact rest h
  rw [State.holdTest_entered, if_pos test, same] at effect
  rw [effect] at event
  exact event

end Hold

/-- Settles O31. -/
theorem holdTakes : Obligations.HoldTakes :=
  ⟨fun _ => ⟨rfl, rfl, rfl, rfl, rfl, rfl⟩, fun x => by cases x <;> decide,
    fun _ _ obeys => ⟨exec_hold obeys, fun _ _ rest is entered => exec_hold_ends obeys rest is entered⟩⟩

/-! ## DRAIN (R154) -/

theorem State.drainTest_draining {s : State} (draining : s.mode = .draining) :
    s.drainTest = if ∃ j ∈ s.table.joints, j.state.inWork = true then s else s.enterMode .armed := by
  have work : s.anyInWork = false ↔ ¬ ∃ j ∈ s.table.joints, j.state.inWork = true := by simp [State.anyInWork]
  by_cases working : ∃ j ∈ s.table.joints, j.state.inWork = true
  · rw [if_pos working]
    exact if_neg fun both => work.1 both.2 working
  · rw [if_neg working]
    exact if_pos ⟨draining, work.2 working⟩

/-- What DRAIN does to the rivet wait timers: it resumes those a hold has paused (R53). -/
def drainWaits (m : Mode) : WaitTimer → WaitTimer := if m = .running then id else WaitTimer.resume

theorem State.mapWaits_id (s : State) : s.mapWaits id = s := by simp [State.mapWaits]

/-- DRAIN's own effect, where no permit request is raised. -/
theorem State.execute_drain_cold {s : State} (legal : s.mode = .running ∨ s.mode = .holding ∨ s.mode = .held)
    (cold : s.mode = .running ∨
      (s.arbiter.queue = [] ∧ ∀ h, (s.head h).state = .awaitRivet → s.stampOf h = none)) :
    s.cleared.execute .drain =
      ((s.rewaiting [.hold, .resume, .start] (drainWaits s.mode)).enterMode .draining).drainTest := by
  by_cases running : s.mode = .running
  · have on : ¬ ((s.cleared.removePending [.hold, .resume, .start]).mode = .holding ∨
        (s.cleared.removePending [.hold, .resume, .start]).mode = .held) := by
      show ¬ (s.mode = .holding ∨ s.mode = .held)
      simp [running]
    have same : s.rewaiting [.hold, .resume, .start] id = s.cleared.removePending [.hold, .resume, .start] :=
      State.mapWaits_id _
    show State.executeDrain _ = _
    rw [drainWaits, if_pos running, same]
    exact if_neg on
  · obtain ⟨nobody, cold⟩ := cold.resolve_left running
    have held : (s.cleared.removePending [.hold, .resume, .start]).mode = .holding ∨
        (s.cleared.removePending [.hold, .resume, .start]).mode = .held := legal.resolve_left running
    show State.executeDrain (s.cleared.removePending [.hold, .resume, .start]) = _
    rw [State.executeDrain, if_pos held, drainWaits, if_neg running,
      State.backToWork_cold (s := s.cleared.removePending [.hold, .resume, .start]) .draining cold nobody]
    rfl

theorem State.Obeys.drain_legal {s : State} (obeys : s.Obeys .drain) :
    s.mode = .running ∨ s.mode = .holding ∨ s.mode = .held := by
  have legal := obeys.2.2.2.2.1
  revert legal
  cases s.mode <;> decide

section Drain

variable {s : State} {tag : Byte} (obeys : s.Obeys .drain)

include obeys

theorem exec_drain {m : Mode} (is : m = (if ∃ j ∈ s.table.joints, j.state.inWork = true then .draining else .armed))
    (cold : s.mode = .running ∨
      (s.arbiter.queue = [] ∧ ∀ h, (s.head h).state = .awaitRivet → s.stampOf h = none))
    (ends : m = .draining ∨ s.waitingBeside [.hold, .resume, .start] = []) :
    ∃ t, exec (.drain tag) s = .next t ∧
      t.control = { s.control with
        mode := m, inProgress := m.progress, pendingSet := s.waitingBeside [.hold, .resume, .start] } ∧
      (∀ h, t.head h = { s.head h with
        rivetWait := if s.mode = .running then (s.head h).rivetWait else (s.head h).rivetWait.resume }) ∧
      t.table = s.table ∧ t.dispatcher = s.dispatcher ∧ t.signature = s.signature ∧ t.heater = s.heater ∧
      t.arbiter = s.arbiter ∧ t.time = s.time ∧ t.outgoing = [] := by
  have head (h : HeadNo) : (s.rewaiting [.hold, .resume, .start] (drainWaits s.mode)).head h = { s.head h with
      rivetWait := if s.mode = .running then (s.head h).rivetWait else (s.head h).rivetWait.resume } := by
    rw [State.rewaiting_head, drainWaits]
    split <;> rfl
  obtain ⟨table, dispatcher, signature, heater, arbiter, -, time, outgoing, control⟩ :=
    s.rewaiting_frame [.hold, .resume, .start] (drainWaits s.mode)
  have effect := State.execute_drain_cold obeys.drain_legal cold
  generalize s.rewaiting [.hold, .resume, .start] (drainWaits s.mode) = u at *
  have entered : (u.enterMode .draining).table.joints = s.table.joints := by simp [table]
  rw [State.drainTest_draining (State.enterMode_mode u .draining), entered] at effect
  have rests : (s.cleared.execute .drain).ControllerRests := by
    rw [effect]
    split
    next => exact .inl (by rw [State.enterMode_mode]; rfl)
    next free =>
      rw [if_neg free] at is
      subst is
      exact .inr (.inr (by simp [control, ends.resolve_left nofun]))
  obtain ⟨l, event⟩ := exec_obeyed_rests obeys tag rests
  rw [effect] at event
  have heads (h : HeadNo) (v : State) (same : v.heads = u.heads) : v.head h = u.head h := by simp only [State.head, same]
  refine ⟨_, event, ?_⟩
  subst is
  split
  · refine ⟨by simp [control, Mode.progress], fun h => (heads h _ (by simp)).trans (head h), ?_⟩
    simp [table, dispatcher, signature, heater, arbiter, time, outgoing]
  · refine ⟨by simp [control, Mode.progress], fun h => (heads h _ (by simp)).trans (head h), ?_⟩
    simp [table, dispatcher, signature, heater, arbiter, time, outgoing]

theorem exec_drain_held {u v : State} (held : s.mode = .holding ∨ s.mode = .held)
    (is : u = { s.cleared with
      link := { s.link with fifo := s.link.fifo ++ [Directive.reply .drain tag .accepted] }
      control := { s.control with
        mode := .draining, inProgress := some .drain, pendingSet := s.waitingBeside [.hold, .resume, .start] }
      heads := s.heads.map (fun x => { x with rivetWait := x.rivetWait.resume }) })
    (raised : v = (u.post .modeChanged 6).reRaise) :
    exec (.drain tag) s = .next (State.transmitTurn (State.controllerTurn (if ∃ j ∈ v.table.joints, j.state.inWork = true
      then v else v.enterMode .armed))) := by
  have event := exec_obeyed obeys tag
  have entered : (((s.replied .drain tag).removePending [.hold, .resume, .start]).enterMode .draining).backToWork = v := by
    rw [raised, is, State.backToWork]
    exact congrArg State.reRaise (State.mapWaits_post _ _ _ _)
  have mode : v.mode = .draining := by
    have u_mode : u.mode = .draining := by rw [is]; rfl
    simpa [raised, State.mode] using u_mode
  have effect : (s.replied .drain tag).execute .drain =
      if ∃ j ∈ v.table.joints, j.state.inWork = true then v else v.enterMode .armed := by
    rw [← State.drainTest_draining mode, ← entered]
    exact if_pos held
  rw [effect] at event
  exact event

end Drain

/-- Settles O32. -/
theorem drainTakes : Obligations.DrainTakes := by
  refine fun s tag obeys => ⟨fun m is cold ends => exec_drain obeys is cold ends, fun u v held is raised => ?_⟩
  have event := exec_drain_held (tag := tag) obeys held is raised
  refine ⟨fun working => ?_, fun done => ?_⟩
  · have mode : v.mode = .draining := by
      have u_mode : u.mode = .draining := by rw [is]; rfl
      simpa [raised, State.mode] using u_mode
    rw [event, if_pos working, State.controllerTurn_rests (.inl (by rw [mode]; rfl))]
  · rw [event, if_neg (by simpa using done)]
    rfl

end Sys2Proof.Machine
end

section
/-! O33, O34 and O35: DISARM, ABORT and RECOVER (R156 to R158). -/

namespace Sys2Proof.Machine
set_option Elab.async false

/-! ## The heater emptied (R109, R120, R121) -/

/-- A pocket as it is left where every loaded one is ejected (R120). -/
def Pocket.ejected (n : Nat) : Pocket → Pocket
  | .loading c _ _ => .ejecting c n
  | .heating c _ _ => .ejecting c n
  | .ready c _ _ _ => .ejecting c n
  | .ejecting c k => .ejecting c k
  | .empty => .empty
  | .disabled => .disabled

/-- Whether a pocket is loaded: LOADING, HEATING or READY. -/
def Pocket.isLoaded (x : Pocket) : Bool := x.stateCode == 1 || x.stateCode == 2 || x.stateCode == 3

theorem State.ejectPocket_pocket (s : State) (p q : PocketNo) (c : RivetCode) :
    (s.ejectPocket p c).pocket q = if p = q then .ejecting c s.station.ejectTime else s.pocket q :=
  s.pocket_setPocket p q _

theorem State.ejectPocket_outgoing (s : State) (p : PocketNo) (c : RivetCode) :
    (s.ejectPocket p c).outgoing = s.outgoing ++ [.heater (.eject p)] := rfl

theorem State.ejectIfLoaded_pocket (s : State) (p q : PocketNo) : (s.ejectIfLoaded p).pocket q =
    if p = q then (s.pocket p).ejected s.station.ejectTime else s.pocket q := by
  by_cases e : p = q
  · subst e
    rw [if_pos rfl]
    unfold State.ejectIfLoaded
    split <;> simp [State.ejectPocket_pocket, Pocket.ejected, *]
  · rw [if_neg e]
    unfold State.ejectIfLoaded
    split <;> simp [State.ejectPocket_pocket, e]

theorem State.ejectIfLoaded_outgoing (s : State) (p : PocketNo) : (s.ejectIfLoaded p).outgoing =
    s.outgoing ++ if (s.pocket p).isLoaded then [.heater (.eject p)] else [] := by
  unfold State.ejectIfLoaded
  split <;> simp [State.ejectPocket_outgoing, Pocket.isLoaded, Pocket.stateCode, *]

theorem State.ejectIfLoaded_station (s : State) (p : PocketNo) : (s.ejectIfLoaded p).station = s.station := by
  simp [State.station]

/-- The heater's data that only requests change, but for the counts that serving takes from. -/
theorem State.ejectIfLoaded_stock (s : State) (p : PocketNo) :
    (s.ejectIfLoaded p).table = s.table ∧ (s.ejectIfLoaded p).heater.table = s.heater.table ∧
      (s.ejectIfLoaded p).heater.classes = s.heater.classes ∧
      (s.ejectIfLoaded p).heater.magazines = s.heater.magazines := by
  unfold State.ejectIfLoaded
  split <;> exact ⟨rfl, rfl, rfl, rfl⟩

theorem pocketNos_nodup : pocketNos.Nodup := by decide

section EjectAll

variable (s : State)

theorem State.ejectAll_pocket (p : PocketNo) : s.ejectAll.pocket p = (s.pocket p).ejected s.station.ejectTime := by
  have all := foldl_read (P := fun t => t.station = s.station) (read := State.pocket) (f := State.ejectIfLoaded)
    (φ := fun _ x => x.ejected s.station.ejectTime) (fun t a same => (t.ejectIfLoaded_station a).trans same)
    (fun t a b same => by rw [State.ejectIfLoaded_pocket, same]) pocketNos_nodup rfl p
  rw [if_pos (mem_pocketNos p)] at all
  rw [State.ejectAll]
  generalize pocketNos.foldl State.ejectIfLoaded s = u at all ⊢
  exact all

theorem State.ejectAll_outgoing : s.ejectAll.outgoing =
    s.outgoing ++ (pocketNos.filter (fun p => (s.pocket p).isLoaded)).map (fun p => .heater (.eject p)) := by
  have sent := foldl_sent (P := fun _ => True) (read := State.pocket) (f := State.ejectIfLoaded)
    (sent := fun p x => if x.isLoaded then [.heater (.eject p)] else []) (fun _ _ _ => trivial)
    (fun t a b _ other => by rw [State.ejectIfLoaded_pocket, if_neg other]) (fun t a _ => t.ejectIfLoaded_outgoing a)
    pocketNos_nodup (s := s) trivial
  rw [flatMap_ite_eq_map_filter] at sent
  rw [State.ejectAll]
  generalize pocketNos.foldl State.ejectIfLoaded s = u at sent ⊢
  exact sent

theorem State.ejectAll_stock :
    s.ejectAll.table = { s.table with joints := s.table.joints.map (fun j => { j with pocket := none }) } ∧
      s.ejectAll.heater.orders = [] ∧ s.ejectAll.heater.table = s.heater.table ∧
      s.ejectAll.heater.classes = s.heater.classes ∧ s.ejectAll.heater.magazines = s.heater.magazines := by
  have step (l : List PocketNo) (t : State) :
      (l.foldl State.ejectIfLoaded t).table = t.table ∧ (l.foldl State.ejectIfLoaded t).heater.table = t.heater.table ∧
        (l.foldl State.ejectIfLoaded t).heater.classes = t.heater.classes ∧
        (l.foldl State.ejectIfLoaded t).heater.magazines = t.heater.magazines := by
    induction l generalizing t with
    | nil => exact ⟨rfl, rfl, rfl, rfl⟩
    | cons p l ih =>
      have one := t.ejectIfLoaded_stock p
      have rest := ih (t.ejectIfLoaded p)
      rw [one.1, one.2.1, one.2.2.1, one.2.2.2] at rest
      exact rest
  obtain ⟨table, entries, classes, magazines⟩ := step pocketNos s
  rw [State.ejectAll]
  generalize pocketNos.foldl State.ejectIfLoaded s = u at table entries classes magazines ⊢
  refine ⟨?_, rfl, entries, classes, magazines⟩
  rw [← table]
  rfl

end EjectAll

theorem State.restorePockets_pocket (s : State) (p : PocketNo) : s.restorePockets.pocket p = (s.pocket p).restore := by
  simp [State.restorePockets, State.pocket]

/-! ## DISARM (R156) -/

theorem HeadState.disarmed_iff {x : HeadState} : x.disarmed = true ↔ x = .idle ∨ x = .fault ∨ x = .homing := by
  cases x <;> decide

theorem Pocket.restore_ejected (n : Nat) (x : Pocket) : (x.ejected n).restore = match x with
    | .loading c _ _ => .ejecting c n
    | .heating c _ _ => .ejecting c n
    | .ready c _ _ _ => .ejecting c n
    | .ejecting c k => .ejecting c k
    | .empty => .empty
    | .disabled => .empty := by cases x <;> rfl

/-- The state that has entered a mode, on which a directive's own effect goes on. -/
theorem State.entered_pieces (s : State) (m : Mode) :
    (s.cleared.enterMode m).table = s.table ∧ (s.cleared.enterMode m).dispatcher = s.dispatcher ∧
      (∀ h, (s.cleared.enterMode m).head h = s.head h) ∧ (s.cleared.enterMode m).signature = s.signature ∧
      (s.cleared.enterMode m).heater = s.heater ∧ (s.cleared.enterMode m).arbiter = s.arbiter ∧
      (s.cleared.enterMode m).station = s.station ∧ (s.cleared.enterMode m).time = s.time ∧
      (s.cleared.enterMode m).outgoing = [] ∧
      (s.cleared.enterMode m).control = { s.control with mode := m, inProgress := m.progress } ∧
      s.Occurred (s.cleared.enterMode m) .modeChanged m.code m := by
  refine ⟨?_, ?_, fun h => ?_, ?_, ?_, ?_, ?_, ?_, ?_, ?_, State.Occurred.enterMode (s := s) (u := s.cleared) rfl rfl m⟩ <;>
    simp [State.head, State.station, State.cleared]

/-- Settles O33. -/
theorem disarmReturns : Obligations.DisarmReturns := by
  intro s tag obeys
  obtain ⟨l, event⟩ := exec_obeyed_alone obeys (fun _ => rfl) rfl tag
  have effect : s.cleared.perform .disarm =
      ((s.cleared.enterMode .setup).dropCorrected.parkWhere HeadState.disarmed).ejectAll.restorePockets := rfl
  rw [effect] at event
  obtain ⟨table, dispatcher, head, signature, heater, arbiter, station, time, outgoing, control, occurred⟩ :=
    s.entered_pieces .setup
  generalize s.cleared.enterMode .setup = u at *
  have dropped : u.dropCorrected.table = { u.table with joints := u.table.joints.map (fun j => { j with corrected := none }) } := rfl
  have head' (h : HeadNo) : u.dropCorrected.head h = s.head h := head h
  have rest : u.dropCorrected.dispatcher = s.dispatcher ∧ u.dropCorrected.signature = s.signature ∧
      u.dropCorrected.heater = s.heater ∧ u.dropCorrected.arbiter = s.arbiter ∧ u.dropCorrected.link = u.link ∧
      u.dropCorrected.time = s.time ∧ u.dropCorrected.outgoing = [] ∧ u.dropCorrected.control = u.control ∧
      u.dropCorrected.reports = u.reports := ⟨dispatcher, signature, heater, arbiter, rfl, time, outgoing, rfl, rfl⟩
  generalize u.dropCorrected = v at *
  have parked := v.parkWhere_head HeadState.disarmed
  have sent := v.parkWhere_outgoing HeadState.disarmed
  have kept := v.parkWhere_frame HeadState.disarmed
  generalize v.parkWhere HeadState.disarmed = w at *
  have pockets := w.ejectAll_pocket
  have ejects := w.ejectAll_outgoing
  obtain ⟨stockTable, orders, entries, classes, magazines⟩ := w.ejectAll_stock
  have kept' := w.ejectAll_frame
  generalize w.ejectAll = x at *
  have pocket (p : PocketNo) : w.pocket p = s.pocket p := by simp only [State.pocket, kept, rest]
  have station' : w.station = s.station := by rw [← station]; simp only [State.station, kept, rest]
  have homing (h : HeadNo) : (HeadState.disarmed (s.head h).state && (s.head h).state == .homing) =
      ((s.head h).state == .homing) := by cases (s.head h).state <;> rfl
  refine ⟨_, event, ?_, ?_, fun h => ?_, ?_, ?_, ?_, ?_, orders, ?_, ?_, ?_, fun p => ?_, ?_, occurred.of_latch ?_⟩
  · simp [kept', kept, rest, control, Mode.progress]
  · refine stockTable.trans ?_
    simp only [kept, dropped, table, List.map_map]
    rfl
  · have same : x.restorePockets.head h = w.head h := by simp only [State.head, State.restorePockets_heads, kept']
    refine same.trans ((parked h).trans ?_)
    simp only [head', HeadState.disarmed_iff]
  · simp [kept', kept, rest]
  · simp [kept', kept, rest]
  · simp [kept', kept, rest]
  · simp [kept', kept, rest]
  · exact entries.trans (by simp only [kept, rest])
  · exact classes.trans (by simp only [kept, rest])
  · exact magazines.trans (by simp only [kept, rest])
  · have each : x.restorePockets.pocket p = ((s.pocket p).ejected s.station.ejectTime).restore := by
      rw [State.restorePockets_pocket, pockets, pocket, station']
    exact each.trans (Pocket.restore_ejected _ _)
  · have order : x.restorePockets.outgoing = w.outgoing ++ (pocketNos.filter (fun p => (w.pocket p).isLoaded)).map
        (fun p => .heater (.eject p)) := ejects
    refine order.trans ?_
    simp only [sent, rest, head', homing, pocket, List.nil_append]
    rfl
  · exact State.latch_congr (s := u) (by simp only [State.restorePockets_reports, kept', kept, rest]) _

end Sys2Proof.Machine
end

section
/-! O34 and O35: ABORT and RECOVER (R157, R158). -/

namespace Sys2Proof.Machine
set_option Elab.async false

/-! ## RECOVER (R158, R7) -/

/-- The rejections posted one after another leave the first one's record where the latch was CLEAR (R165). -/
theorem State.postRejected_first {s : State} {i : Nat} (is : List Nat) (clear : (s.latch .jointRejected).held = none) :
    ∃ place n, ((s.postRejected (i :: is)).latch .jointRejected).held = some ⟨place, i, s.time, s.mode, n⟩ := by
  have first : s.Occurred (s.post .jointRejected i) .jointRejected i s.mode := State.Occurred.post rfl rfl i
  simp only [State.Occurred, clear] at first
  obtain ⟨place, first⟩ := first
  refine List.foldlRecOn (motive := fun t : State =>
    ∃ place n, (t.latch .jointRejected).held = some ⟨place, i, s.time, s.mode, n⟩) is (fun t i => t.post .jointRejected i)
    ⟨place, 1, first⟩ fun t posted j _ => ?_
  obtain ⟨place, n, held⟩ := posted
  refine ⟨place, min 255 (n + 1), ?_⟩
  rw [State.post, held]
  simp [State.holdReport_latch, Held.again]

/-- The lowest LOCKED index heads the list of them. -/
theorem State.lockedJoints_head {s : State} {i : Nat} {j : Joint} (hj : s.joint? i = some j) (locked : j.state = .locked)
    (lowest : ∀ i' j', i' < i → s.joint? i' = some j' → j'.state ≠ .locked) : ∃ is, s.lockedJoints = i :: is := by
  have isLocked (k : Nat) : k ∈ s.lockedJoints ↔ ∃ j, s.joint? k = some j ∧ j.state = .locked := by
    simp only [State.lockedJoints, List.mem_filter, List.mem_range, Option.any_eq_true, beq_iff_eq]
    refine ⟨And.right, fun is => ⟨?_, is⟩⟩
    obtain ⟨j, found, -⟩ := is
    exact (List.getElem?_eq_some_iff.1 found).1
  have rising : s.lockedJoints.Pairwise (· < ·) := List.pairwise_lt_range.filter _
  have mem := (isLocked i).2 ⟨j, hj, locked⟩
  cases list : s.lockedJoints with
  | nil => rw [list] at mem; cases mem
  | cons a is =>
    rw [list] at mem rising
    rcases List.mem_cons.1 mem with rfl | later
    · exact ⟨is, rfl⟩
    · obtain ⟨j', found, locked'⟩ := (isLocked a).1 (list ▸ List.mem_cons_self)
      exact absurd locked' (lowest a j' ((List.pairwise_cons.1 rising).1 i later) found)

theorem HeadState.isStopped_iff {x : HeadState} : x.isStopped = true ↔ x = .stopped := by cases x <;> decide

theorem Pocket.restore_eq_ite (x : Pocket) : x.restore = if x = .disabled then .empty else x := by
  cases x <;> rfl

theorem State.mapJoints_table (s : State) (f : Joint → Joint) :
    (s.mapJoints f).table = { s.table with joints := s.table.joints.map f } := rfl

/-- The joints and reports where RECOVER has turned the LOCKED joints into REJECTED ones. -/
def State.unlocked (s : State) : State := ((s.mapJoints Joint.unlock).postRejected s.lockedJoints).dropCorrected

theorem State.unlocked_joints (s : State) : s.unlocked.table = { s.table with joints := s.table.joints.map (fun j =>
    { j with state := if j.state = .locked then .rejected else j.state, corrected := none }) } := by
  have each (j : Joint) : { j.unlock with corrected := none } =
      { j with state := if j.state = .locked then .rejected else j.state, corrected := none } := by
    unfold Joint.unlock
    split <;> rfl
  have posted := ((s.mapJoints Joint.unlock).postRejected_frame s.lockedJoints).1
  rw [State.unlocked, State.dropCorrected, State.mapJoints_table, posted, State.mapJoints_table]
  simp only [List.map_map]
  exact congrArg (fun js => { s.table with joints := js }) (List.map_congr_left fun j _ => each j)

/-- Settles O35. -/
theorem recoverReturns : Obligations.RecoverReturns := by
  intro s tag obeys
  obtain ⟨l, event⟩ := exec_obeyed_alone obeys (fun _ => rfl) rfl tag
  have effect : s.cleared.perform .recover =
      (((s.cleared.enterMode .setup).unlocked.recompute false).parkWhere HeadState.isStopped).restorePockets := rfl
  rw [effect] at event
  have mode : (s.cleared.enterMode .setup).mode = .setup := State.enterMode_mode _ _
  obtain ⟨table, dispatcher, head, signature, heater, arbiter, -, time, outgoing, control, -⟩ := s.entered_pieces .setup
  have clear : (s.cleared.enterMode .setup).latch .jointRejected = s.latch .jointRejected :=
    State.enterMode_latch_ne (k := .jointRejected) nofun _
  generalize s.cleared.enterMode .setup = u at *
  have joint (i : Nat) : u.joint? i = s.joint? i := by simp only [State.joint?, table]
  have joints := u.unlocked_joints
  have kept : u.unlocked.dispatcher = u.dispatcher ∧ u.unlocked.heads = u.heads ∧ u.unlocked.signature = u.signature ∧
      u.unlocked.heater = u.heater ∧ u.unlocked.arbiter = u.arbiter ∧ u.unlocked.control = u.control ∧
      u.unlocked.time = u.time ∧ u.unlocked.outgoing = u.outgoing := by simp [State.unlocked, State.dropCorrected]
  have rejected (h : (s.latch .jointRejected).held = none) (i : Nat) (j : Joint) (hj : s.joint? i = some j)
      (locked : j.state = .locked) (lowest : ∀ i' j', i' < i → s.joint? i' = some j' → j'.state ≠ .locked) :
      ∃ place n, (u.unlocked.latch .jointRejected).held = some ⟨place, i, s.time, .setup, n⟩ := by
    obtain ⟨is, first⟩ := State.lockedJoints_head (s := u) ((joint i).trans hj) locked
      (fun i' j' less found => lowest i' j' less ((joint i').symm.trans found))
    have posted := State.postRejected_first (s := u.mapJoints Joint.unlock) (i := i) is ((congrArg Latch.held clear).trans h)
    rw [← first, State.mapJoints_time, time, State.mapJoints_mode, mode] at posted
    exact posted
  have quiet : u.unlocked.mode ≠ .running := by simp only [State.mode, kept] at mode ⊢; rw [mode]; decide
  rw [State.recompute_quiet quiet] at event
  generalize u.unlocked = v at *
  have parked := State.parkWhere_head { v with table := { v.table with currentPass := currentPassOf v.table.joints } }
    HeadState.isStopped
  have sent := State.parkWhere_outgoing { v with table := { v.table with currentPass := currentPassOf v.table.joints } }
    HeadState.isStopped
  have frame := State.parkWhere_frame { v with table := { v.table with currentPass := currentPassOf v.table.joints } }
    HeadState.isStopped
  generalize State.parkWhere { v with table := { v.table with currentPass := currentPassOf v.table.joints } }
    HeadState.isStopped = w at *
  have heads (h : HeadNo) : v.head h = s.head h := by rw [← head]; simp only [State.head, kept]
  refine ⟨_, event, ?_, ?_, ?_, ?_, fun h => ?_, ?_, ?_, ?_, ?_, ?_, ?_, ?_, fun p => ?_, ?_, ?_, ?_⟩
  · simp [frame, kept, control, Mode.progress]
  · simp only [State.restorePockets_table, frame, joints, table]
  · simp only [State.restorePockets_table, frame, joints]
  · simp only [State.restorePockets_table, frame, joints, table]
  · have same : w.restorePockets.head h = if HeadState.isStopped (v.head h).state then (v.head h).inPark else v.head h :=
      parked h
    refine same.trans ?_
    simp only [heads, HeadState.isStopped_iff]
  · simp [frame, kept, dispatcher]
  · simp [frame, kept, signature]
  · simp [frame, kept, arbiter]
  · simp [State.restorePockets, frame, kept, heater]
  · simp [State.restorePockets, frame, kept, heater]
  · simp [State.restorePockets, frame, kept, heater]
  · simp [State.restorePockets, frame, kept, heater]
  · have pocket : w.pocket p = s.pocket p := by simp only [State.pocket, frame, kept, heater]
    have restored : w.restorePockets.pocket p = (s.pocket p).restore := by rw [State.restorePockets_pocket, pocket]
    exact restored.trans (Pocket.restore_eq_ite _)
  · simp [frame, kept, time]
  · have none (h : HeadNo) : (HeadState.isStopped (s.head h).state && (s.head h).state == .homing) = false := by
      cases (s.head h).state <;> rfl
    have homing : headNos.filter (fun h => HeadState.isStopped (s.head h).state && (s.head h).state == .homing) = [] :=
      List.filter_eq_nil_iff.2 fun h _ => by simp [none h]
    have order : w.restorePockets.outgoing = v.outgoing ++ (headNos.filter (fun h =>
        HeadState.isStopped (v.head h).state && (v.head h).state == .homing)).map (fun h => .drive h .stop) := sent
    refine order.trans ?_
    simp only [heads, homing, kept, outgoing, List.map_nil, List.append_nil]
  · intro none i j hj locked lowest
    obtain ⟨place, n, held⟩ := rejected none i j hj locked lowest
    refine ⟨place, n, (congrArg Latch.held (State.latch_congr (s := v) ?_ _)).trans held⟩
    simp only [State.restorePockets_reports, frame]

/-! ## ABORT (R157) -/

/-- A joint as ABORT leaves it, its pocket lost with the heater's emptying. -/
theorem Joint.lock_eq (j : Joint) (phase : Option HeadState) : { j.lock phase with pocket := none } =
    if j.state.inWork then
      { j with state := .locked, rejection := some ⟨.aborted, j.state != .setting⟩, phaseAtEnd := phase, pocket := none }
    else { j with pocket := none } := by
  unfold Joint.lock
  split
  next working =>
    have unfed : j.state.unfed = (j.state != .setting) := by
      revert working
      cases j.state <;> decide
    rw [unfed]
  next => rfl

/-- A head as ABORT leaves it: stopped where it is in service (R66). -/
def Head.stopped (x : Head) : Head := if x.state = .offline then x else { x.abort with order := some .stop }

theorem State.stopHeads_head (s : State) (g : HeadNo) : s.stopHeads.head g = (s.head g).stopped := by
  have each (t : State) (h g : HeadNo) :
      (if (t.head h).state = .offline then t else (t.modHead h Head.abort).sendDrive h .stop).head g =
        if h = g then (t.head h).stopped else t.head g := by
    unfold Head.stopped
    by_cases e : h = g
    · subst e
      split <;> simp
    · split <;> simp [e]
  have all := State.foldl_head (φ := fun _ x => x.stopped) each headNos_nodup s g
  rw [State.stopHeads, all, if_pos (mem_headNos g)]

theorem channelNos_nodup : channelNos.Nodup := by decide

theorem mem_channelNos (c : ChannelNo) : c ∈ channelNos := by
  revert c
  decide

theorem State.abortChannels_channel (s : State) (c : ChannelNo) :
    s.abortChannels.channel c = (s.channel c).aborted c := by
  have all := foldl_read (P := fun _ => True) (read := State.channel)
    (f := fun t c => t.modChannel c (Channel.aborted c)) (φ := fun c x => x.aborted c) (fun _ _ _ => trivial)
    (fun t a b _ => t.channel_modChannel a b _) channelNos_nodup (s := s) trivial c
  rw [if_pos (mem_channelNos c)] at all
  rw [State.abortChannels]
  generalize channelNos.foldl _ s = u at all ⊢
  exact all

theorem State.abortChannels_filter (s : State) :
    s.abortChannels.signature.filter = s.signature.filter ∧ s.abortChannels.signature.drillQueue = [] := by
  have step (l : List ChannelNo) (t : State) :
      (l.foldl (fun t c => t.modChannel c (Channel.aborted c)) t).signature.filter = t.signature.filter := by
    induction l generalizing t with
    | nil => rfl
    | cons c l ih =>
      rw [List.foldl_cons, ih]
      rfl
  refine ⟨?_, rfl⟩
  have all := step channelNos s
  rw [State.abortChannels]
  generalize channelNos.foldl _ s = u at all ⊢
  exact all

theorem Channel.aborted_eq (c : ChannelNo) (x : Channel) : x.aborted c = if x.holder = none then x
    else if c.val < 2 then { x with holder := none, ending := some .cutShort } else { x with holder := none } := by
  unfold Channel.aborted
  cases x.holder <;> rfl

theorem State.abortPermits_pieces (s : State) :
    (∀ k, s.abortPermits.permit k = none) ∧ s.abortPermits.arbiter.queue = [] ∧ s.abortPermits.table = s.table ∧
      s.abortPermits.heads = s.heads ∧ s.abortPermits.dispatcher = s.dispatcher ∧
      s.abortPermits.signature = s.signature ∧ s.abortPermits.heater = s.heater ∧ s.abortPermits.control = s.control ∧
      s.abortPermits.reports = s.reports ∧ s.abortPermits.link = s.link ∧ s.abortPermits.time = s.time := by
  refine ⟨fun k => ?_, rfl, rfl, rfl, rfl, rfl, rfl, rfl, rfl, rfl, rfl⟩
  have read : s.abortPermits.permit k = ((s.setPermit 0 none).setPermit 1 none).permit k := rfl
  rw [read, State.permit_setPermit, State.permit_setPermit]
  match k with
  | 0 => rfl
  | 1 => rfl

theorem Directive.mem_removes_abort {d : Directive} (other : d ≠ .abort) : d ∈ Directive.removes .abort := by
  cases d <;> simp_all [Directive.removes]

/-- ABORT leaves no directive waiting (R146). -/
theorem State.waitingBeside_abort {s : State} (new : .abort ∉ s.control.pendingSet) :
    s.waitingBeside (Directive.removes .abort) = [] := by
  refine List.filter_eq_nil_iff.2 fun d waits => ?_
  have other : d ≠ .abort := fun same => new (same ▸ waits)
  simp [Directive.mem_removes_abort other]

theorem State.lockJoints_table (s : State) : s.lockJoints.table = { s.table with
    joints := s.table.joints.mapIdx (fun i j => j.lock ((s.holderOf i).map (fun h => (s.head h).state))) } := rfl

/-- ABORT's effect on the blocks other than the reports, before the current pass is recomputed: joints locked, heads
stopped, channels and permits freed, and the heater emptied. -/
def State.aborting (s : State) : State := s.lockJoints.stopHeads.abortChannels.abortPermits.ejectAll

theorem State.aborting_pieces (s : State) :
    s.aborting.table = { s.table with
        joints := s.table.joints.mapIdx (fun i j =>
          { j.lock ((s.holderOf i).map (fun h => (s.head h).state)) with pocket := none }) } ∧
      (∀ h, s.aborting.head h = (s.head h).stopped) ∧ s.aborting.dispatcher = s.dispatcher ∧
      (∀ c, s.aborting.channel c = (s.channel c).aborted c) ∧ s.aborting.signature.drillQueue = [] ∧
      s.aborting.signature.filter = s.signature.filter ∧ (∀ k, s.aborting.permit k = none) ∧
      s.aborting.arbiter.queue = [] ∧ s.aborting.heater.orders = [] ∧ s.aborting.heater.table = s.heater.table ∧
      s.aborting.heater.classes = s.heater.classes ∧ s.aborting.heater.magazines = s.heater.magazines ∧
      (∀ p, s.aborting.pocket p = (s.pocket p).ejected s.station.ejectTime) ∧ s.aborting.time = s.time ∧
      s.aborting.control = s.control ∧ s.aborting.reports = s.reports := by
  have locked := s.lockJoints_table
  have keptLocking := s.lockJoints_frame
  unfold State.aborting
  generalize s.lockJoints = v at *
  have stopped := v.stopHeads_head
  have keptStopping := v.stopHeads_frame
  generalize v.stopHeads = w at *
  have channels := w.abortChannels_channel
  have filter := w.abortChannels_filter
  have keptChannels := w.abortChannels_frame
  generalize w.abortChannels = x at *
  have permits := x.abortPermits_pieces
  generalize x.abortPermits = y at *
  have pockets := y.ejectAll_pocket
  obtain ⟨stockTable, orders, entries, classes, magazines⟩ := y.ejectAll_stock
  have keptEjecting := y.ejectAll_frame
  generalize y.ejectAll = z at *
  have heads (h : HeadNo) : v.head h = s.head h := by simp only [State.head, keptLocking]
  have station : y.station = s.station := by simp only [State.station, permits, keptChannels, keptStopping, keptLocking]
  refine ⟨?_, fun h => ?_, ?_, fun c => ?_, ?_, ?_, fun k => ?_, ?_, orders, ?_, ?_, ?_, fun p => ?_, ?_, ?_, ?_⟩
  · simp only [stockTable, permits, keptChannels, keptStopping, locked]
    congr 1
    refine List.ext_getElem (by simp) fun i _ _ => ?_
    simp only [List.getElem_map, List.getElem_mapIdx]
  · rw [← heads, ← stopped]
    simp only [State.head, keptEjecting, permits, keptChannels]
  · simp only [keptEjecting, permits, keptChannels, keptStopping, keptLocking]
  · have same : z.channel c = x.channel c := by simp only [State.channel, keptEjecting, permits]
    rw [same, channels]
    simp only [State.channel, keptStopping, keptLocking]
  · simp only [keptEjecting, permits, filter]
  · simp only [keptEjecting, permits, filter, keptStopping, keptLocking]
  · rw [← permits.1 k]
    simp only [State.permit, keptEjecting]
  · simp only [keptEjecting, permits]
  · simp only [entries, permits, keptChannels, keptStopping, keptLocking]
  · simp only [classes, permits, keptChannels, keptStopping, keptLocking]
  · simp only [magazines, permits, keptChannels, keptStopping, keptLocking]
  · rw [pockets, station]
    simp only [State.pocket, permits, keptChannels, keptStopping, keptLocking]
  · simp only [keptEjecting, permits, keptChannels, keptStopping, keptLocking]
  · simp only [keptEjecting, permits, keptChannels, keptStopping, keptLocking]
  · simp only [keptEjecting, permits, keptChannels, keptStopping, keptLocking]

/-- Settles O34. -/
theorem abortStopsAll : Obligations.AbortStopsAll := by
  intro s tag obeys
  have alone := State.waitingBeside_abort obeys.2.2.2.1
  have rests : (s.cleared.execute .abort).ControllerRests := by
    refine .inr (.inr ?_)
    rw [State.execute, ((s.cleared.removePending _).perform_marks .abort).1]
    exact alone
  obtain ⟨l, event⟩ := exec_obeyed_rests obeys tag rests
  have effect : s.cleared.execute .abort =
      ((s.cleared.removePending (Directive.removes .abort)).enterMode .aborted).aborting.recompute false := rfl
  rw [effect] at event
  have occurred := State.Occurred.enterMode (s := s) (u := s.cleared.removePending (Directive.removes .abort)) rfl rfl
    .aborted
  have entered := (s.cleared.removePending (Directive.removes .abort)).enterMode_frame .aborted
  have control : ((s.cleared.removePending (Directive.removes .abort)).enterMode .aborted).control =
      { s.control with mode := .aborted, inProgress := none, pendingSet := [] } := by
    rw [State.enterMode_control, ← alone]
    rfl
  generalize (s.cleared.removePending (Directive.removes .abort)).enterMode .aborted = u at *
  have head (h : HeadNo) : u.head h = s.head h := by simp only [State.head, entered]; rfl
  have holder (i : Nat) : u.holderOf i = s.holderOf i := by simp only [State.holderOf, head]
  have station : u.station = s.station := by simp only [State.station, entered]; rfl
  obtain ⟨table, heads, dispatcher, channels, queue, filter, permits, waits, orders, entries, classes, magazines, pockets,
    time, control', reports⟩ := u.aborting_pieces
  have quiet : u.aborting.mode ≠ .running := by simp [State.mode, control', control]
  rw [State.recompute_quiet quiet] at event
  generalize u.aborting = v at *
  have joints : v.table.joints = s.table.joints.mapIdx (fun i j =>
      { j.lock ((s.holderOf i).map (fun h => (s.head h).state)) with pocket := none }) := by
    simp only [table, entered, holder, head]
    rfl
  refine ⟨_, event, control'.trans control, ?_, rfl, ?_, fun h => ?_, ?_, fun c => ?_, queue, ?_, permits, waits, orders,
    ?_, ?_, ?_, fun p => ?_, ?_, occurred.of_latch (State.latch_congr reports _)⟩
  · refine joints.trans ?_
    simp only [Joint.lock_eq]
  · show v.table.datum = _
    simp only [table, entered]
    rfl
  · exact (heads h).trans (by rw [head]; rfl)
  · exact dispatcher.trans entered.2.1
  · refine (channels c).trans ((Channel.aborted_eq c _).trans ?_)
    have same : u.channel c = s.channel c := by simp only [State.channel, entered]; rfl
    rw [same]
  · exact filter.trans (by simp only [entered]; rfl)
  · exact entries.trans (by simp only [entered]; rfl)
  · exact classes.trans (by simp only [entered]; rfl)
  · exact magazines.trans (by simp only [entered]; rfl)
  · have same : u.pocket p = s.pocket p := by simp only [State.pocket, entered]; rfl
    refine (pockets p).trans ?_
    rw [same, station]
    cases s.pocket p <;> rfl
  · exact time.trans (by simp only [entered]; rfl)

end Sys2Proof.Machine
end

section
/-! O45: events that find their head or pocket in another state (R41, R42, R104 to R108). -/

namespace Sys2Proof.Machine
set_option Elab.async false

/-! ## Events that are not taken -/

section Ignored

variable {s : State} {h : HeadNo} {p : PocketNo}

theorem State.homeDone_ignored (other : (s.head h).state ≠ .homing) : s.homeDone h = s := if_neg other

theorem State.travelDone_ignored (other : (s.head h).state ≠ .travel) : s.travelDone h = s := if_neg other

theorem State.clampDone_ignored (other : (s.head h).state ≠ .clamp) : s.clampDone h = s := if_neg other

theorem State.drillSample_ignored {depth : Nat} {thrust : Int}
    (other : (s.head h).state ≠ .drill ∨ (s.head h).subPhase = some .peckRetract ∨ depth ≤ (s.head h).deepest) :
    s.drillSample h depth thrust = s := by
  refine if_neg fun takes => ?_
  simp only [Head.takesSample, Bool.and_eq_true, Bool.or_eq_true, beq_iff_eq, decide_eq_true_eq] at takes
  obtain ⟨⟨drilling, phase⟩, deeper⟩ := takes
  rcases other with other | back | shallow
  · exact other drilling
  · simp [back] at phase
  · omega

theorem State.peckBack_ignored (other : (s.head h).state ≠ .drill ∨ (s.head h).subPhase ≠ some .peckRetract) :
    s.peckBack h = s := if_neg fun takes => other.elim (· takes.1) (· takes.2)

theorem State.retracted_ignored (other : (s.head h).state ≠ .retract) : s.retracted h = s := if_neg other

theorem State.feedDone_ignored (other : (s.head h).state ≠ .feed) : s.feedDone h = s := if_neg other

theorem State.setSample_ignored {stroke : Nat} {force : Int} (other : (s.head h).state ≠ .set) :
    s.setSample h stroke force = s := if_neg other

theorem State.setDone_ignored (other : (s.head h).state ≠ .set) : s.setDone h = s := if_neg other

theorem State.releaseDone_ignored (other : (s.head h).state ≠ .release) : s.releaseDone h = s := if_neg other

theorem State.rivetWaitExpired_ignored (other : (s.head h).state ≠ .awaitRivet) : s.rivetWaitExpired h = s := by
  unfold State.rivetWaitExpired
  split
  · exact absurd ‹_› other
  · rfl

theorem State.driveFault_ignored {code : Byte}
    (out : (s.head h).state = .parked ∨ (s.head h).state = .stopped ∨ (s.head h).state = .offline) :
    s.driveFault h code = s := by
  unfold State.driveFault
  rcases out with out | out | out <;> simp [out, HeadState.canFault]

theorem State.phaseTimeout_ignored (none : (s.head h).phaseTimer = none) : s.phaseTimeout h = s :=
  if_neg (by simp [none])

theorem State.loadDone_ignored (other : ∀ c o t, s.pocket p ≠ .loading c o t) : s.loadDone p = s := by
  unfold State.loadDone
  split
  · exact absurd ‹_› (other _ _ _)
  all_goals rfl

theorem State.heatExpired_ignored (other : ∀ c o t, s.pocket p ≠ .heating c o t) : s.heatExpired p = s := by
  unfold State.heatExpired
  split
  · exact absurd ‹_› (other _ _ _)
  all_goals rfl

theorem State.holdExpired_ignored (other : ∀ c o t st, s.pocket p ≠ .ready c o t st) : s.holdExpired p = s := by
  unfold State.holdExpired
  split
  · exact absurd ‹_› (other _ _ _ _)
  all_goals rfl

theorem State.ejectDone_ignored (other : ∀ c t, s.pocket p ≠ .ejecting c t) : s.ejectDone p = s := by
  unfold State.ejectDone
  split
  · exact absurd ‹_› (other _ _)
  all_goals rfl

theorem State.portExpired_ignored (notLoading : ∀ c o t, s.pocket p ≠ .loading c o t)
    (notEjecting : ∀ c t, s.pocket p ≠ .ejecting c t) : s.portExpired p = s := by
  unfold State.portExpired
  split
  · exact absurd ‹_› (notLoading _ _ _)
  · exact absurd ‹_› (notEjecting _ _)
  all_goals rfl

end Ignored

theorem State.atPocket_named (s : State) (p : PocketNo) (f : State → PocketNo → State) :
    s.atPocket (BitVec.ofNat 8 p.val) f = f s p := by
  have named : finOf 6 (BitVec.ofNat 8 p.val).toNat = some p := by
    revert p
    decide
  rw [State.atPocket, named]

theorem State.atPocket_above (s : State) {code : Byte} (above : 6 ≤ code.toNat) (f : State → PocketNo → State) :
    s.atPocket code f = s := by
  have none : finOf 6 code.toNat = none := dif_neg (by omega)
  rw [State.atPocket, none]

/-- An event that is not taken changes nothing in a settled state. -/
theorem State.command_ignored {s : State} (settled : s.Settled) {f : State → State} (ignored : f s.cleared = s.cleared) :
    s.command f = s.cleared := by
  show (f s.cleared).settle = s.cleared
  rw [ignored]
  exact State.settle_settled (s := s.cleared) settled

/-- Settles O45, event by event. -/
theorem eventsIgnored : Obligations.EventsIgnored := by
  intro s h p code a b settled
  have next (f : State → State) (ignored : f s.cleared = s.cleared) :
      (Host.Outcome.next (s.command f) : Host.Outcome State Fault Refusal) = .next s.cleared :=
    congrArg Host.Outcome.next (State.command_ignored settled ignored)
  refine ⟨fun other => next (State.homeDone · h) (State.homeDone_ignored other),
    fun other => next (State.travelDone · h) (State.travelDone_ignored other),
    fun other => next (State.clampDone · h) (State.clampDone_ignored other),
    fun other => next (State.drillSample · h a.toNat (sampleOf b)) (State.drillSample_ignored other),
    fun other => next (State.peckBack · h) (State.peckBack_ignored other),
    fun other => next (State.retracted · h) (State.retracted_ignored other),
    fun other => next (State.feedDone · h) (State.feedDone_ignored other),
    fun other => ⟨next (State.setSample · h a.toNat (sampleOf b)) (State.setSample_ignored other),
      next (State.setDone · h) (State.setDone_ignored other)⟩,
    fun other => next (State.releaseDone · h) (State.releaseDone_ignored other),
    fun other => next (State.rivetWaitExpired · h) (State.rivetWaitExpired_ignored other),
    fun out => next (State.driveFault · h code) (State.driveFault_ignored out),
    fun none => next (State.phaseTimeout · h) (State.phaseTimeout_ignored none),
    fun other => next (State.atPocket · _ State.loadDone) ?_,
    fun other => next (State.heatExpired · p) (State.heatExpired_ignored other),
    fun other => next (State.holdExpired · p) (State.holdExpired_ignored other),
    fun other => ⟨next (State.atPocket · _ State.ejectDone) ?_,
      fun notLoading => next (State.portExpired · p) (State.portExpired_ignored notLoading other)⟩,
    fun above => ⟨next (State.atPocket · code State.loadDone) (State.atPocket_above _ above _),
      next (State.atPocket · code State.ejectDone) (State.atPocket_above _ above _)⟩⟩
  · exact (State.atPocket_named _ p _).trans (State.loadDone_ignored other)
  · exact (State.atPocket_named _ p _).trans (State.ejectDone_ignored other)

end Sys2Proof.Machine
end

section
/-! O46: the pockets' events and timers (R105 to R108). -/

namespace Sys2Proof.Machine
set_option Elab.async false

/-! ## Events on a quiet part -/

/-- An event that leaves the link and the control alone is its effect, after which the transmitter may start a report. -/
theorem State.command_event {s u : State} (quiet : s.Quiet) {f : State → State} (effect : f s.cleared = u)
    (link : u.link = s.link) (control : u.control = s.control) : s.command f = u.transmitTurn :=
  State.command_next quiet effect link (by rw [control]) (by rw [control])

/-- And where it posts nothing, it is its effect alone. -/
theorem State.command_unreported {s u : State} (quiet : s.Quiet) {f : State → State} (effect : f s.cleared = u)
    (link : u.link = s.link) (control : u.control = s.control) (reports : u.reports = s.reports) : s.command f = u :=
  State.command_silent quiet effect link (by rw [control]) (by rw [control]) reports

/-! ## Permits that nobody may take (R127) -/

theorem State.grantAll_full {s : State} (full : ∀ k, s.permit k ≠ none) : s.grantAll = s := by
  have noFree : s.freePermit = none := by
    refine List.find?_eq_none.2 fun k _ => ?_
    simpa [Option.isNone_iff_eq_none] using full k
  rw [State.grantAll]
  cases s.arbiter.queue.length with
  | zero => rfl
  | succ n => rw [State.grantTurns, noFree]

/-- Nothing is granted where nobody waits beside a FREE permit. -/
theorem State.grantAll_shared {s : State} (shared : s.arbiter.queue = [] ∨ ∀ k, s.permit k ≠ none) : s.grantAll = s :=
  shared.elim State.grantAll_nobody State.grantAll_full

theorem State.mayAsk_iff {s : State} {h : HeadNo} : s.mayAsk h = true ↔ s.Asks h := by
  simp only [State.mayAsk, State.Asks, Bool.and_eq_true, beq_iff_eq, Option.isSome_iff_ne_none, and_assoc]
  exact and_congr_right fun _ => and_congr_right fun _ => by cases s.mode <;> decide

theorem State.joinPermitQueue_stays {s : State} {h : HeadNo}
    (stays : ¬ s.Asks h ∨ s.permitOf h ≠ none ∨ h ∈ s.arbiter.queue) : s.joinPermitQueue h = s := by
  refine if_neg fun joins => ?_
  rcases stays with cold | holds | waits
  · exact cold (State.mayAsk_iff.1 joins.1)
  · exact holds joins.2.2
  · exact joins.2.1 waits

/-- A head that does not ask, holds a permit or waits joins nothing (R125). -/
theorem State.requestPermit_stays {s : State} {h : HeadNo}
    (stays : ¬ s.Asks h ∨ s.permitOf h ≠ none ∨ h ∈ s.arbiter.queue) : s.requestPermit h = s.grantAll := by
  rw [State.requestPermit, State.joinPermitQueue_stays stays]

/-! ## A pocket's events -/

theorem State.rivetClass_defined {s : State} {c : RivetCode} {cls : RivetClass} (defined : s.heater.classes[c] = some cls) :
    s.rivetClass c = cls := by rw [State.rivetClass, defined, Option.getD_some]

section Events

variable {s : State} {p : PocketNo} {c : RivetCode} {n i : Nat}

theorem State.tellReady_held {h : HeadNo} (held : s.holderOf i = some h) : s.tellReady i = s.requestPermit h := by
  rw [State.tellReady, held]

theorem State.tellReady_nobody (nobody : s.holderOf i = none) : s.tellReady i = s := by rw [State.tellReady, nobody]

theorem State.losePocket_held {h : HeadNo} (held : s.holderOf i = some h) :
    s.losePocket i = (s.setJointPocket i none).withdraw h := by rw [State.losePocket, held]

theorem State.losePocket_nobody (nobody : s.holderOf i = none) : s.losePocket i = s.setJointPocket i none := by
  rw [State.losePocket, nobody]

theorem State.heatExpired_unowned (heating : s.pocket p = .heating c none n) :
    s.heatExpired p = s.setPocket p (.ready c none ((s.rivetClass c).holdWindow * 100) s.time) := by
  simp only [State.heatExpired, heating]

theorem State.heatExpired_owned (heating : s.pocket p = .heating c (some i) n) :
    s.heatExpired p = (s.setPocket p (.ready c (some i) ((s.rivetClass c).holdWindow * 100) s.time)).tellReady i := by
  simp only [State.heatExpired, heating]

theorem State.holdExpired_unowned {st : Stamp} (ready : s.pocket p = .ready c none n st) :
    s.holdExpired p = (s.ejectPocket p c).post .rivetScrapped p.val := by
  simp only [State.holdExpired, ready]

theorem State.holdExpired_owned {st : Stamp} (ready : s.pocket p = .ready c (some i) n st) :
    s.holdExpired p = (((s.ejectPocket p c).post .rivetScrapped p.val).losePocket i).seek i c false := by
  simp only [State.holdExpired, ready]

theorem State.ejectDone_ejecting (ejecting : s.pocket p = .ejecting c n) : s.ejectDone p = (s.setPocket p .empty).serve := by
  simp only [State.ejectDone, ejecting]

theorem State.portExpired_ejecting (ejecting : s.pocket p = .ejecting c n) :
    s.portExpired p = (s.setPocket p .disabled).post .heaterFault p.val := by
  simp only [State.portExpired, ejecting]

theorem State.portExpired_unowned (loading : s.pocket p = .loading c none n) :
    s.portExpired p = (s.setPocket p .disabled).post .heaterFault p.val := by
  simp only [State.portExpired, loading]

theorem State.portExpired_owned (loading : s.pocket p = .loading c (some i) n) :
    s.portExpired p = (((s.setPocket p .disabled).post .heaterFault p.val).setJointPocket i none).seek i c true := by
  simp only [State.portExpired, loading]

end Events

section Timed

variable {s : State} {p : PocketNo} {c : RivetCode} {o : Option Nat} {n : Nat} (quiet : s.Quiet)

include quiet

theorem exec_loadDone {cls : RivetClass} (defined : s.heater.classes[c] = some cls) (loading : s.pocket p = .loading c o n) :
    exec (.loadDone (BitVec.ofNat 8 p.val)) s = .next (s.cleared.setPocket p (.heating c o (cls.heatTime * 100))) := by
  have effect : s.cleared.atPocket (BitVec.ofNat 8 p.val) State.loadDone =
      s.cleared.setPocket p (.heating c o (cls.heatTime * 100)) := by
    have loading' : s.cleared.pocket p = .loading c o n := loading
    rw [State.atPocket_named, State.loadDone, loading']
    simp only [State.rivetClass_defined (s := s.cleared) defined]
  exact congrArg Host.Outcome.next (State.command_unreported quiet effect rfl rfl rfl)

/-- A heat timer's end. -/
theorem exec_heatTimeExpiry {u : State} (effect : s.cleared.heatExpired p = u) :
    exec (.heatTimeExpiry p) s = .next u.transmitTurn := by
  have frame := s.cleared.heatExpired_frame p
  rw [effect] at frame
  exact congrArg Host.Outcome.next (State.command_event quiet (f := (State.heatExpired · p)) effect (by simp [frame, State.cleared])
    (by simp [frame, State.cleared]))

/-- A hold timer's end. -/
theorem exec_holdWindowExpiry {u : State} (effect : s.cleared.holdExpired p = u) :
    exec (.holdWindowExpiry p) s = .next u.transmitTurn := by
  have frame := s.cleared.holdExpired_frame p
  rw [effect] at frame
  exact congrArg Host.Outcome.next (State.command_event quiet (f := (State.holdExpired · p)) effect (by simp [frame, State.cleared])
    (by simp [frame, State.cleared]))

/-- An ejection's end. -/
theorem exec_ejectDone {u : State} (effect : s.cleared.ejectDone p = u) :
    exec (.ejectDone (BitVec.ofNat 8 p.val)) s = .next u.transmitTurn := by
  have frame := s.cleared.ejectDone_frame p
  rw [effect] at frame
  exact congrArg Host.Outcome.next (State.command_event quiet (f := (State.atPocket · _ State.ejectDone))
    ((State.atPocket_named _ p _).trans effect) (by simp [frame, State.cleared]) (by simp [frame, State.cleared]))

/-- A port timer's end. -/
theorem exec_portTimerExpiry {u : State} (effect : s.cleared.portExpired p = u) :
    exec (.portTimerExpiry p) s = .next u.transmitTurn := by
  have frame := s.cleared.portExpired_frame p
  rw [effect] at frame
  exact congrArg Host.Outcome.next (State.command_event quiet (f := (State.portExpired · p)) effect (by simp [frame, State.cleared])
    (by simp [frame, State.cleared]))

/-- The transmitter has nothing to start after an event that posts nothing. -/
theorem State.Quiet.transmitTurn_still {u : State} (link : u.link = s.link) (reports : u.reports = s.reports) :
    u.transmitTurn = u := State.transmitTurn_still quiet.1 link reports

/-- The heat timer's end by the pocket's owner (R106). -/
theorem exec_heatTimeExpiry_heating {cls : RivetClass} (defined : s.heater.classes[c] = some cls)
    (heating : s.pocket p = .heating c o n) {u : State}
    (is : u = s.cleared.setPocket p (.ready c o (cls.holdWindow * 100) s.time)) :
    (o = none → exec (.heatTimeExpiry p) s = .next u) ∧
      (∀ i, o = some i → s.holderOf i = none → exec (.heatTimeExpiry p) s = .next u) ∧
      (∀ i h, o = some i → s.holderOf i = some h →
        exec (.heatTimeExpiry p) s = .next (u.requestPermit h).transmitTurn) ∧
      (∀ i h, o = some i → s.holderOf i = some h → s.SharingRule →
        ((s.head h).state ≠ .awaitRivet ∨ s.mode ≠ .running ∧ s.mode ≠ .draining) →
        exec (.heatTimeExpiry p) s = .next u) := by
  have window := State.rivetClass_defined (s := s.cleared) defined
  have still : u.transmitTurn = u := quiet.transmitTurn_still (by rw [is]; rfl) (by rw [is]; rfl)
  have holder (i : Nat) : u.holderOf i = s.holderOf i := by rw [is]; rfl
  have owned (i : Nat) (owner : o = some i) : s.cleared.heatExpired p = u.tellReady i := by
    subst owner
    rw [is, State.heatExpired_owned (s := s.cleared) heating, window]
    rfl
  have told (i : Nat) (h : HeadNo) (owner : o = some i) (holds : s.holderOf i = some h) :
      exec (.heatTimeExpiry p) s = .next (u.requestPermit h).transmitTurn :=
    exec_heatTimeExpiry quiet ((owned i owner).trans (State.tellReady_held ((holder i).trans holds)))
  refine ⟨fun alone => ?_, fun i owner nobody => ?_, told, fun i h owner holds shared away => ?_⟩
  · rw [← still]
    subst alone
    refine exec_heatTimeExpiry quiet ?_
    rw [is, State.heatExpired_unowned (s := s.cleared) heating, window]
    rfl
  · rw [← still]
    exact exec_heatTimeExpiry quiet ((owned i owner).trans (State.tellReady_nobody ((holder i).trans nobody)))
  · have cold : ¬ u.Asks h := by
      rintro ⟨waits, -, feeds⟩
      rw [is] at waits feeds
      exact away.elim (fun other => other waits) fun other => feeds.elim other.1 other.2
    have nothing : u.grantAll = u := State.grantAll_shared (by rw [is]; exact shared.1)
    rw [told i h owner holds, State.requestPermit_stays (.inl cold), nothing, still]

/-- The hold timer's end by the pocket's owner (R107). -/
theorem exec_holdWindowExpiry_ready {st : Stamp} (ready : s.pocket p = .ready c o n st) {u : State}
    (is : u = State.post { s.cleared.setPocket p (.ejecting c s.station.ejectTime) with
      outgoing := [.heater (.eject p)] } .rivetScrapped p.val) :
    (o = none → exec (.holdWindowExpiry p) s = .next u.transmitTurn) ∧
      (∀ i, o = some i → s.holderOf i = none → exec (.holdWindowExpiry p) s =
        .next ((u.setJointPocket i none).seek i c false).transmitTurn) ∧
      (∀ i h, o = some i → s.holderOf i = some h → exec (.holdWindowExpiry p) s =
        .next (((u.setJointPocket i none).setPermitQueue (u.arbiter.queue.filter (· ≠ h))).seek i c false).transmitTurn) := by
  have scrapped : (s.cleared.ejectPocket p c).post .rivetScrapped p.val = u := by rw [is]; rfl
  have heads : u.heads = s.heads := by simp [is, State.cleared]
  have holder (i : Nat) : u.holderOf i = s.holderOf i := by simp only [State.holderOf, State.head, heads]
  have owned (i : Nat) (owner : o = some i) : s.cleared.holdExpired p = (u.losePocket i).seek i c false := by
    subst owner
    rw [← scrapped, State.holdExpired_owned (s := s.cleared) ready]
  refine ⟨fun alone => ?_, fun i owner nobody => ?_, fun i h owner holds => ?_⟩
  · subst alone
    exact exec_holdWindowExpiry quiet (scrapped ▸ State.holdExpired_unowned (s := s.cleared) ready)
  · refine exec_holdWindowExpiry quiet ((owned i owner).trans ?_)
    rw [State.losePocket_nobody ((holder i).trans nobody)]
  · refine exec_holdWindowExpiry quiet ((owned i owner).trans ?_)
    rw [State.losePocket_held ((holder i).trans holds)]
    rfl

end Timed

/-- Settles O46, pocket state by pocket state. -/
theorem pocketsTimed : Obligations.PocketsTimed := by
  refine fun s p c o n quiet => ⟨fun cls defined => ⟨fun loading => exec_loadDone quiet defined loading,
    fun u heating is => exec_heatTimeExpiry_heating quiet defined heating is⟩,
    fun st u ready is => exec_holdWindowExpiry_ready quiet ready is,
    fun ejecting => ⟨fun none => ?_, exec_ejectDone quiet (State.ejectDone_ejecting (s := s.cleared) ejecting),
      exec_portTimerExpiry quiet (State.portExpired_ejecting (s := s.cleared) ejecting)⟩,
    fun loading => ⟨fun alone => ?_, fun i owner => ?_⟩⟩
  · have served := exec_ejectDone quiet (State.ejectDone_ejecting (s := s.cleared) ejecting)
    rwa [State.serve_noOrders (s := s.cleared.setPocket p .empty) none, quiet.transmitTurn_still (u := s.cleared.setPocket p .empty) rfl rfl] at served
  · subst alone
    exact exec_portTimerExpiry quiet (State.portExpired_unowned (s := s.cleared) loading)
  · subst owner
    exact exec_portTimerExpiry quiet (State.portExpired_owned (s := s.cleared) loading)

end Sys2Proof.Machine
end

section
/-! O47: the serving step (R117, R118). -/

namespace Sys2Proof.Machine
set_option Elab.async false

/-! ## EMPTY pockets and orders that can be served -/

theorem State.emptyPocket_eq_none {s : State} : s.emptyPocket = none ↔ ∀ p, s.pocket p ≠ .empty := by
  simp [State.emptyPocket, List.find?_eq_none, mem_pocketNos]

theorem State.emptyPocket_mem {s : State} {p : PocketNo} (found : s.emptyPocket = some p) : s.pocket p = .empty := by
  simpa using List.find?_some found

theorem State.emptyPocket_unique {s : State} {p : PocketNo} (only : ∀ q, s.pocket q = .empty ↔ q = p) :
    s.emptyPocket = some p := by
  cases found : s.emptyPocket with
  | none => exact absurd ((only p).2 rfl) (State.emptyPocket_eq_none.1 found p)
  | some q => rw [(only q).1 (State.emptyPocket_mem found)]

theorem State.servable_eq_none {s : State} : s.servable = none ↔ ∀ o ∈ s.heater.orders, s.heater.magazines[o.code] = 0 := by
  simp [State.servable, List.find?_eq_none]

theorem State.servable_first {s : State} {first rest : List HeatOrder} {o : HeatOrder}
    (orders : s.heater.orders = first ++ o :: rest) (starved : ∀ e ∈ first, s.heater.magazines[e.code] = 0)
    (stocked : 0 < s.heater.magazines[o.code]) : s.servable = some o := by
  rw [State.servable, orders, List.find?_eq_some_iff_append]
  exact ⟨by simpa using stocked, first, rest, rfl, fun e mem => by simpa using starved e mem⟩

/-! ## The turns of a serving step (R117) -/

theorem State.serveInto_pocket (s : State) (p q : PocketNo) (o : HeatOrder) : (s.serveInto p o).pocket q =
    if p = q then .loading o.code (some o.joint) s.station.loadTime else s.pocket q := by
  exact s.pocket_setPocket p q _

/-- How many pockets are EMPTY. -/
def State.emptyCount (s : State) : Nat := (Finset.univ.filter (fun p => s.pocket p = .empty)).card

theorem State.emptyCount_le (s : State) : s.emptyCount ≤ 6 := (Finset.card_le_univ _).trans_eq (Fintype.card_fin 6)

theorem State.emptyCount_serveInto {s : State} {p : PocketNo} (empty : s.pocket p = .empty) (o : HeatOrder) :
    (s.serveInto p o).emptyCount < s.emptyCount := by
  refine Finset.card_lt_card ((Finset.ssubset_iff_of_subset fun q mem => ?_).2 ⟨p, by simpa using empty, ?_⟩)
  · simp only [Finset.mem_filter, Finset.mem_univ, true_and, State.serveInto_pocket] at mem ⊢
    split at mem
    · cases mem
    · exact mem
  · simp [State.serveInto_pocket]

/-- The turns end with no pocket EMPTY or every order on an empty magazine. -/
theorem State.serveTurns_ends (n : Nat) (s : State) (enough : s.emptyCount ≤ n) :
    (∀ p, (s.serveTurns n).pocket p ≠ .empty) ∨
      ∀ o ∈ (s.serveTurns n).heater.orders, (s.serveTurns n).heater.magazines[o.code] = 0 := by
  induction n generalizing s with
  | zero =>
    refine .inl fun p empty => ?_
    have none := Finset.card_eq_zero.1 (Nat.le_zero.1 enough)
    exact Finset.notMem_empty p (none ▸ Finset.mem_filter.2 ⟨Finset.mem_univ p, empty⟩)
  | succ n ih =>
    rw [State.serveTurns]
    split
    next p o found serves =>
      have := State.emptyCount_serveInto (State.emptyPocket_mem found) o
      exact ih _ (by omega)
    next p found none => exact .inr (State.servable_eq_none.1 none)
    next found => exact .inl (State.emptyPocket_eq_none.1 found)

/-- With no pocket EMPTY the turns are over. -/
theorem State.serveTurns_full {s : State} (full : ∀ p, s.pocket p ≠ .empty) (n : Nat) : s.serveTurns n = s := by
  cases n with
  | zero => rfl
  | succ n => rw [State.serveTurns, State.emptyPocket_eq_none.2 full]

/-! ## The step -/

theorem State.serve_nothing {s : State} (nothing : s.mode.serves = false ∨ ∀ p, s.pocket p ≠ .empty) : s.serve = s := by
  refine if_neg fun both => ?_
  rcases nothing with idle | full
  · exact Bool.false_ne_true (idle.symm.trans both.1)
  · simp [State.emptyPocket_eq_none.2 full] at both

theorem State.serve_ends {s : State} (serves : s.mode.serves = true) :
    (∀ p, s.serve.pocket p ≠ .empty) ∨ ∀ o ∈ s.serve.heater.orders, s.serve.heater.magazines[o.code] = 0 := by
  by_cases some : s.emptyPocket.isSome = true
  · have ends := State.serveTurns_ends 6 s s.emptyCount_le
    have same : s.serve.heater = (s.serveTurns 6).heater := by
      rw [State.serve, if_pos ⟨serves, some⟩]
      exact ((s.serveTurns 6).postStarved_frame _).2.2.2.2.1
    simp only [State.pocket, same] at ends ⊢
    exact ends
  · refine .inl ?_
    have full := State.emptyPocket_eq_none.1 (by simpa using some)
    rw [State.serve_nothing (.inr full)]
    exact full

/-- One EMPTY pocket takes the first order that can be served, and the codes left waiting are reported. -/
theorem State.serve_one {s : State} (serves : s.mode.serves = true) {p : PocketNo}
    (only : ∀ q, s.pocket q = .empty ↔ q = p) {o : HeatOrder} (first : s.servable = some o) :
    s.serve = (s.serveInto p o).postStarved (s.serveInto p o).starvedCodes := by
  have found := State.emptyPocket_unique only
  have full (q : PocketNo) : (s.serveInto p o).pocket q ≠ .empty := by
    rw [State.serveInto_pocket]
    split
    next => nofun
    next other => exact fun empty => other ((only q).1 empty).symm
  have turns : s.serveTurns 6 = s.serveInto p o := by
    rw [State.serveTurns, found, first]
    exact State.serveTurns_full full 5
  rw [State.serve, if_pos ⟨serves, by simp [found]⟩]
  show (s.serveTurns 6).postStarved (s.serveTurns 6).starvedCodes = _
  rw [turns]

theorem State.serveInto_eq {s : State} {p : PocketNo} {o : HeatOrder} {first rest : List HeatOrder} {j : Joint}
    (orders : s.heater.orders = first ++ o :: rest) (starved : ∀ e ∈ first, s.heater.magazines[e.code] = 0)
    (stocked : 0 < s.heater.magazines[o.code]) (hj : s.joint? o.joint = some j) :
    s.serveInto p o = { s with
      table := { s.table with joints := s.table.joints.set o.joint { j with pocket := some p } }
      heater := { s.heater with
        orders := first ++ rest
        magazines := s.heater.magazines.set o.code (s.heater.magazines[o.code] - 1)
        pockets := s.heater.pockets.set p (.loading o.code (some o.joint) s.station.loadTime) }
      outgoing := s.outgoing ++ [.heater (.load p o.code)] } := by
  have out : o ∉ first := fun mem => by have := starved o mem; omega
  have left : s.heater.orders.erase o = first ++ rest := by
    rw [orders, List.erase_append_right _ out, List.erase_cons_head]
  unfold State.serveInto
  rw [left]
  have owned (u : State) (same : u.table = s.table) : u.setJointPocket o.joint (some p) =
      { u with table := { s.table with joints := s.table.joints.set o.joint { j with pocket := some p } } } := by
    have held : u.joint? o.joint = some j := by rw [← hj]; simp only [State.joint?, same]
    rw [State.setJointPocket, modJoint_eq_setJoint held, State.setJoint, same]
  exact congrArg (fun u : State => u.sendHeater (.load p o.code)) (owned _ (by rfl))

/-- A list with its repeats erased holds each of its members once. -/
theorem nodup_eraseDups {α : Type} [BEq α] [LawfulBEq α] : (l : List α) → l.eraseDups.Nodup
  | [] => by simp
  | a :: l => by
    rw [List.eraseDups_cons, List.nodup_cons]
    exact ⟨by simp [List.mem_eraseDups], nodup_eraseDups _⟩
termination_by l => l.length
decreasing_by simpa using Nat.lt_succ_of_le (List.length_filter_le _ l)

theorem Mode.serves_iff {m : Mode} : m.serves = true ↔ m ≠ .setup ∧ m ≠ .arming ∧ m ≠ .aborted := by
  cases m <;> decide

/-- Settles O47. -/
theorem servingStep : Obligations.ServingStep := by
  refine fun s => ⟨fun idle => State.serve_nothing ?_, fun notSetup notArming notAborted => ?_, ?_, fun c => ?_⟩
  · rcases idle with idle | idle | idle | full
    · exact .inl (by rw [idle]; rfl)
    · exact .inl (by rw [idle]; rfl)
    · exact .inl (by rw [idle]; rfl)
    · exact .inr full
  · have serves := Mode.serves_iff.2 ⟨notSetup, notArming, notAborted⟩
    refine ⟨State.serve_ends serves, fun p o first rest j u only orders starved stocked hj is => ?_⟩
    rw [State.serve_one serves only (State.servable_first orders starved stocked),
      State.serveInto_eq orders starved stocked hj, ← is]
    rfl
  · exact nodup_eraseDups _
  · simp only [State.starvedCodes, List.mem_eraseDups, List.mem_filter, List.mem_map, beq_iff_eq]
    exact and_comm

end Sys2Proof.Machine
end

section
/-! O48: permits (R125 to R129). -/

namespace Sys2Proof.Machine
set_option Elab.async false

/-! ## Records written twice -/

theorem State.setHead_setHead (s : State) (h : HeadNo) (x y : Head) : (s.setHead h x).setHead h y = s.setHead h y := by
  simp [State.setHead]

theorem State.modHead_eq (s : State) (h : HeadNo) (f : Head → Head) : s.modHead h f = s.setHead h (f (s.head h)) := rfl

/-- A phase entered: one write of the head's record, and one order. -/
theorem State.enterPhase_eq (s : State) (h : HeadNo) (phase : HeadState) (n : Nat) (o : DriveOrder) :
    s.enterPhase h phase n o =
      { s.setHead h { s.head h with state := phase, phaseTimer := some n, order := some o } with
        outgoing := s.outgoing ++ [.drive h o] } := by
  simp [State.enterPhase, State.sendDrive, State.modHead, State.setHead, State.head]

/-- The same where the record was written just before. -/
theorem State.setHead_enterPhase (s : State) (h : HeadNo) (x : Head) (phase : HeadState) (n : Nat) (o : DriveOrder) :
    (s.setHead h x).enterPhase h phase n o =
      { s.setHead h { x with state := phase, phaseTimer := some n, order := some o } with
        outgoing := s.outgoing ++ [.drive h o] } := by
  rw [State.enterPhase_eq, State.setHead_head, State.setHead_setHead]
  rfl

/-! ## Joints in work (R2, R20) -/

theorem State.setJoint_setJoint (s : State) (i : Nat) (j k : Joint) : (s.setJoint i j).setJoint i k = s.setJoint i k := by
  simp [State.setJoint]

/-- A joint in work that stays in work changes its record alone (R20 to R22). -/
theorem State.changeJoint_inWork {s : State} {i : Nat} {j : Joint} {f : Joint → Joint} (rule : s.PassRule)
    (hj : s.joint? i = some j) (working : j.state.inWork = true) (stays : (f j).state.inWork = true)
    (identity : (f j).identity = j.identity) : s.changeJoint i f = s.setJoint i (f j) := by
  have counts : (f j).counts = j.counts := by simp [Joint.counts, working, stays]
  have rule' : (s.setJoint i (f j)).PassRule := rule.trans (currentPassOf_set hj counts (by rw [identity])).symm
  have busy : (s.setJoint i (f j)).anyInWork = true :=
    List.any_eq_true.2 ⟨f j, List.mem_set (List.getElem?_eq_some_iff.1 hj).1 _, stays⟩
  rw [State.changeJoint, State.modJoint_eq_setJoint hj, State.recompute_inWork rule' busy]

theorem State.setJointState_inWork {s : State} {h : HeadNo} {i : Nat} {j : Joint} {st : JointState} (rule : s.PassRule)
    (held : (s.head h).held = some i) (hj : s.joint? i = some j) (working : j.state.inWork = true)
    (stays : st.inWork = true) : s.setJointState h st = s.setJoint i { j with state := st } := by
  rw [State.setJointState, held]
  exact State.changeJoint_inWork rule hj working stays rfl

theorem State.setJointPocket_eq {s : State} {i : Nat} {j : Joint} (hj : s.joint? i = some j) (p : Option PocketNo) :
    s.setJointPocket i p = s.setJoint i { j with pocket := p } := State.modJoint_eq_setJoint hj

/-! ## READY rivets -/

theorem State.stampOf_eq_some {s : State} {h : HeadNo} {st : Stamp} : s.stampOf h = some st ↔
    ∃ i j p c o n, (s.head h).held = some i ∧ s.joint? i = some j ∧ j.pocket = some p ∧ s.pocket p = .ready c o n st := by
  constructor
  · intro stamp
    unfold State.stampOf at stamp
    split at stamp
    · cases stamp
    next p pocket =>
      simp only [State.pocketOf, State.heldJoint, Option.bind_eq_some_iff] at pocket
      obtain ⟨j, ⟨i, held, hj⟩, owns⟩ := pocket
      split at stamp
      next c o n st' ready =>
        cases stamp
        exact ⟨i, j, p, c, o, n, held, hj, owns, ready⟩
      all_goals cases stamp
  · rintro ⟨i, j, p, c, o, n, held, hj, owns, ready⟩
    have pocket : s.pocketOf h = some p := by simp [State.pocketOf, State.heldJoint, held, hj, owns]
    simp only [State.stampOf, pocket, ready]

theorem State.readyFor_eq {s : State} {h : HeadNo} {st : Stamp} (stamp : s.stampOf h = some st) :
    s.readyFor h = (s.time - st).toNat := by simp [State.readyFor, stamp, elapsed]

/-! ## The queue's order (R126) -/

/-- Where a member stands in a list kept in an order: behind those it does not go ahead of. -/
theorem insertBy_place {α : Type} (before : α → α → Bool) (a : α) (l : List α) : ∃ front back, l = front ++ back ∧
    insertBy before a l = front ++ a :: back ∧ (∀ b ∈ front, before a b = false) ∧ ∀ b ∈ back.head?, before a b = true := by
  induction l with
  | nil => exact ⟨[], [], rfl, rfl, nofun, nofun⟩
  | cons b l ih =>
    by_cases ahead : before a b = true
    · exact ⟨[], b :: l, rfl, by rw [insertBy, if_pos ahead]; rfl, nofun, by simpa using ahead⟩
    · obtain ⟨front, back, whole, placed, behind, next⟩ := ih
      refine ⟨b :: front, back, by rw [whole]; rfl, by rw [insertBy, if_neg ahead, placed]; rfl, ?_, next⟩
      rintro c (_ | ⟨_, mem⟩)
      · simpa using ahead
      · exact behind c mem

/-- The order of the queue: READY for longer, then the lower head number. -/
def State.Hotter (s : State) (g h : HeadNo) : Prop :=
  s.readyFor h < s.readyFor g ∨ s.readyFor h = s.readyFor g ∧ g < h

theorem State.hotterThan_iff {s : State} {g h : HeadNo} : s.hotterThan g h = true ↔ s.Hotter g h := by
  unfold State.hotterThan State.Hotter
  split
  next other =>
    rw [decide_eq_true_iff, Fin.lt_def]
    omega
  next same =>
    rw [decide_eq_true_iff, Fin.lt_def]
    omega

theorem State.Hotter.trans {s : State} {a b c : HeadNo} (ab : s.Hotter a b) (bc : s.Hotter b c) : s.Hotter a c := by
  simp only [State.Hotter, Fin.lt_def] at *
  omega

theorem State.hotter_total (s : State) {a b : HeadNo} (other : a ≠ b) : s.Hotter a b ∨ s.Hotter b a := by
  have := Fin.val_ne_of_ne other
  simp only [State.Hotter, Fin.lt_def]
  omega

theorem State.hotterThan_eq_false {s : State} {h g : HeadNo} (behind : s.hotterThan h g = false) :
    s.readyFor h < s.readyFor g ∨ s.readyFor h = s.readyFor g ∧ g ≤ h := by
  have not : ¬ s.Hotter h g := fun ahead => Bool.false_ne_true (behind.symm.trans (State.hotterThan_iff.2 ahead))
  simp only [State.Hotter, Fin.lt_def] at not
  rw [Fin.le_def]
  omega

/-! ## Grants -/

section Grant

variable {s : State} {h : HeadNo} {i : Nat} {j : Joint} {p : PocketNo} {c : RivetCode} {o : Option Nat} {n : Nat} {st : Stamp}

/-- The FREE permit with the lowest number. -/
theorem State.freePermit_lowest {k : PermitNo} (free : s.permit k = none) (lowest : k = 0 ∨ s.permit 0 ≠ none) :
    s.freePermit = some k := by
  fin_cases k
  · simpa [State.freePermit] using free
  · have taken : s.permit 0 ≠ none := lowest.resolve_left (by decide)
    have free' : s.permit 1 = none := free
    simp [State.freePermit, taken, free']

/-- The state of a head granted a permit: it takes its rivet out of its pocket (R129, R55). -/
def State.fed (s : State) (h : HeadNo) (i : Nat) (j : Joint) (p : PocketNo) (c : RivetCode) (k : PermitNo)
    (rest : List HeadNo) : State :=
  { (s.setHead h { s.head h with
      state := .feed, rivetWait := .stopped, phaseTimer := some s.station.feedTime,
      order := some (.takeRivet p) }).setPocket p .empty with
    arbiter := { permits := s.arbiter.permits.set k (some ⟨h, i, c, none⟩), queue := rest }
    table := { s.table with joints := s.table.joints.set i { j with state := .setting, pocket := none } }
    outgoing := s.outgoing ++ [.drive h (.takeRivet p)] }

theorem State.enterFeed_eq (rule : s.PassRule) (held : (s.head h).held = some i) (hj : s.joint? i = some j)
    (working : j.state.inWork = true) : s.enterFeed h p =
      { (s.setHead h { s.head h with
          state := .feed, rivetWait := .stopped, phaseTimer := some s.station.feedTime,
          order := some (.takeRivet p) }).setJoint i { j with state := .setting } with
        outgoing := s.outgoing ++ [.drive h (.takeRivet p)] } := by
  rw [State.enterFeed, State.modHead_eq, State.setHead_enterPhase]
  refine (State.setJointState_inWork (i := i) (j := j) (st := .setting) (by exact rule) ?_ (by exact hj) working rfl).trans rfl
  exact (congrArg Head.held (s.setHead_head h _)).trans held

/-- The head at the front of the queue is granted a permit. -/
theorem State.grantFront_eq {k : PermitNo} (rest : List HeadNo) (rule : s.PassRule) (held : (s.head h).held = some i)
    (hj : s.joint? i = some j) (owns : j.pocket = some p) (ready : s.pocket p = .ready c o n st)
    (working : j.state.inWork = true) : (s.setPermitQueue rest).grantFront k h = (s.fed h i j p c k rest).serve := by
  have held' : ((s.setPermitQueue rest).head h).held = some i := held
  have pocket : (s.setPermitQueue rest).pocketOf h = some p := by
    show ((s.head h).held.bind s.joint?).bind _ = _
    simp only [held, Option.bind_some, hj, owns]
  have code : ((s.setPermitQueue rest).pocket p).code? = some c := by
    rw [show (s.setPermitQueue rest).pocket p = .ready c o n st from ready]
    rfl
  simp only [State.grantFront, held', pocket, code, State.grantPermit]
  rw [State.enterFeed_eq (i := i) (j := j) (by exact rule) (by exact held) (by exact hj) working,
    State.setJointPocket_eq (j := { j with state := .setting }) (by exact State.joint_setJoint (by exact hj) _)]
  refine congrArg State.serve ?_
  simp only [State.setJoint, State.setPocket, State.setHead, State.setPermit, State.fed, State.setPermitQueue, List.set_set]
  rfl

end Grant

/-! ## Requests raised again (R128) -/

theorem State.setPermitQueue_mayAsk (s : State) (q : List HeadNo) (h : HeadNo) : (s.setPermitQueue q).mayAsk h = s.mayAsk h := rfl

theorem State.setPermitQueue_hotterThan (s : State) (q : List HeadNo) : (s.setPermitQueue q).hotterThan = s.hotterThan := rfl

theorem State.setPermitQueue_permitOf (s : State) (q : List HeadNo) (h : HeadNo) :
    (s.setPermitQueue q).permitOf h = s.permitOf h := rfl

/-- Heads not in the queue that join it one after the other stand in it in its order. -/
theorem State.foldl_joinPermitQueue (s : State) {l : List HeadNo} (distinct : l.Nodup) (q : List HeadNo)
    (new : ∀ h ∈ l, h ∉ q) : l.foldl State.joinPermitQueue (s.setPermitQueue q) =
      s.setPermitQueue ((l.filter (fun h => s.mayAsk h && (s.permitOf h).isNone)).foldl
        (fun q h => insertBy s.hotterThan h q) q) := by
  induction l generalizing q with
  | nil => rfl
  | cons h l ih =>
    obtain ⟨once, distinct⟩ := List.nodup_cons.1 distinct
    rw [List.foldl_cons, State.joinPermitQueue, State.setPermitQueue_mayAsk, State.setPermitQueue_permitOf,
      State.setPermitQueue_hotterThan]
    by_cases joins : s.mayAsk h = true ∧ s.permitOf h = none
    · rw [if_pos ⟨joins.1, new h List.mem_cons_self, joins.2⟩, List.filter_cons_of_pos (by simp [joins])]
      refine ih distinct _ fun g mem => ?_
      intro joined
      rcases List.mem_cons.1 ((insertBy_perm s.hotterThan h q).subset joined) with rfl | waited
      · exact once mem
      · exact new g (List.mem_cons_of_mem h mem) waited
    · rw [if_neg fun all => joins ⟨all.1, all.2.2⟩, List.filter_cons_of_neg (by simpa using joins)]
      exact ih distinct q fun g mem => new g (List.mem_cons_of_mem h mem)

/-- Inserting one after the other is sorting from the back. -/
theorem foldl_insertBy {α : Type} (before : α → α → Bool) (l : List α) :
    l.foldl (fun q a => insertBy before a q) [] = sortBy before l.reverse := by
  induction l using List.reverseRecOn with
  | nil => rfl
  | append_singleton l a ih => rw [List.foldl_append, ih, List.reverse_append]; rfl

/-- The heads that ask, in the order of the queue. -/
def State.asking (s : State) : List HeadNo :=
  sortBy s.hotterThan (headNos.filter (fun h => s.mayAsk h && (s.permitOf h).isNone)).reverse

theorem State.reRaise_eq {s : State} (nobody : s.arbiter.queue = []) : s.reRaise = (s.setPermitQueue s.asking).grantAll := by
  have same : s = s.setPermitQueue [] := by rw [State.setPermitQueue, ← nobody]
  rw [State.reRaise]
  conv_lhs => rw [same]
  rw [State.foldl_joinPermitQueue s headNos_nodup [] nofun, foldl_insertBy]
  rfl

theorem State.mem_asking {s : State} {h : HeadNo} : h ∈ s.asking ↔ s.Asks h ∧ s.permitOf h = none := by
  rw [State.asking, (sortBy_perm _ _).mem_iff, List.mem_reverse, List.mem_filter, Bool.and_eq_true, State.mayAsk_iff,
    Option.isNone_iff_eq_none]
  simp [mem_headNos]

theorem State.asking_sorted (s : State) : s.asking.Pairwise s.Hotter :=
  sortBy_sorted (before := s.hotterThan) (r := s.Hotter) (fun _ _ => State.hotterThan_iff) (fun _ _ _ => State.Hotter.trans)
    (fun _ _ => s.hotter_total) (List.nodup_reverse.2 (headNos_nodup.filter _))

/-! ## O48 -/

/-- Settles O48. -/
theorem permitGranted : Obligations.PermitGranted := by
  unfold Obligations.PermitGranted
  refine ⟨fun s h i j p c o n st held hj owns ready => ⟨?_, ?_⟩, fun s h => State.requestPermit_stays,
    fun s h st => State.stampOf_eq_some, fun s h st => State.readyFor_eq, fun s => State.grantAll_shared,
    fun s nobody => ⟨s.asking, State.reRaise_eq nobody, fun h => State.mem_asking, s.asking_sorted⟩⟩
  · rintro k rest u rule working free lowest rfl
    have granted := State.grantFront_eq (k := k) rest rule held hj owns ready working
    refine ⟨fun asks none nobody empty => ?_, fun queue => ?_⟩
    · subst empty
      have joined : s.joinPermitQueue h = s.setPermitQueue [h] := by
        rw [State.joinPermitQueue, if_pos ⟨State.mayAsk_iff.2 asks, by simp [nobody], none⟩, nobody]
        rfl
      have lowest' : (s.setPermitQueue [h]).freePermit = some k := State.freePermit_lowest free lowest
      rw [State.requestPermit, joined]
      show State.grantTurns 1 (s.setPermitQueue [h]) = _
      rw [State.grantTurns, lowest']
      exact granted
    · rw [State.grantAll, queue, List.length_cons, State.grantTurns, State.freePermit_lowest free lowest, queue]
      show State.grantTurns rest.length ((s.setPermitQueue rest).grantFront k h) = _
      rw [granted, State.grantAll, (State.serve_frame _).2.2.2.1]
      rfl
  · intro asks none new full
    obtain ⟨front, back, whole, placed, behind, next⟩ := insertBy_place s.hotterThan h s.arbiter.queue
    have joined : s.joinPermitQueue h = s.setPermitQueue (front ++ h :: back) := by
      rw [State.joinPermitQueue, if_pos ⟨State.mayAsk_iff.2 asks, new, none⟩, placed]
    refine ⟨front, back, whole, ?_, fun g mem => State.hotterThan_eq_false (behind g mem),
      fun g mem => (State.hotterThan_iff.1 (next g mem)).imp_right (And.imp_left Eq.symm)⟩
    rw [State.requestPermit, joined, State.grantAll_full (by exact full)]
    rfl

end Sys2Proof.Machine
end

section
/-! O10: seeking, releasing and handing over pockets (R110 to R115). -/

namespace Sys2Proof.Machine
set_option Elab.async false

/-! ## The best pocket (R112) -/

theorem State.takeable_iff {s : State} {c : RivetCode} {p : PocketNo} : (s.pocket p).takeable c = true ↔ s.Takeable c p := by
  unfold State.Takeable
  cases s.pocket p <;> simp [Pocket.takeable, and_comm]

/-- A comparison by a figure first, and by another where the figures are equal. -/
theorem decide_first {a b : Nat} {first second : Prop} [Decidable first] [Decidable second] (strict : first → a ≠ b) :
    (if a ≠ b then decide first else decide second) = true ↔ first ∨ a = b ∧ second := by
  split
  next other => simp [other]
  next same => simp [not_not.1 same, mt strict same]

theorem State.preferPocket_iff {s : State} {c : RivetCode} {p q : PocketNo} (hp : s.Takeable c p) (hq : s.Takeable c q) :
    s.preferPocket p q = true ↔ s.Preferred p q := by
  unfold State.preferPocket State.Preferred
  rcases hp with ⟨n, hp⟩ | ⟨n, hp⟩ | ⟨n, st, hp⟩ <;> rcases hq with ⟨m, hq⟩ | ⟨m, hq⟩ | ⟨m, st', hq⟩ <;>
    simp only [hp, hq]
  case inr.inl.inr.inl => exact decide_first fun less => by omega
  case inr.inr.inr.inr =>
    rw [eq_comm (a := BitVec.toNat (s.time - st'))]
    exact decide_first fun less same => by simp only [elapsed] at less same; omega
  all_goals simp [Pocket.stateCode]

theorem State.Preferred.asymm {s : State} {c : RivetCode} {p q : PocketNo} (hp : s.Takeable c p) (hq : s.Takeable c q)
    (ahead : s.Preferred p q) (back : s.Preferred q p) : False := by
  unfold State.Preferred at ahead back
  rcases hp with ⟨n, hp⟩ | ⟨n, hp⟩ | ⟨n, st, hp⟩ <;> rcases hq with ⟨m, hq⟩ | ⟨m, hq⟩ | ⟨m, st', hq⟩ <;>
    simp only [hp, hq, Pocket.stateCode, Fin.lt_def] at ahead back <;> omega

theorem State.bestPocket_best {s : State} {c : RivetCode} {p : PocketNo} (best : s.Best c p) : s.bestPocket c = some p := by
  refine pickFirst_eq (List.mem_filter.2 ⟨mem_pocketNos p, State.takeable_iff.2 best.1⟩) fun q mem other => ?_
  have takeable := State.takeable_iff.1 (List.mem_filter.1 mem).2
  have ahead := best.2 q takeable other
  refine ⟨(State.preferPocket_iff best.1 takeable).2 ahead, ?_⟩
  rw [← Bool.not_eq_true, State.preferPocket_iff takeable best.1]
  exact ahead.asymm best.1 takeable

theorem State.bestPocket_none {s : State} {c : RivetCode} (noPocket : ∀ p, ¬ s.Takeable c p) : s.bestPocket c = none := by
  have empty : pocketNos.filter (fun p => (s.pocket p).takeable c) = [] :=
    List.filter_eq_nil_iff.2 fun p _ => fun takeable => noPocket p (State.takeable_iff.1 takeable)
  rw [State.bestPocket, empty]
  rfl

/-! ## Taking a pocket (R110) -/

section Taking

variable {s : State} {p : PocketNo} {i : Nat} {j : Joint}

theorem State.ownPocket_eq (hj : s.joint? i = some j) : s.ownPocket p i = s.owning p i j :=
  State.modJoint_eq_setJoint (s := s.setPocket p _) (by exact hj)

theorem State.takePocket_nobody (hj : s.joint? i = some j) (nobody : s.holderOf i = none) :
    s.takePocket p i = s.owning p i j := by
  rw [State.takePocket, State.ownPocket_eq hj]
  exact State.tellReady_nobody nobody

theorem State.takePocket_held {h : HeadNo} (hj : s.joint? i = some j) (held : s.holderOf i = some h) :
    s.takePocket p i = (s.owning p i j).requestPermit h := by
  rw [State.takePocket, State.ownPocket_eq hj]
  exact State.tellReady_held held

end Taking

/-! ## Placing an order (R111) -/

theorem filter_classes {ds ps : List HeatOrder} (demands : ∀ o ∈ ds, o.cls = .demand) (preHeats : ∀ o ∈ ps, o.cls = .preHeat) :
    (ds ++ ps).filter (fun x => x.cls == .demand) = ds ∧ (ds ++ ps).filter (fun x => x.cls == .preHeat) = ps := by
  constructor <;> rw [List.filter_append]
  · rw [List.filter_eq_self.2 fun o mem => by simp [demands o mem], List.filter_eq_nil_iff.2 fun o mem => by simp [preHeats o mem],
      List.append_nil]
  · rw [List.filter_eq_nil_iff.2 fun o mem => by simp [demands o mem], List.filter_eq_self.2 fun o mem => by simp [preHeats o mem],
      List.nil_append]

theorem State.seekAs_ordered {s : State} {i : Nat} {c : RivetCode} {ds ps q : List HeatOrder} {cls : OrderClass} {front : Bool}
    (noPocket : ∀ p, ¬ s.Takeable c p) (orders : s.heater.orders = ds ++ ps) (demands : ∀ o ∈ ds, o.cls = .demand)
    (preHeats : ∀ o ∈ ps, o.cls = .preHeat)
    (placed : cls = .demand ∧ front = false ∧ q = ds ++ ⟨.demand, c, i⟩ :: ps ∨
      cls = .demand ∧ front = true ∧ q = ⟨.demand, c, i⟩ :: ds ++ ps ∨
      cls = .preHeat ∧ front = false ∧ q = ds ++ ps ++ [⟨.preHeat, c, i⟩] ∨
      cls = .preHeat ∧ front = true ∧ q = ds ++ ⟨.preHeat, c, i⟩ :: ps) :
    s.seekAs i c cls front = (s.setOrders q).serve := by
  obtain ⟨ofDemand, ofPreHeat⟩ := filter_classes demands preHeats
  rw [State.seekAs, State.bestPocket_none noPocket, orders]
  refine congrArg (fun q => (s.setOrders q).serve) ?_
  rcases placed with ⟨rfl, rfl, rfl⟩ | ⟨rfl, rfl, rfl⟩ | ⟨rfl, rfl, rfl⟩ | ⟨rfl, rfl, rfl⟩ <;>
    simp only [placeOrder, ofDemand, ofPreHeat]

/-! ## The class of an order (R111, R112) -/

section Class

variable {s : State} {i : Nat} {c : RivetCode} {front : Bool}

theorem State.seek_early (early : ∀ h, s.holderOf i = some h → (s.head h).outcome = none) :
    s.seek i c front = s.seekAs i c .preHeat front := by
  have stage : s.stageOf i = some .preHeat := by
    cases holder : s.holderOf i with
    | none => simp [State.stageOf, holder]
    | some h => simp [State.stageOf, holder, early h holder]
  rw [State.seek, stage]

theorem State.seek_good {h : HeadNo} (holder : s.holderOf i = some h) (good : (s.head h).outcome = some .good) :
    s.seek i c front = s.seekAs i c .demand front := by
  have stage : s.stageOf i = some .demand := by simp [State.stageOf, holder, good]
  rw [State.seek, stage]

theorem State.seek_rejected {h : HeadNo} {r : Reason} (holder : s.holderOf i = some h)
    (bad : (s.head h).outcome = some (.rejected r)) : s.seek i c front = s := by
  have stage : s.stageOf i = none := by simp [State.stageOf, holder, bad]
  rw [State.seek, stage]

end Class

/-! ## A joint that nothing is heated for -/

/-- The joint owns no pocket and has no order. -/
def State.Unserved (s : State) (i : Nat) : Prop :=
  (s.joint? i).bind (·.pocket) = none ∧ ∀ o ∈ s.heater.orders, o.joint ≠ i

section Unserved

variable {s t : State} {i : Nat}

theorem State.Unserved.of_same (unserved : s.Unserved i) (joints : t.table.joints = s.table.joints)
    (orders : t.heater.orders ⊆ s.heater.orders) : t.Unserved i := by
  refine ⟨?_, fun o mem => unserved.2 o (orders mem)⟩
  rw [State.joint?, joints]
  exact unserved.1

/-- A joint's record is written that is another's or stays without a pocket. -/
theorem State.Unserved.modJoint (unserved : s.Unserved i) {k : Nat} {f : Joint → Joint}
    (apart : k ≠ i ∨ ∀ j, j.pocket = none → (f j).pocket = none) : (s.modJoint k f).Unserved i := by
  refine ⟨?_, unserved.2⟩
  have before := unserved.1
  simp only [State.joint?, State.modJoint, List.getElem?_modify] at before ⊢
  cases record : s.table.joints[i]? with
  | none => rfl
  | some j =>
    rw [record] at before
    by_cases here : k = i
    · simpa [here] using apart.resolve_left (not_not.2 here) j before
    · simpa [here] using before

theorem State.Unserved.sendHeater (unserved : s.Unserved i) (o : HeaterOrder) : (s.sendHeater o).Unserved i :=
  unserved.of_same rfl (List.Subset.refl _)

theorem State.Unserved.serveInto (unserved : s.Unserved i) {o : HeatOrder} (waits : o ∈ s.heater.orders) (p : PocketNo) :
    (s.serveInto p o).Unserved i := by
  have out : o.joint ≠ i := unserved.2 o waits
  refine State.Unserved.sendHeater (State.Unserved.modJoint (unserved.of_same ?_ ?_) (.inl out)) _
  · rfl
  · exact List.erase_subset

theorem State.Unserved.serveTurns (unserved : s.Unserved i) (n : Nat) : (s.serveTurns n).Unserved i := by
  induction n generalizing s with
  | zero => exact unserved
  | succ n ih =>
    rw [State.serveTurns]
    split
    next p o _ serves => exact ih (unserved.serveInto (List.mem_of_find?_eq_some serves) p)
    next => exact unserved
    next => exact unserved

theorem State.Unserved.serve (unserved : s.Unserved i) : s.serve.Unserved i := by
  rw [State.serve]
  split
  next =>
    refine (unserved.serveTurns pocketNos.length).of_same ?_ ?_
    · rw [(State.postStarved_frame _ _).1]
    · rw [(State.postStarved_frame _ _).2.2.2.2.1]
      exact List.Subset.refl _
  next => exact unserved

theorem State.recompute_joints (s : State) (was : Bool) : (s.recompute was).table.joints = s.table.joints := by
  rw [State.recompute, (State.postBlocked_frame _ _).1, (State.postAdvance_frame _ _).1]

theorem State.Unserved.setJointState (unserved : s.Unserved i) (h : HeadNo) (st : JointState) :
    (s.setJointState h st).Unserved i := by
  rw [State.setJointState]
  split
  next => exact unserved
  next k _ =>
    have written := unserved.modJoint (k := k) (f := fun j => { j with state := st }) (.inr fun _ same => same)
    refine written.of_same (State.recompute_joints _ _) ?_
    rw [(State.changeJoint_frame s k _).2.2.2.1]
    exact List.Subset.refl _

theorem State.Unserved.grantFront (unserved : s.Unserved i) (k : PermitNo) (h : HeadNo) : (s.grantFront k h).Unserved i := by
  rw [State.grantFront]
  split
  next n p _ _ =>
    split
    next c _ =>
      refine State.Unserved.serve (State.Unserved.modJoint ?_ (.inr fun _ _ => rfl))
      have phased : (((s.setPermit k (some ⟨h, n, c, none⟩)).modHead h
          (fun x => { x with rivetWait := .stopped })).enterPhase h .feed s.station.feedTime (.takeRivet p)).Unserved i :=
        unserved.of_same rfl (List.Subset.refl _)
      exact (phased.setJointState h .setting).of_same rfl (List.Subset.refl _)
    next => exact unserved
  next => exact unserved
  next => exact unserved

theorem State.Unserved.requestPermit (unserved : s.Unserved i) (h : HeadNo) : (s.requestPermit h).Unserved i := by
  have turns (n : Nat) {s : State} (unserved : s.Unserved i) : (s.grantTurns n).Unserved i := by
    induction n generalizing s with
    | zero => exact unserved
    | succ n ih =>
      rw [State.grantTurns]
      split
      next k h rest _ _ =>
        exact ih ((unserved.of_same (t := s.setPermitQueue rest) rfl (List.Subset.refl _)).grantFront k h)
      next => exact unserved
      next => exact unserved
  refine turns _ (unserved.of_same ?_ ?_)
  · rw [(s.joinPermitQueue_frame h).1]
  · rw [(s.joinPermitQueue_frame h).2.2.2.2.1]
    exact List.Subset.refl _

theorem State.Unserved.takePocket (unserved : s.Unserved i) (p : PocketNo) {k : Nat} (other : k ≠ i) :
    (s.takePocket p k).Unserved i := by
  have owned : (s.ownPocket p k).Unserved i :=
    (unserved.of_same (t := s.setPocket p ((s.pocket p).withOwner (some k))) rfl (List.Subset.refl _)).modJoint (.inl other)
  rw [State.takePocket, State.tellReady]
  split
  next => exact owned
  next h _ => exact owned.requestPermit h

theorem State.Unserved.handOver (unserved : s.Unserved i) (p : PocketNo) : (s.handOver p).Unserved i := by
  rw [State.handOver]
  split
  next => exact unserved
  next c _ =>
    split
    next => exact unserved
    next o found =>
      have left : (s.setOrders (s.heater.orders.erase o)).Unserved i := unserved.of_same rfl List.erase_subset
      exact left.takePocket p (unserved.2 o (List.mem_of_find?_eq_some found))

/-- A joint without an order is without anything once its pocket is released (R115). -/
theorem State.releasePocket_unserved (noOrder : ∀ o ∈ s.heater.orders, o.joint ≠ i) (p : PocketNo) :
    (s.releasePocket p i).Unserved i := by
  rw [State.releasePocket]
  refine State.Unserved.handOver ⟨?_, by exact noOrder⟩ p
  simp only [State.joint?, State.setJointPocket, State.modJoint, List.getElem?_modify]
  cases (s.setPocket p ((s.pocket p).withOwner none)).table.joints[i]? with
  | none => rfl
  | some j => simp

end Unserved

/-! ## Drilling end (R114) -/

section DrillingEnd

variable {s : State} {i : Nat} {j : Joint} {c : RivetCode}

theorem State.drillingEndStep_owned {p : PocketNo} (hj : s.joint? i = some j) (owns : j.pocket = some p)
    (same : (s.pocket p).code? = some c) : s.drillingEndStep i c = s := by
  simp only [State.drillingEndStep, hj, Option.bind_some, owns, if_pos same]

theorem State.drillingEndStep_none (none : (s.joint? i).bind (·.pocket) = none) :
    s.drillingEndStep i c = s.demandRivet i c := by
  simp only [State.drillingEndStep, none]

theorem State.drillingEndStep_other {p : PocketNo} (hj : s.joint? i = some j) (owns : j.pocket = some p)
    (other : (s.pocket p).code? ≠ some c) (noOrder : ∀ o ∈ s.heater.orders, o.joint ≠ i) :
    s.drillingEndStep i c = (s.releasePocket p i).drillingEndStep i c := by
  rw [State.drillingEndStep_none (State.releasePocket_unserved noOrder p).1]
  simp only [State.drillingEndStep, hj, Option.bind_some, owns, if_neg other]

end DrillingEnd

/-! ## Handing over (R115) -/

section Release

variable {s : State} {i : Nat} {j : Joint} {p : PocketNo} {d : RivetCode}

theorem Pocket.withOwner_code (x : Pocket) (o : Option Nat) : (x.withOwner o).code? = x.code? := by
  cases x <;> rfl

/-- The state in which a joint has let go of a pocket, before the pocket passes on. -/
def State.letGo (s : State) (p : PocketNo) (i : Nat) (j : Joint) : State :=
  { s with
    table := { s.table with joints := s.table.joints.set i { j with pocket := none } }
    heater := { s.heater with pockets := s.heater.pockets.set p ((s.pocket p).withOwner none) } }

theorem State.releasePocket_eq (hj : s.joint? i = some j) : s.releasePocket p i = (s.letGo p i j).handOver p := by
  rw [State.releasePocket, State.setJointPocket_eq (j := j) (by exact hj)]
  rfl

theorem State.letGo_pocket : (s.letGo p i j).pocket p = (s.pocket p).withOwner none := s.setPocket_pocket p _

theorem State.handOver_nobody (code : (s.pocket p).code? = some d) (nobody : ∀ o ∈ s.heater.orders, o.code ≠ d) :
    s.handOver p = s := by
  have none : s.heater.orders.find? (fun o => o.code == d) = none := by simpa [List.find?_eq_none] using nobody
  simp only [State.handOver, code, none]

theorem State.handOver_first (code : (s.pocket p).code? = some d) {first rest : List HeatOrder} {o : HeatOrder}
    (orders : s.heater.orders = first ++ o :: rest) (others : ∀ e ∈ first, e.code ≠ d) (same : o.code = d) :
    s.handOver p = (s.setOrders (first ++ rest)).takePocket p o.joint := by
  have found : s.heater.orders.find? (fun o => o.code == d) = some o := by
    rw [orders, List.find?_eq_some_iff_append]
    exact ⟨by simpa using same, first, rest, rfl, fun e mem => by simpa using others e mem⟩
  have left : s.heater.orders.erase o = first ++ rest := by
    rw [orders, List.erase_append_right _ fun mem => others o mem same, List.erase_cons_head]
  simp only [State.handOver, code, found, left]

end Release

/-- Settles O10. -/
theorem rivetsSought : Obligations.RivetsSought := by
  unfold Obligations.RivetsSought
  refine ⟨?_, ?_, ?_, ?_, ?_⟩
  · rintro s u i j c p cls front best hj rfl
    rw [State.seekAs, State.bestPocket_best best]
    exact ⟨State.takePocket_nobody hj, fun h => State.takePocket_held hj⟩
  · exact fun s i c ds ps q cls front noPocket orders demands preHeats placed =>
      State.seekAs_ordered noPocket orders demands preHeats placed
  · exact fun s i c front => ⟨State.seek_early, fun h => State.seek_good, fun h r => State.seek_rejected⟩
  · intro s i j c hj
    refine ⟨fun p owns same => State.drillingEndStep_owned hj owns same,
      fun p owns other noOrder => State.drillingEndStep_other hj owns other noOrder, fun noPocket => ⟨?_, ?_⟩⟩
    all_goals rw [State.drillingEndStep_none (by rw [hj, Option.bind_some, noPocket]), State.demandRivet]
    · rintro p u best rfl
      rw [State.bestPocket_best best]
      have hj' : (s.setOrders (s.heater.orders.filter (fun o => o.joint ≠ i))).joint? i = some j := hj
      exact ⟨State.takePocket_nobody hj', fun h => State.takePocket_held hj'⟩
    · intro ds ps none orders demands preHeats
      obtain ⟨ofDemand, ofPreHeat⟩ := filter_classes demands preHeats
      rw [State.bestPocket_none none, orders]
      simp only [placeOrder, ofDemand, ofPreHeat]
      rfl
  · rintro s v i j p d hj code rfl
    have code' : ((s.letGo p i j).pocket p).code? = some d := by rw [State.letGo_pocket, Pocket.withOwner_code, code]
    rw [State.releasePocket_eq hj]
    refine ⟨State.handOver_nobody code', ?_⟩
    rintro first rest o j' u orders others same other hj' rfl
    have hj'' : ((s.letGo p i j).setOrders (first ++ rest)).joint? o.joint = some j' := by
      rw [← hj']
      exact List.getElem?_set_ne other.symm
    rw [State.handOver_first code' orders others same]
    exact ⟨State.takePocket_nobody hj'', fun h => State.takePocket_held hj''⟩

end Sys2Proof.Machine
end

section
/-! O11: a joint skipped, with what the current pass's change starts (R14, R20 to R22). -/

namespace Sys2Proof.Machine
set_option Elab.async false

/-! ## The reports of the current pass (R21, R22) -/

theorem State.postAdvance_rise {s : State} {a b : Pass} (now : s.table.currentPass = some b) (running : s.mode = .running)
    (rise : a < b) : s.postAdvance (some a) = s.post .passAdvanced b.val := by
  simp only [State.postAdvance, now, running, rise, and_self, if_true]

theorem State.postAdvance_noRise {s : State} {old : Option Pass}
    (noRise : ∀ a b, old = some a → s.table.currentPass = some b → s.mode = .running → b ≤ a) : s.postAdvance old = s := by
  unfold State.postAdvance
  split
  next a b now => exact if_neg fun both => absurd both.2 (not_lt.2 (noRise a b rfl now both.1))
  · rfl
  · rfl

theorem State.anyInWork_eq_false {s : State} : s.anyInWork = false ↔
    ∀ j ∈ s.table.joints, j.state ∉ [JointState.assigned, .drilling, .drilled, .setting] := by
  have working (st : JointState) : st.inWork = false ↔ st ∉ [JointState.assigned, .drilling, .drilled, .setting] := by
    cases st <;> decide
  simp only [State.anyInWork, List.any_eq_false, Bool.not_eq_true, working]

theorem JointState.finished_iff {st : JointState} : st.finished = true ↔ st ∈ [JointState.complete, .rejected, .skipped] := by
  cases st <;> decide

theorem Joint.blocks_iff {j : Joint} {p : Pass} : (j.identity.pass == p && j.blocks) = true ↔
    j.identity.pass = p ∧ j.state = .rejected ∧ j.identity.key = true := by
  simp [Joint.blocks]

/-- The first index of a list whose member has a property. -/
theorem findIdx?_eq_some_iff_getElem? {α : Type} {l : List α} {q : α → Bool} {i : Nat} : l.findIdx? q = some i ↔
    (∃ a, l[i]? = some a ∧ q a = true) ∧ ∀ k b, k < i → l[k]? = some b → q b = false := by
  rw [List.findIdx?_eq_some_iff_getElem]
  constructor
  · rintro ⟨inside, first, before⟩
    refine ⟨⟨l[i], List.getElem?_eq_getElem inside, first⟩, fun k b below there => ?_⟩
    obtain ⟨_, rfl⟩ := List.getElem?_eq_some_iff.1 there
    simpa using before k below
  · rintro ⟨⟨a, here, first⟩, before⟩
    obtain ⟨inside, rfl⟩ := List.getElem?_eq_some_iff.1 here
    refine ⟨inside, first, fun k below => ?_⟩
    simpa using before k _ below (List.getElem?_eq_getElem (below.trans inside))

theorem State.blockedBy_iff {s : State} {i : Nat} : s.blockedBy = some i ↔ s.mode = .running ∧
    (∀ j ∈ s.table.joints, j.state ∉ [JointState.assigned, .drilling, .drilled, .setting]) ∧
    ∃ p, s.table.currentPass = some p ∧
      (∀ j ∈ s.table.joints, j.identity.pass = p → j.state ∈ [JointState.complete, .rejected, .skipped]) ∧
      (∃ j, s.joint? i = some j ∧ j.identity.pass = p ∧ j.state = .rejected ∧ j.identity.key = true) ∧
      ∀ i' j', i' < i → s.joint? i' = some j' →
        ¬ (j'.identity.pass = p ∧ j'.state = .rejected ∧ j'.identity.key = true) := by
  unfold State.blockedBy
  cases pass : s.table.currentPass with
  | none => simp
  | some p =>
    have ended : s.table.joints.all (fun j => j.identity.pass != p || j.state.finished) = true ↔
        ∀ j ∈ s.table.joints, j.identity.pass = p → j.state ∈ [JointState.complete, .rejected, .skipped] := by
      simp only [List.all_eq_true, Bool.or_eq_true, bne_iff_ne, JointState.finished_iff, ← imp_iff_not_or]
    simp only [Option.ite_none_right_eq_some, findIdx?_eq_some_iff_getElem?, Joint.blocks_iff, ← Bool.not_eq_true,
      Option.some.injEq, exists_eq_left', State.joint?]
    rw [Bool.not_eq_true, State.anyInWork_eq_false, ended]
    tauto

theorem State.postBlocked_blocked {s : State} {i : Nat} (blocked : s.blockedBy = some i) :
    s.postBlocked false = s.post .passBlocked i := by simp only [State.postBlocked, blocked, Bool.false_eq_true, if_false]

theorem State.postBlocked_free {s : State} (free : s.blockedBy = none) (was : Bool) : s.postBlocked was = s := by
  simp only [State.postBlocked, free]

theorem State.postBlocked_was (s : State) : s.postBlocked true = s := by
  unfold State.postBlocked
  split <;> rfl

/-! ## What follows a joint change (R20, R154, R155) -/

/-- The state in which a joint's record is written and the current pass recomputed, before the reports. -/
def State.repassed (s : State) (i : Nat) (j : Joint) : State :=
  { s with table := { s.table with joints := s.table.joints.set i j, currentPass := currentPassOf (s.table.joints.set i j) } }

theorem State.changeJoint_eq {s : State} {i : Nat} {j : Joint} {f : Joint → Joint} (hj : s.joint? i = some j) :
    s.changeJoint i f = ((s.repassed i (f j)).postAdvance s.table.currentPass).postBlocked s.blockedBy.isSome := by
  rw [State.changeJoint, State.modJoint_eq_setJoint hj]
  rfl

section Settling

variable {s : State} {old : Option Pass}

theorem State.round_elsewhere (elsewhere : s.mode ≠ .running) : s.round = s := if_neg elsewhere

theorem State.drainTest_elsewhere (elsewhere : s.mode ≠ .draining) : s.drainTest = s := if_neg fun both => elsewhere both.1

theorem State.passGone_elsewhere (elsewhere : s.mode ≠ .running) : s.passGone old = s := by
  rw [State.passGone, show s.programTest = s from if_neg fun both => elsewhere both.1, ite_self]

theorem State.passGone_pass (pass : s.table.currentPass ≠ none) : s.passGone old = s := by
  rw [State.passGone, State.programTest_pass pass, ite_self]

/-- Outside RUNNING and DRAINING nothing follows. -/
theorem State.settleJoint_elsewhere (notRunning : s.mode ≠ .running) (notDraining : s.mode ≠ .draining) :
    s.settleJoint old = s := by
  rw [State.settleJoint, State.passGone_elsewhere notRunning, State.drainTest_elsewhere notDraining, State.roundIfPassChanged,
    State.round_elsewhere notRunning, ite_self]

/-- In DRAINING the end of the drain is tested. -/
theorem State.settleJoint_draining (draining : s.mode = .draining) : s.settleJoint old =
    if ∃ j ∈ s.table.joints, j.state.inWork = true then s else s.enterMode .armed := by
  have notRunning : s.mode ≠ .running := by rw [draining]; nofun
  rw [State.settleJoint, State.passGone_elsewhere notRunning, State.drainTest_draining draining, State.roundIfPassChanged]
  split
  · rw [State.round_elsewhere notRunning, ite_self]
  · rw [State.round_elsewhere (by rw [State.enterMode_mode]; nofun), ite_self]

/-- In RUNNING a pass that stays starts nothing. -/
theorem State.settleJoint_same (running : s.mode = .running) (same : s.table.currentPass = old) : s.settleJoint old = s := by
  have gone : s.passGone old = s := by
    cases pass : s.table.currentPass with
    | none => rw [State.passGone, ← same, pass]; rfl
    | some p => exact State.passGone_pass (by rw [pass]; nofun)
  rw [State.settleJoint, gone, State.drainTest_elsewhere (by rw [running]; nofun), State.roundIfPassChanged, if_pos same]

/-- In RUNNING a pass that changes to another starts a round. -/
theorem State.settleJoint_changed {p : Pass} (running : s.mode = .running) (pass : s.table.currentPass = some p)
    (changed : old ≠ some p) : s.settleJoint old = s.round := by
  rw [State.settleJoint, State.passGone_pass (by rw [pass]; nofun), State.drainTest_elsewhere (by rw [running]; nofun),
    State.roundIfPassChanged, if_neg (by rw [pass]; exact changed.symm)]

/-- In RUNNING a pass that is gone ends the program. -/
theorem State.settleJoint_gone (running : s.mode = .running) (none' : s.table.currentPass = none) (was : old ≠ none) :
    s.settleJoint old = s.completeProgram := by
  have armed : s.completeProgram.mode = .armed := by
    rw [State.completeProgram]
    simp only [State.mode, (State.post_frame _ _ _).2.2.2.2.2.2.1]
    exact s.enterMode_mode .armed
  rw [State.settleJoint, State.passGone, if_pos (Option.isSome_iff_ne_none.2 was), State.programTest, if_pos ⟨running, none'⟩,
    State.drainTest_elsewhere (by rw [armed]; nofun), State.roundIfPassChanged, State.round_elsewhere (by rw [armed]; nofun),
    ite_self]

end Settling

section Changed

variable {s : State} {i : Nat} {j : Joint} {f : Joint → Joint}

/-- A joint change in RUNNING that leaves the current pass as it was. -/
theorem State.changeJoint_same (running : s.mode = .running) (hj : s.joint? i = some j)
    (same : (s.repassed i (f j)).table.currentPass = s.table.currentPass) :
    (s.changeJoint i f).settleJoint s.table.currentPass = (s.repassed i (f j)).postBlocked s.blockedBy.isSome := by
  have quiet : (s.repassed i (f j)).postAdvance s.table.currentPass = s.repassed i (f j) :=
    State.postAdvance_noRise fun a b was now _ => le_of_eq (Option.some.inj (now.symm.trans (same.trans was)))
  rw [State.changeJoint_eq hj, quiet]
  refine State.settleJoint_same ?_ ?_
  · rw [State.mode, (State.postBlocked_frame _ _).2.2.2.2.2.2.1]
    exact running
  · rw [(State.postBlocked_frame _ _).1, same]

/-- A joint change in RUNNING after which no joint counts. -/
theorem State.changeJoint_gone (running : s.mode = .running) (hj : s.joint? i = some j)
    (gone : (s.repassed i (f j)).table.currentPass = none) (was : s.table.currentPass ≠ none) :
    (s.changeJoint i f).settleJoint s.table.currentPass = (s.repassed i (f j)).completeProgram := by
  have quiet : (s.repassed i (f j)).postAdvance s.table.currentPass = s.repassed i (f j) :=
    State.postAdvance_noRise fun a b _ now => by rw [gone] at now; cases now
  rw [State.changeJoint_eq hj, quiet, State.postBlocked_noPass gone]
  exact State.settleJoint_gone running gone was

/-- A joint change in RUNNING that moves the current pass. -/
theorem State.changeJoint_moved {p : Pass} (running : s.mode = .running) (hj : s.joint? i = some j)
    (pass : (s.repassed i (f j)).table.currentPass = some p) (changed : s.table.currentPass ≠ some p) :
    (s.changeJoint i f).settleJoint s.table.currentPass =
      (((s.repassed i (f j)).postAdvance s.table.currentPass).postBlocked s.blockedBy.isSome).round := by
  rw [State.changeJoint_eq hj]
  refine State.settleJoint_changed ?_ ?_ changed
  · rw [State.mode, (State.postBlocked_frame _ _).2.2.2.2.2.2.1, (State.postAdvance_frame _ _).2.2.2.2.2.2.1]
    exact running
  · rw [(State.postBlocked_frame _ _).1, (State.postAdvance_frame _ _).1, pass]

end Changed

/-! ## JOINT_SKIP (R14) -/

section Skip

variable {s : State} {i : Nat} {j : Joint}

theorem State.answer_jointSkip (mode : s.mode ≠ .aborted) (hi : i < 65536) (hj : s.joint? i = some j) :
    s.answer (b16 i) .jointSkip = if j.state = .pending ∨ j.state = .rejected then
      done ((s.changeJoint i Joint.skip).settleJoint s.table.currentPass) [] else refuse s .wrongState := by
  have modeOk : (s.mode != .aborted) = true := bne_iff_ne.2 mode
  have index : u16At (b16 i) 0 = i := by rw [u16At_b16_last, Nat.mod_eq_of_lt hi]
  simp only [State.answer, State.jointSkip, modeOk, checked_passes (b16_length i), index, hj]

theorem State.answer_jointSkip_unused (mode : s.mode ≠ .aborted) (hi : i < 65536) (unused : s.joint? i = none) :
    s.answer (b16 i) .jointSkip = refuse s .notFound := by
  have modeOk : (s.mode != .aborted) = true := bne_iff_ne.2 mode
  have index : u16At (b16 i) 0 = i := by rw [u16At_b16_last, Nat.mod_eq_of_lt hi]
  simp only [State.answer, State.jointSkip, modeOk, checked_passes (b16_length i), index, unused]

theorem State.answer_jointSkip_taken (mode : s.mode ≠ .aborted) (hi : i < 65536) (hj : s.joint? i = some j)
    (taken : j.state = .pending ∨ j.state = .rejected) {t : State}
    (effect : (s.changeJoint i Joint.skip).settleJoint s.table.currentPass = t) :
    s.answer (b16 i) .jointSkip = done t [] := by
  rw [State.answer_jointSkip mode hi hj, if_pos taken, effect]

/-- A joint out of work that leaves the table's other joints as they were leaves work as it was. -/
theorem exists_inWork_set {js : List Joint} {i : Nat} {j k : Joint} (hj : js[i]? = some j) (before : j.state.inWork = false)
    (after : k.state.inWork = false) :
    (∃ y ∈ js.set i k, y.state.inWork = true) ↔ ∃ y ∈ js, y.state.inWork = true := by
  obtain ⟨inside, rfl⟩ := List.getElem?_eq_some_iff.1 hj
  constructor
  · rintro ⟨y, mem, working⟩
    rcases List.mem_or_eq_of_mem_set mem with old | rfl
    · exact ⟨y, old, working⟩
    · exact absurd working (by simp [after])
  · rintro ⟨y, mem, working⟩
    obtain ⟨n, below, rfl⟩ := List.getElem_of_mem mem
    have other : i ≠ n := fun same => by subst same; simp [before] at working
    exact ⟨js[n], List.mem_iff_getElem.2 ⟨n, by simpa using below, List.getElem_set_ne other _⟩, working⟩

end Skip

/-- JOINT_SKIP takes a PENDING or REJECTED joint. -/
theorem exec_jointSkip_taken {s t : State} {i : Nat} {j : Joint} (ready : s.Ready) (tag : Byte) (mode : s.mode ≠ .aborted)
    (hi : i < 65536) (hj : s.joint? i = some j) (taken : j.state = .pending ∨ j.state = .rejected)
    (effect : (s.cleared.changeJoint i Joint.skip).settleJoint s.table.currentPass = t) (rests : t.ControllerRests) :
    exec (.jointSkip tag (b16 i)) s = .next (t.withReply ⟨0x05, tag, .ok, []⟩) :=
  State.request_answered ready .jointSkip tag _ (State.answer_jointSkip_taken (s := s.cleared) mode hi hj taken effect) rests

/-- Settles O11. -/
theorem jointSkipTaken : Obligations.JointSkipTaken := by
  unfold Obligations.JointSkipTaken
  refine ⟨fun s tag i ready mode hi => ⟨?_, ?_, ?_⟩, ?_, ?_, fun s old => ⟨?_, State.postAdvance_noRise⟩,
    fun s i => State.blockedBy_iff, fun s => ⟨fun i => State.postBlocked_blocked, fun free => State.postBlocked_free free _,
      s.postBlocked_was⟩⟩
  · intro j hj taken notRunning notDraining
    refine exec_jointSkip_taken ready tag mode hi hj taken ?_ ready.1.1
    rw [State.changeJoint_quiet (s := s.cleared) hj notRunning]
    exact State.settleJoint_elsewhere (by exact notRunning) (by exact notDraining)
  · intro j hj notPending notRejected
    have answer := State.answer_jointSkip (s := s.cleared) mode hi hj
    rw [if_neg (not_or.2 ⟨notPending, notRejected⟩)] at answer
    exact State.request_refused ready .jointSkip tag _ answer
  · exact fun unused =>
      State.request_refused ready .jointSkip tag _ (State.answer_jointSkip_unused (s := s.cleared) mode hi unused)
  · rintro s u tag i j ready running hi hj taken rfl
    have idle : s.control.pendingSet = [] := by
      rcases ready.1.1 with busy | mark | idle
      · exact absurd busy (by rw [running]; decide)
      · exact absurd mark (by simp [ready.2.2.2])
      · exact idle
    have mode : s.mode ≠ .aborted := by rw [running]; nofun
    refine ⟨fun same => ?_, fun gone was => ?_, fun p pass changed => ?_⟩
    · refine exec_jointSkip_taken ready tag mode hi hj taken (State.changeJoint_same (s := s.cleared) running hj same) ?_
      exact .inr (.inr ((congrArg ModeControl.pendingSet (State.postBlocked_frame _ _).2.2.2.2.2.2.1).trans idle))
    · refine exec_jointSkip_taken ready tag mode hi hj taken (State.changeJoint_gone (s := s.cleared) running hj gone was) ?_
      exact .inr (.inr ((congrArg ModeControl.pendingSet (State.post_frame _ _ _).2.2.2.2.2.2.1).trans
        ((congrArg ModeControl.pendingSet (State.enterMode_control _ _)).trans idle)))
    · refine exec_jointSkip_taken ready tag mode hi hj taken
        (State.changeJoint_moved (s := s.cleared) running hj pass changed) ?_
      refine .inr (.inr ((congrArg ModeControl.pendingSet (State.round_frame _).2.1).trans ?_))
      rw [(State.postBlocked_frame _ _).2.2.2.2.2.2.1, (State.postAdvance_frame _ _).2.2.2.2.2.2.1]
      exact idle
  · rintro s u tag i j ready draining idle hi hj taken rfl
    have before : j.state.inWork = false := by rcases taken with is | is <;> rw [is] <;> rfl
    refine exec_jointSkip_taken ready tag (by rw [draining]; nofun) hi hj taken ?_ ?_
    · rw [State.changeJoint_quiet (s := s.cleared) hj (by exact draining ▸ nofun), State.settleJoint_draining (by exact draining)]
      exact if_congr (exists_inWork_set hj before rfl) rfl rfl
    · split
      · exact .inr (.inr idle)
      · exact .inr (.inr ((congrArg ModeControl.pendingSet (State.enterMode_control _ _)).trans idle))
  · rintro a b rfl now running rise
    exact State.postAdvance_rise now running rise

end Sys2Proof.Machine
end

section
/-! O36: homing and travel ended (R27, R28, R43, R63). -/

namespace Sys2Proof.Machine
set_option Elab.async false

/-! ## Events after which directives that wait are taken (R145) -/

/-- An event that leaves the link and the restart mark alone is its effect, after which the controller takes what waits
and the transmitter may start a report. -/
theorem State.command_taking {s u : State} (link' : s.LinkSettled) {f : State → State} (effect : f s.cleared = u)
    (link : u.link = s.link) (mark : u.control.restartMark = s.control.restartMark) :
    s.command f = u.controllerTurn.transmitTurn := by
  have turned : u.settle = u.controllerTurn.settle := by
    rw [State.settle, State.settle, State.controllerTurn_rests u.controllerTurn_ControllerRests]
  show (f s.cleared).settle = _
  rw [effect, turned]
  refine State.settle_quiet link' ?_ ?_ u.controllerTurn_ControllerRests
  · rw [(State.controllerTurn_frame u).1, link]
  · rw [State.controllerTurn_restartMark, mark]

/-! ## A head at its home point (R63, R28) -/

/-- The state in which a head has reached its home point. -/
def State.atHome (s : State) (h : HeadNo) (p : Nat) : State :=
  (s.setHead h { s.head h with state := .idle, phaseTimer := none, position := some p, order := none }).setClaim h
    (some ⟨p, p⟩)

theorem State.home_eq (s : State) (h : HeadNo) :
    s.home h = s.atHome h (if h.val % 2 = 0 then 0 else s.station.railLength) := by
  simp [State.home, State.atHome, State.modHead_eq, State.homePoint, isLower]

section AtHome

variable {s : State} {h : HeadNo} {p : Nat}

theorem State.atHome_head (g : HeadNo) : ((s.atHome h p).head g).state = if h = g then .idle else (s.head g).state := by
  refine (congrArg Head.state (s.head_setHead h g _)).trans ?_
  split <;> rfl

theorem State.anyHoming_eq_false {s : State} : s.anyHoming = false ↔ ∀ g, (s.head g).state ≠ .homing := by
  simp [State.anyHoming, List.any_eq_false, mem_headNos]

theorem State.atHome_anyHoming : (s.atHome h p).anyHoming = false ↔ ∀ g, g ≠ h → (s.head g).state ≠ .homing := by
  rw [State.anyHoming_eq_false]
  refine forall_congr' fun g => ?_
  rw [State.atHome_head]
  by_cases same : h = g
  · simp [same]
  · simp [same, Ne.symm same]

theorem State.atHome_allAtRest : (s.atHome h p).allAtRest = true ↔ ∀ g, g ≠ h → (s.head g).state.atRest = true := by
  rw [State.allAtRest_iff]
  refine forall_congr' fun g => ?_
  rw [State.atHome_head]
  by_cases same : h = g
  · simp [same, HeadState.atRest]
  · simp [same, Ne.symm same]

end AtHome

/-! ## The completion tests (R148, R151) -/

section Tests

variable {s : State}

theorem State.armingTest_elsewhere (elsewhere : s.mode ≠ .arming) : s.armingTest = s := if_neg fun both => elsewhere both.1

theorem State.armingTest_homing (homing : ¬ s.anyHoming = false) : s.armingTest = s := if_neg fun both => homing both.2

theorem State.armingTest_homed (arming : s.mode = .arming) (homed : s.anyHoming = false) :
    s.armingTest = (s.enterMode .armed).serve := if_pos ⟨arming, homed⟩

theorem State.holdTest_elsewhere (elsewhere : s.mode ≠ .holding) : s.holdTest = s := if_neg fun both => elsewhere both.1

theorem State.holdTest_moving (moving : ¬ s.allAtRest = true) : s.holdTest = s := if_neg fun both => moving both.2

theorem State.holdTest_rest (holding : s.mode = .holding) (rest : s.allAtRest = true) : s.holdTest = s.enterMode .held :=
  if_pos ⟨holding, rest⟩

end Tests

section HomeDone

variable {s : State} {h : HeadNo}

theorem State.homeDone_eq (homing : (s.head h).state = .homing) {p : Nat}
    (point : p = if h.val % 2 = 0 then 0 else s.station.railLength) :
    s.homeDone h = (((s.atHome h p).armingTest).holdTest).round := by
  rw [State.homeDone, if_pos homing, State.home_eq, ← point]

theorem State.homeDone_elsewhere (homing : (s.head h).state = .homing) {p : Nat}
    (point : p = if h.val % 2 = 0 then 0 else s.station.railLength) (notArming : s.mode ≠ .arming)
    (notHolding : s.mode ≠ .holding) : s.homeDone h = (s.atHome h p).round := by
  rw [State.homeDone_eq homing point, State.armingTest_elsewhere (by exact notArming), State.holdTest_elsewhere (by exact notHolding)]

theorem State.homeDone_armed (homing : (s.head h).state = .homing) {p : Nat}
    (point : p = if h.val % 2 = 0 then 0 else s.station.railLength) (arming : s.mode = .arming)
    (last : ∀ g, g ≠ h → (s.head g).state ≠ .homing) : s.homeDone h = ((s.atHome h p).enterMode .armed).serve := by
  have mode : ((s.atHome h p).enterMode .armed).serve.mode = .armed := by
    rw [State.mode, (State.serve_frame _).2.2.2.2.1]
    exact State.enterMode_mode _ _
  rw [State.homeDone_eq homing point, State.armingTest_homed (by exact arming) (State.atHome_anyHoming.2 last),
    State.holdTest_elsewhere (by rw [mode]; nofun), State.round_elsewhere (by rw [mode]; nofun)]

theorem State.homeDone_arming (homing : (s.head h).state = .homing) {p : Nat}
    (point : p = if h.val % 2 = 0 then 0 else s.station.railLength) (arming : s.mode = .arming)
    (others : ∃ g, g ≠ h ∧ (s.head g).state = .homing) : s.homeDone h = s.atHome h p := by
  obtain ⟨g, other, homing'⟩ := others
  rw [State.homeDone_eq homing point, State.armingTest_homing fun none => State.atHome_anyHoming.1 none g other homing',
    State.holdTest_elsewhere (by exact arming ▸ nofun), State.round_elsewhere (by exact arming ▸ nofun)]

theorem State.homeDone_held (homing : (s.head h).state = .homing) {p : Nat}
    (point : p = if h.val % 2 = 0 then 0 else s.station.railLength) (holding : s.mode = .holding)
    (last : ∀ g, g ≠ h → (s.head g).state.atRest = true) : s.homeDone h = (s.atHome h p).enterMode .held := by
  rw [State.homeDone_eq homing point, State.armingTest_elsewhere (by exact holding ▸ nofun),
    State.holdTest_rest (by exact holding) (State.atHome_allAtRest.2 last),
    State.round_elsewhere (by rw [State.enterMode_mode]; nofun)]

theorem State.homeDone_holding (homing : (s.head h).state = .homing) {p : Nat}
    (point : p = if h.val % 2 = 0 then 0 else s.station.railLength) (holding : s.mode = .holding)
    (others : ∃ g, g ≠ h ∧ (s.head g).state.atRest = false) : s.homeDone h = s.atHome h p := by
  obtain ⟨g, other, moving⟩ := others
  rw [State.homeDone_eq homing point, State.armingTest_elsewhere (by exact holding ▸ nofun),
    State.holdTest_moving fun rest => Bool.false_ne_true (moving.symm.trans (State.atHome_allAtRest.1 rest g other)),
    State.round_elsewhere (by exact holding ▸ nofun)]

end HomeDone

/-! ## A START that waited (R145, section 7.11) -/

/-- START, pending alone where ARMED stands, is executed at once. -/
theorem State.controllerTurn_start {v : State} (armed : v.mode = .armed) (clear : v.control.restartMark = false)
    (pending : v.control.pendingSet = [.start]) : v.controllerTurn =
      (State.post { v with control := { v.control with mode := .running, inProgress := none, pendingSet := [] } }
        .modeChanged 3).beginRunning := by
  have first : v.nextDirective = some .start := State.nextDirective_eq_some.2 (by simp [pending])
  have removed : v.removePending [.start] = { v with control := { v.control with pendingSet := [] } } := by
    simp [State.removePending, pending]
  have taken : v.takeDirective .start = (State.post { v with control :=
      { v.control with mode := .running, inProgress := none, pendingSet := [] } } .modeChanged 3).beginRunning := by
    rw [State.takeDirective, armed, if_pos (show Directive.start.legal .armed = true from rfl), removed, State.execute_of_removes_nil rfl]
    rfl
  have empty : (v.takeDirective .start).control.pendingSet = [] := by
    rw [State.takeDirective, armed, if_pos (show Directive.start.legal .armed = true from rfl), removed, State.execute_of_removes_nil rfl,
      (State.perform_marks _ _).1]
  rw [State.controllerTurn_takes (by rw [armed]; rfl) clear first, State.controllerTurn_empty empty, taken]

/-- And passes on to ARMED where no joint holds the program (R155). -/
theorem State.controllerTurn_started {v w x : State} (armed : v.mode = .armed) (clear : v.control.restartMark = false)
    (pending : v.control.pendingSet = [.start])
    (entered : w = State.post { v with control := { v.control with mode := .running, inProgress := none, pendingSet := [] } }
      .modeChanged 3) (begun : x = w.round.postBlocked false) :
    v.controllerTurn = if x.table.currentPass = none then x.completeProgram else x := by
  rw [State.controllerTurn_start armed clear pending, ← entered, begun]
  exact State.beginRunning_eq (by rw [entered]; simp [State.mode])

/-! ## TRAVEL_DONE (R43, R27) -/

/-- The state in which a head has arrived at its target and clamps. -/
def State.arrived (s : State) (h : HeadNo) (t : Nat) : State :=
  { (s.setHead h { s.head h with
        state := .clamp, position := some t, target := none, phaseTimer := some s.station.clampTime,
        order := some .clamp }).setClaim h (some ⟨t, t⟩) with
    outgoing := s.outgoing ++ [.drive h .clamp] }

theorem State.travelDone_eq {s : State} {h : HeadNo} {t : Nat} (travel : (s.head h).state = .travel)
    (target : (s.head h).target = some t) : s.travelDone h = (s.arrived h t).round := by
  rw [State.travelDone, if_pos travel, target]
  refine congrArg State.round ?_
  simp [State.arrived, State.enterPhase, State.sendDrive, State.modHead, State.setHead, State.setClaim, State.head,
    State.station]

/-- Settles O36. -/
theorem homeAndTravelDone : Obligations.HomeAndTravelDone := by
  unfold Obligations.HomeAndTravelDone
  refine ⟨?_, ?_, ?_⟩
  · rintro s u h p quiet homing point rfl
    refine ⟨fun notArming notHolding notRunning => ?_, fun running => ?_, fun arming others => ?_, fun arming last => ?_,
      fun holding others => ?_, fun holding last => ?_⟩
    · have effect := State.homeDone_elsewhere (s := s.cleared) homing point notArming notHolding
      rw [State.round_elsewhere (by exact notRunning)] at effect
      exact congrArg Host.Outcome.next (State.command_unreported quiet effect rfl rfl rfl)
    · have effect := State.homeDone_elsewhere (s := s.cleared) homing point (by exact running ▸ nofun) (by exact running ▸ nofun)
      exact congrArg Host.Outcome.next (State.command_event quiet effect (State.round_frame _).2.2.1 (State.round_frame _).2.1)
    · exact congrArg Host.Outcome.next (State.command_unreported quiet
        (State.homeDone_arming (s := s.cleared) homing point arming others) rfl rfl rfl)
    · refine congrArg Host.Outcome.next (State.command_next quiet
        (State.homeDone_armed (s := s.cleared) homing point arming last) ?_ ?_ ?_)
      all_goals simp [State.setHead, State.setClaim, State.cleared]
    · exact congrArg Host.Outcome.next (State.command_unreported quiet
        (State.homeDone_holding (s := s.cleared) homing point holding others) rfl rfl rfl)
    · refine congrArg Host.Outcome.next (State.command_next quiet
        (State.homeDone_held (s := s.cleared) homing point holding last) ?_ ?_ ?_)
      all_goals simp [State.setHead, State.setClaim, State.cleared]
  · rintro s u v w x h p link clear homing point rfl
    refine ⟨?_, ?_⟩
    · intro arming last served
      have homed : v = ((s.cleared.atHome h p).enterMode .armed).serve := served
      have control : v.control = { s.control with mode := .armed, inProgress := none } := by
        rw [homed, (State.serve_frame _).2.2.2.2.1]
        exact State.enterMode_control _ _
      have event : exec (.homeDone h) s = .next v.controllerTurn.transmitTurn := by
        refine congrArg Host.Outcome.next (State.command_taking link
          ((State.homeDone_armed (s := s.cleared) homing point arming last).trans homed.symm) ?_ (by rw [control]))
        rw [homed]
        simp [State.atHome, State.setHead, State.setClaim, State.cleared]
      refine ⟨event, fun pending entered begun => ?_⟩
      rw [State.controllerTurn_started (by rw [State.mode, control]) (by rw [control]; exact clear)
        (by rw [control]; exact pending) entered begun] at event
      exact ⟨fun pass => event.trans (by rw [if_neg pass]), fun none => event.trans (by rw [if_pos none]; rfl)⟩
    · rintro holding last rfl
      refine congrArg Host.Outcome.next (State.command_taking link
        (State.homeDone_held (s := s.cleared) homing point holding last) ?_ ?_)
      all_goals simp [State.setHead, State.setClaim, State.cleared]
  · rintro s u h t quiet travel target rfl
    have effect := State.travelDone_eq (s := s.cleared) travel target
    refine ⟨fun notRunning => ?_, fun running => ?_⟩
    · refine congrArg Host.Outcome.next (State.command_unreported quiet (effect.trans ?_) rfl rfl rfl)
      exact State.round_elsewhere (by exact notRunning)
    · exact congrArg Host.Outcome.next (State.command_event quiet effect (State.round_frame _).2.2.1 (State.round_frame _).2.1)

end Sys2Proof.Machine
end

section
/-! O37: a drill channel asked for (R44, R45, R72). -/

namespace Sys2Proof.Machine
set_option Elab.async false

section Drill

variable {s : State} {h : HeadNo} {i : Nat} {j : Joint} {c : ChannelNo}

theorem State.freeDrill_lowest (free : (s.channel c).holder = none)
    (lowest : c = 0 ∨ c = 1 ∧ (s.channel 0).holder ≠ none) : s.freeDrill = some c := by
  rcases lowest with rfl | ⟨rfl, taken⟩
  · simp [State.freeDrill, free]
  · simp [State.freeDrill, free, taken]

theorem State.freeDrill_taken (first : (s.channel 0).holder ≠ none) (second : (s.channel 1).holder ≠ none) :
    s.freeDrill = none := by
  simp [State.freeDrill, first, second]

theorem State.writeResult_eq (held : (s.head h).held = some i) (hj : s.joint? i = some j) (f : JointResult → JointResult) :
    s.writeResult h f = s.setJoint i { j with result := f j.result } := by
  rw [State.writeResult, held]
  exact State.modJoint_eq_setJoint hj

theorem State.setHead_sendFeed (x : Head) (r : FeedRate) : (s.setHead h x).sendFeed h r =
    { s.setHead h { x with rate := some r, order := some (.feed r) } with outgoing := s.outgoing ++ [.drive h (.feed r)] } := by
  simp only [State.sendFeed, State.sendDrive, State.modHead_eq, State.setHead_head, State.setHead_setHead]
  rfl

/-- The record of a head that enters DRILL (R45, R50). -/
def Head.drilling (x : Head) (q : PeckProfile) (r : FeedRate) (timeout : Nat) : Head :=
  { x with
    state := .drill, subPhase := some .cut, deepest := 0, peckStart := 0, peckCounter := 0, active := q,
    buffered := none, rate := some r, phaseTimer := some timeout, order := some (.feed r) }

/-- The joint that its head drills (R45). -/
def Joint.drilled (j : Joint) : Joint :=
  { j with state := .drilling, result := { j.result with peckCount := some 0 } }

theorem State.enterDrill_eq {q : PeckProfile} {r : FeedRate} (rule : s.PassRule) (held : (s.head h).held = some i)
    (hj : s.joint? i = some j) (working : j.state.inWork = true) (profile : q = (s.head h).buffered.getD (s.head h).active)
    (rate : r = if 0 < q.b ∧ 0 < q.a then .reEntry else .cutting) : s.enterDrill h =
      { (s.setHead h ((s.head h).drilling q r s.station.drillTime)).setJoint i j.drilled with
        outgoing := s.outgoing ++ [.drive h (.feed r)] } := by
  have state := State.setJointState_inWork (st := .drilling) rule held hj working rfl
  have result := State.writeResult_eq (s := s.setJoint i { j with state := .drilling }) (h := h) (by exact held)
    (State.joint_setJoint hj _) (fun r => { r with peckCount := some 0 })
  rw [State.setJoint_setJoint] at result
  have selected : selectRate .waiting q 0 = r := by
    rw [rate, selectRate, if_neg (by nofun)]
  have body : s.enterDrill h = ((s.setJoint i j.drilled).setHead h { (s.head h).resetPeck 0 with
      state := .drill, subPhase := some .cut, deepest := 0, phaseTimer := some s.station.drillTime }).sendFeed h
        (selectRate .waiting q 0) := by
    subst profile
    simp only [State.enterDrill, state, result, State.modHead_eq, State.setHead_head]
    rfl
  rw [body, State.setHead_sendFeed, selected, Head.resetPeck, ← profile]
  rfl

theorem State.grantDrill_eq {q : PeckProfile} {r : FeedRate} (rule : s.PassRule) (held : (s.head h).held = some i)
    (hj : s.joint? i = some j) (working : j.state.inWork = true) (profile : q = (s.head h).buffered.getD (s.head h).active)
    (rate : r = if 0 < q.b ∧ 0 < q.a then .reEntry else .cutting) : s.grantDrill c h =
      { ((s.setHead h ((s.head h).drilling q r s.station.drillTime)).setChannel c (Channel.grantTo h (some i))).setJoint i
          j.drilled with
        outgoing := s.outgoing ++ [.drive h (.feed r)] } := by
  rw [State.grantDrill, held]
  exact State.enterDrill_eq (s := s.setChannel c _) rule held hj working profile rate

end Drill

/-- Settles O37. -/
theorem clampDoneTaken : Obligations.ClampDoneTaken := by
  unfold Obligations.ClampDoneTaken
  intro s h i j q r quiet rule clamp held hj working profile rate
  have asked : s.cleared.clampDone h = s.cleared.askDrill h := if_pos clamp
  refine ⟨fun c free lowest => ?_, fun first second => ?_⟩
  · refine congrArg Host.Outcome.next (State.command_unreported quiet (asked.trans ?_) rfl rfl rfl)
    have record := s.cleared.setHead_head h { s.head h with phaseTimer := none }
    have granted := State.grantDrill_eq (s := s.cleared.setHead h { s.head h with phaseTimer := none }) (c := c) (q := q)
      rule (by rw [record]; exact held) hj working (by rw [record]; exact profile) rate
    rw [record] at granted
    simp only [State.askDrill, State.freeDrill_lowest (s := s.cleared) free lowest]
    refine Eq.trans granted ?_
    simp only [State.setHead_setHead]
    rfl
  · refine congrArg Host.Outcome.next (State.command_unreported quiet (asked.trans ?_) rfl rfl rfl)
    simp only [State.askDrill, State.freeDrill_taken (s := s.cleared) first second]
    rfl

end Sys2Proof.Machine
end

section
/-! O41: feeding and set samples (R76, R93, R130). -/

namespace Sys2Proof.Machine
set_option Elab.async false

section Set

variable {s : State} {h : HeadNo} {k : PermitNo} {g : PermitGrant} {i : Nat} {j : Joint}

/-- FEED_DONE at the holder of a permit whose code has a class (R130, R76). -/
theorem State.feedDone_eq {cls : RivetClass} (feed : (s.head h).state = .feed) (holds : s.permitOf h = some k)
    (grant : s.permit k = some g) {m : Option Nat} (held : (s.head h).held = m) (defined : s.heater.classes[g.code] = some cls) :
    s.feedDone h =
      { ((s.setHead h { s.head h with
            state := .set, phaseTimer := some s.station.setTime, order := some (.set cls.forceTarget) }).setChannel
              (setChannelOf k) (Channel.grantTo h m)).setPermit k
                (some { g with forceTarget := some cls.forceTarget }) with
        outgoing := s.outgoing ++ [.drive h (.set cls.forceTarget)] } := by
  rw [State.feedDone, if_pos feed]
  simp only [holds, grant]
  subst held
  rw [State.rivetClass_defined defined, State.enterPhase_eq]
  rfl

/-- The channel after a set sample, with its accumulator as `a` held at the limits (R93). -/
theorem Channel.integrate_eq (c : Channel) (f : FilterSettings) (stroke : Nat) (force a : Int)
    (sum : a = c.accumulator + 2 * force * (f.setWeight : Int)) : c.integrate f stroke force =
      { c with
        ring := c.ring.set c.writeIndex force, writeIndex := c.writeIndex + 1,
        sampleCount := min 65535 (c.sampleCount + 1), lastStroke := some stroke,
        accumulator := max (-34359738368) (min 34359738367 a),
        mv := c.mv || decide (a < -34359738368 ∨ 34359738367 < a),
        peakForce := some ((c.peakForce.map (max · force)).getD force) } := by
  simp only [Channel.integrate, addProduct_eq, ← sum]
  cases c.peakForce <;> rfl

theorem Channel.integrateSaturates_iff (c : Channel) (f : FilterSettings) (force a : Int)
    (sum : a = c.accumulator + 2 * force * (f.setWeight : Int)) :
    c.integrateSaturates f force = true ↔ ¬ InAccumulator a := by
  simp only [Channel.integrateSaturates, addProduct_eq, ← sum, Bool.false_or, decide_eq_true_eq, InAccumulator]
  omega

theorem State.setSample_eq {c : ChannelNo} {ch : Channel} {stroke : Nat} {force : Int} (set : (s.head h).state = .set)
    (holds : s.permitOf h = some k) (bound : c = setChannelOf k)
    (sampled : (s.channel c).integrate s.signature.filter stroke force = ch) : s.setSample h stroke force =
      if (s.channel c).integrateSaturates s.signature.filter force then (s.setChannel c ch).markSaturated h
      else s.setChannel c ch := by
  subst bound sampled
  simp only [State.setSample, set, if_true, holds]

theorem State.markSaturated_marked (held : (s.head h).held = some i) (hj : s.joint? i = some j)
    (marked : j.result.saturated = true) : s.markSaturated h = s := by
  simp only [State.markSaturated, State.heldJoint, held, Option.bind_some, hj, marked, if_true]

theorem State.markSaturated_first (held : (s.head h).held = some i) (hj : s.joint? i = some j)
    (unmarked : j.result.saturated = false) :
    s.markSaturated h = (s.setJoint i { j with result := { j.result with saturated := true } }).post .signalSaturated i := by
  simp only [State.markSaturated, State.heldJoint, held, Option.bind_some, hj, unmarked, Bool.false_eq_true, if_false,
    State.writeResult_eq held hj]

end Set

/-- Settles O41. -/
theorem setSamplesIntegrated : Obligations.SetSamplesIntegrated := by
  unfold Obligations.SetSamplesIntegrated
  rintro s h k g i c quiet holds grant held bound
  refine ⟨fun cls feed defined => ?_, ?_⟩
  · subst bound
    exact congrArg Host.Outcome.next (State.command_unreported quiet
      (State.feedDone_eq (s := s.cleared) feed holds grant held defined) rfl rfl rfl)
  · rintro stroke force j ch ch' a set hj rfl sum rfl
    have saturates := Channel.integrateSaturates_iff _ s.signature.filter force.toInt a sum
    have sample := State.setSample_eq (s := s.cleared) (c := c) set holds bound
      (Channel.integrate_eq _ s.signature.filter stroke.toNat force.toInt a sum)
    refine ⟨fun quietly => ?_, fun outside unmarked => ?_⟩
    · refine congrArg Host.Outcome.next (State.command_unreported quiet (sample.trans ?_) rfl rfl rfl)
      split
      next now =>
        have marked := quietly.resolve_left (saturates.1 now)
        exact State.markSaturated_marked (s := State.setChannel _ _ _) held hj marked
      next => rfl
    · refine congrArg Host.Outcome.next (State.command_event quiet (sample.trans ?_) ?_ ?_)
      · rw [if_pos (by exact saturates.2 outside)]
        exact State.markSaturated_first (s := State.setChannel _ _ _) held hj unmarked
      all_goals simp [State.setChannel, State.cleared]

end Sys2Proof.Machine
end

section
/-! O38: drill samples (R46 to R50, R79, R83, R88). -/

namespace Sys2Proof.Machine
set_option Elab.async false

section Marks

variable {s : State} {h : HeadNo} {i : Nat} {j : Joint}

/-- The joint with its overflow flag set where a mark is called for. -/
def Joint.overflowed (j : Joint) (now : Bool) : Joint :=
  { j with result := { j.result with overflow := j.result.overflow || now } }

theorem Joint.overflowed_eq_self {now : Bool} (kept : (j.result.overflow || now) = j.result.overflow) :
    j.overflowed now = j := by
  rw [Joint.overflowed, kept]

/-- A mark for an interface too many sets the held joint's flag, and is posted where the flag was not set before (R88). -/
theorem State.markOverflow_eq (held : (s.head h).held = some i) (hj : s.joint? i = some j) (now : Bool) :
    (if now then s.markOverflow h else s) =
      (s.setJoint i (j.overflowed now)).markOf .layerOverflow i j.result.overflow now := by
  have joint : s.heldJoint h = some j := by rw [State.heldJoint, held, Option.bind_some, hj]
  have same (kept : (j.result.overflow || now) = j.result.overflow) : s.setJoint i (j.overflowed now) = s := by
    rw [Joint.overflowed_eq_self kept, State.setJoint_self hj]
  cases now with
  | false => simp [State.markOf, same]
  | true =>
    cases before : j.result.overflow with
    | false => simp [State.markOverflow, State.markOf, State.writeResult_eq held hj, Joint.overflowed, held, joint, before]
    | true => simp [State.markOverflow, State.markOf, same, held, joint, before]

theorem State.markOf_reports (s : State) (k : EventKind) (i : Nat) (was now : Bool) :
    s.markOf k i was now = { s with reports := (s.markOf k i was now).reports } :=
  State.markOf_eq_of_same rfl rfl rfl k i was now

theorem State.markOf_time (s : State) (k : EventKind) (i : Nat) (was now : Bool) : (s.markOf k i was now).time = s.time := by
  rw [State.markOf_reports]

theorem State.markOf_mode (s : State) (k : EventKind) (i : Nat) (was now : Bool) : (s.markOf k i was now).mode = s.mode := by
  rw [State.markOf_reports]
  rfl

/-- The reports of two marks are those of a state with the same reports, time and mode. -/
theorem State.marks_of_same {t : State} (reports : t.reports = s.reports) (time : t.time = s.time) (mode : t.mode = s.mode)
    {k k' : EventKind} {n n' : Nat} {was was' now now' : Bool} :
    ((t.markOf k n was now).markOf k' n' was' now').reports = ((s.markOf k n was now).markOf k' n' was' now').reports := by
  rw [State.markOf_eq_of_same reports time mode]
  exact (congrArg State.reports (State.markOf_eq_of_same (s := s.markOf k n was now)
    (t := { t with reports := (s.markOf k n was now).reports }) rfl (time.trans (s.markOf_time ..).symm)
    (mode.trans (s.markOf_mode ..).symm) _ _ _ _)).trans rfl

/-- A mark beside its report, the reports being those of a state with the same reports, time and mode (R83, R164). -/
theorem State.markSaturated_reports {t : State} (held : (t.head h).held = some i) (hj : t.joint? i = some j)
    (reports : t.reports = s.reports) (time : t.time = s.time) (mode : t.mode = s.mode) (now : Bool) :
    (if now then t.markSaturated h else t) =
      { t.setJoint i (j.marked now) with reports := (s.markOf .signalSaturated i j.result.saturated now).reports } := by
  rw [State.markSaturated_eq held hj, State.markOf_eq_of_same (s := s) (t := t.setJoint i _) reports time mode]

theorem State.markOverflow_reports {t : State} (held : (t.head h).held = some i) (hj : t.joint? i = some j)
    (reports : t.reports = s.reports) (time : t.time = s.time) (mode : t.mode = s.mode) (now : Bool) :
    (if now then t.markOverflow h else t) =
      { t.setJoint i (j.overflowed now) with reports := (s.markOf .layerOverflow i j.result.overflow now).reports } := by
  rw [State.markOverflow_eq held hj, State.markOf_eq_of_same (s := s) (t := t.setJoint i _) reports time mode]

/-- The drill channel's sample: its record, the marks of the joint, and their reports (R79). -/
theorem State.channelSample_eq {c : ChannelNo} {d : Nat} {thrust : Int} {ch ch' : Channel} {sat full : Bool} {r : Reports}
    {res : JointResult} (held : (s.head h).held = some i) (hj : s.joint? i = some j)
    (filtered : ch = (s.channel c).filter s.signature.filter d thrust)
    (measured : ch' = (ch.measure s.signature.filter d).limit s.signature.filter d)
    (saturates : sat = (s.channel c).saturates s.signature.filter thrust) (overflows : full = ch.overflows s.signature.filter d)
    (marked : r = ((s.markOf .signalSaturated i j.result.saturated sat).markOf .layerOverflow i j.result.overflow full).reports)
    (result : res = { j.result with saturated := j.result.saturated || sat, overflow := j.result.overflow || full }) :
    s.channelSample h c d thrust = { (s.setChannel c ch').setJoint i { j with result := res } with reports := r } := by
  have satMarked := State.markSaturated_reports (s := s) (t := s.setChannel c ch) (h := h) held hj rfl rfl rfl sat
  have fullMarked := State.markOverflow_reports (s := s.markOf .signalSaturated i j.result.saturated sat)
    (t := { (s.setChannel c ch).setJoint i (j.marked sat) with
      reports := (s.markOf .signalSaturated i j.result.saturated sat).reports }) (h := h) held
    (State.joint_setJoint hj _) rfl (s.markOf_time ..).symm (s.markOf_mode ..).symm full
  simp only [State.channelSample, ← filtered, ← saturates, ← overflows, ← measured, satMarked]
  refine (congrArg (fun t : State => t.setChannel c ch') fullMarked).trans ?_
  subst marked result
  simp only [State.setJoint, State.setChannel, Vector.set_set, List.set_set]
  rfl

end Marks

/-! ## What the head does with the answer (R46 to R48) -/

section After

variable {s : State} {h : HeadNo} {i : Nat} {j : Joint} {x : Head}

/-- The record of a head that starts a peck retract (R48, R50). -/
def Head.pecking (x : Head) : Head :=
  { x with
    subPhase := some .peckRetract, peckStart := x.deepest - x.active.a, peckCounter := 0,
    active := x.buffered.getD x.active, buffered := none, order := some (.peckRetract (x.deepest - x.active.a)) }

theorem State.setHead_startPeck (held : x.held = some i) (hj : s.joint? i = some j) : (s.setHead h x).startPeck h =
    { (s.setHead h x.pecking).setJoint i { j with result := { j.result with
        peckCount := some (j.result.peckCount.getD 0 + 1) } } with
      outgoing := s.outgoing ++ [.drive h (.peckRetract (x.deepest - x.active.a))] } := by
  have sent (o : DriveOrder) : (s.setHead h x).sendDrive h o =
      { s.setHead h { x with order := some o } with outgoing := s.outgoing ++ [.drive h o] } := by
    rw [State.sendDrive, State.modHead_eq, State.setHead_head, State.setHead_setHead]
    rfl
  have record (o : DriveOrder) (q : List PortOrder) :
      (({ s.setHead h { x with order := some o } with outgoing := q } : State).head h).held = some i :=
    (congrArg Head.held (s.setHead_head h { x with order := some o })).trans held
  simp only [State.startPeck, State.setHead_head, sent, State.writeResult_eq (record _ _) hj, State.modHead_eq]
  simp only [State.setHead, State.setJoint, State.head, Fin.getElem_fin, Vector.getElem_set_self, Vector.set_set]
  rfl

theorem State.setHead_refeed (m : MachineState) {r : FeedRate} (rate : r = selectRate m x.active x.peckCounter) :
    (s.setHead h x).refeed h m = if x.rate = some r then s.setHead h x else
      { s.setHead h { x with rate := some r, order := some (.feed r) } with outgoing := s.outgoing ++ [.drive h (.feed r)] } := by
  rw [State.refeed, State.setHead_head, ← rate, State.setHead_sendFeed]

/-- A sample taken: the channel's answer beside the head's own record (R46). -/
theorem State.drillSample_eq {c : ChannelNo} {d : Nat} {thrust : Int} {ch ch' : Channel} {sat full : Bool} {r : Reports}
    {res : JointResult} (drill : (s.head h).state = .drill) (granted : s.drillChannelOf h = some c)
    (held : (s.head h).held = some i) (hj : s.joint? i = some j)
    (phase : (s.head h).subPhase = some .cut ∨ (s.head h).subPhase = some .peckReturn) (deeper : (s.head h).deepest < d)
    (filtered : ch = (s.channel c).filter s.signature.filter d thrust)
    (measured : ch' = (ch.measure s.signature.filter d).limit s.signature.filter d)
    (saturates : sat = (s.channel c).saturates s.signature.filter thrust) (overflows : full = ch.overflows s.signature.filter d)
    (marked : r = ((s.markOf .signalSaturated i j.result.saturated sat).markOf .layerOverflow i j.result.overflow full).reports)
    (result : res = { j.result with saturated := j.result.saturated || sat, overflow := j.result.overflow || full }) :
    s.drillSample h d thrust =
      (State.setHead { (s.setChannel c ch').setJoint i { j with result := res } with reports := r } h
        ((s.head h).advance d)).afterSample h c i j := by
  have takes : (s.head h).takesSample d = true := by
    rcases phase with phase | phase <;> simp [Head.takesSample, drill, phase, deeper]
  have joint : s.heldJoint h = some j := by rw [State.heldJoint, held, Option.bind_some, hj]
  have record : ((s.setHead h ((s.head h).advance d)).head h).held = some i :=
    (congrArg Head.held (s.setHead_head h _)).trans held
  have sample := State.channelSample_eq (s := s.setHead h ((s.head h).advance d)) record hj filtered measured saturates
    overflows (marked.trans (State.marks_of_same (s := s) (t := s.setHead h _) rfl rfl rfl).symm) result
  simp only [State.drillSample, takes, if_true, granted, held, joint, State.modHead_eq]
  rw [sample]
  rfl

theorem State.setHead_afterSample_peck {c : ChannelNo} (goesOn : (s.channel c).ending = none) (due : 0 < x.active.b)
    (reached : x.active.b ≤ x.peckCounter) : (s.setHead h x).afterSample h c i j = (s.setHead h x).startPeck h := by
  have goesOn' : ((s.setHead h x).channel c).ending.isSome = false := by
    rw [show (s.setHead h x).channel c = s.channel c from rfl, goesOn]
    rfl
  rw [State.afterSample, if_neg (by rw [goesOn']; nofun), State.setHead_head, if_pos ⟨due, reached⟩]

theorem State.setHead_afterSample_feed {c : ChannelNo} (goesOn : (s.channel c).ending = none)
    (notDue : x.active.b = 0 ∨ x.peckCounter < x.active.b) :
    (s.setHead h x).afterSample h c i j = (s.setHead h x).refeed h (s.channel c).machine := by
  have goesOn' : ((s.setHead h x).channel c).ending.isSome = false := by
    rw [show (s.setHead h x).channel c = s.channel c from rfl, goesOn]
    rfl
  rw [State.afterSample, if_neg (by rw [goesOn']; nofun), State.setHead_head, if_neg (by omega)]
  rfl

end After

/-! ## PECK_BACK (R48) -/

theorem State.peckBack_eq {s : State} {h : HeadNo} {c : ChannelNo} {r : FeedRate} (drill : (s.head h).state = .drill)
    (back : (s.head h).subPhase = some .peckRetract) (granted : s.drillChannelOf h = some c)
    (rate : r = selectRate (s.channel c).machine (s.head h).active (s.head h).peckCounter) : s.peckBack h =
      { s.setHead h { s.head h with subPhase := some .peckReturn, rate := some r, order := some (.feed r) } with
        outgoing := s.outgoing ++ [.drive h (.feed r)] } := by
  rw [State.peckBack, if_pos ⟨drill, back⟩, granted, State.modHead_eq, State.setHead_sendFeed]
  simp only [Option.map_some, Option.getD_some, ← rate]

theorem selectRate_eq (m : MachineState) (q : PeckProfile) (n : Nat) : selectRate m q n =
    if m = .dip then .breakthrough else if 0 < q.b ∧ n < q.a then .reEntry else .cutting := rfl

/-- Two marks leave all but the reports as it was. -/
theorem State.marks_reports {s u : State} {k k' : EventKind} {n n' : Nat} {was was' now now' : Bool}
    (marked : u = (s.markOf k n was now).markOf k' n' was' now') : u = { s with reports := u.reports } := by
  obtain ⟨r, first⟩ : ∃ r, s.markOf k n was now = { s with reports := r } := ⟨_, s.markOf_reports k n was now⟩
  obtain ⟨r', second⟩ : ∃ r', ({ s with reports := r } : State).markOf k' n' was' now' = { s with reports := r' } :=
    ⟨_, State.markOf_reports _ k' n' was' now'⟩
  rw [marked, first, second]

/-- Settles O38. -/
theorem drillSampleTaken : Obligations.DrillSampleTaken := by
  unfold Obligations.DrillSampleTaken
  rintro s h c i j x quiet rfl drill granted held hj
  refine ⟨?_, fun r back rate => congrArg Host.Outcome.next (State.command_unreported quiet
    (State.peckBack_eq (s := s.cleared) drill back granted rate) rfl rfl rfl)⟩
  intro depth thrust ch ch' d sat full u res depth' phase deeper filtered measured goesOn saturates overflows marked result
  have sample := State.drillSample_eq (s := s.cleared) drill granted held hj phase deeper filtered measured saturates
    overflows (congrArg State.reports marked) result
  have marks := State.marks_reports marked
  generalize u.reports = r at sample marks
  subst marks depth'
  have answered : ((({ (s.cleared.setChannel c ch').setJoint i { j with result := res } with reports := r } : State).channel
      c)) = ch' := s.cleared.setChannel_channel c ch'
  have goesOn' := (congrArg Channel.ending answered).trans goesOn
  refine ⟨fun due reached => ?_, fun rate notDue selected => ⟨fun same => ?_, fun other => ?_⟩⟩
  · refine congrArg Host.Outcome.next (State.command_event quiet (sample.trans ?_) rfl rfl)
    rw [State.setHead_afterSample_peck (x := (s.cleared.head h).advance depth.toNat) goesOn' (by exact due) (by exact reached)]
    rw [State.setHead_startPeck (i := i) (by exact held) (by exact State.joint_setJoint hj _)]
    simp only [State.setHead, State.setJoint, State.setChannel, List.set_set]
    subst result
    rfl
  · refine congrArg Host.Outcome.next (State.command_event quiet (sample.trans ?_) rfl rfl)
    rw [State.setHead_afterSample_feed (x := (s.cleared.head h).advance depth.toNat) goesOn' (by exact notDue), answered, State.setHead_refeed ch'.machine (by exact selected), if_pos (by exact same)]
    rfl
  · refine congrArg Host.Outcome.next (State.command_event quiet (sample.trans ?_) rfl rfl)
    rw [State.setHead_afterSample_feed (x := (s.cleared.head h).advance depth.toNat) goesOn' (by exact notDue), answered, State.setHead_refeed ch'.machine (by exact selected), if_neg (by exact other)]
    rfl

end Sys2Proof.Machine
end

section
/-! O39: the end of a measurement (R51, R74, R90 to R92). -/

namespace Sys2Proof.Machine
set_option Elab.async false

/-- The record of a head that enters RETRACT (R51). -/
def Head.retracting (x : Head) (timeout : Nat) : Head :=
  { x with
    state := .retract, subPhase := none, rate := none, phaseTimer := some timeout, order := some .retract }

section End

variable {s : State} {h : HeadNo} {c : ChannelNo} {i : Nat} {j J : Joint} {x : Head} {ch : Channel} {out : HeadOutcome}
  {code : Option RivetCode} {res : JointResult}

theorem State.enterRetract_eq (s : State) (h : HeadNo) : s.enterRetract h =
    { s.setHead h ((s.head h).retracting s.station.retractTime) with
      outgoing := s.outgoing ++ [.drive h .retract] } := by
  rw [State.enterRetract, State.modHead_eq, State.setHead_enterPhase]
  rfl

theorem State.releaseDrill_nobody (nobody : s.signature.drillQueue = []) (hch : s.channel c = ch) :
    s.releaseDrill c = s.setChannel c ch.free := by
  rw [State.releaseDrill, nobody, State.modChannel, hch]

/-- A measurement ended with no head waiting for the channel. -/
theorem State.setHead_endMeasurement (nobody : s.signature.drillQueue = []) (held : x.held = some i)
    (hj : s.joint? i = some J) (hch : s.channel c = ch) (outcome : ch.outcome s.heater.table j.identity = out)
    (found : ch.codeFound s.heater.table j.identity = code) (result : ch.handResult code J.result = res) :
    (s.setHead h x).endMeasurement h c i j =
      ((((s.setChannel c ch.free).setHead h { x with phaseTimer := none, outcome := some out }).setJoint i
        { J with result := res }).askRivet i code).enterRetract h := by
  have channel : (s.setHead h x).channel c = ch := hch
  have released : ((s.setHead h x).releaseDrill c).modHead h (fun x => { x with phaseTimer := none }) =
      (s.setChannel c ch.free).setHead h { x with phaseTimer := none } := by
    rw [State.releaseDrill_nobody (s := s.setHead h x) nobody hch, State.modHead_eq]
    exact (congrArg (fun y : Head => ((s.setHead h x).setChannel c ch.free).setHead h { y with phaseTimer := none })
      (s.setHead_head h x)).trans (State.setHead_setHead (s.setChannel c ch.free) h x _)
  have record : (((s.setChannel c ch.free).setHead h { x with phaseTimer := none }).head h).held = some i :=
    (congrArg Head.held (State.setHead_head _ h _)).trans held
  have written := State.writeResult_eq record (s := (s.setChannel c ch.free).setHead h { x with phaseTimer := none }) hj
    (ch.handResult code)
  have concluded (u : State) : ((u.setHead h { x with phaseTimer := none }).setJoint i { J with result := res }).modHead h
      (fun x => { x with outcome := some out }) =
        (u.setHead h { x with phaseTimer := none, outcome := some out }).setJoint i { J with result := res } := by
    rw [State.modHead_eq]
    exact (congrArg (fun y : Head => State.setHead _ h { y with outcome := some out }) (u.setHead_head h _)).trans
      (State.setHead_setHead (u.setJoint i _) h _ _)
  have found' : ch.codeFound (s.setHead h x).heater.table j.identity = code := found
  have outcome' : ch.outcome (s.setHead h x).heater.table j.identity = out := outcome
  rw [result] at written
  simp only [State.endMeasurement, channel, found', outcome', released, written, concluded]

/-- What a measurement's end does once the channel has been released, for a joint that asks for no rivet (R51). -/
def State.concludeDrilling (s : State) (h : HeadNo) (out : HeadOutcome) (f : JointResult → JointResult) : State :=
  (((s.modHead h (fun x => { x with phaseTimer := none })).writeResult h f).modHead h
    (fun x => { x with outcome := some out })).enterRetract h

theorem State.setHead_afterSample_end {e : Ending} (ends : (s.channel c).ending = some e) :
    (s.setHead h x).afterSample h c i j = (s.setHead h x).endMeasurement h c i j := by
  have ends' : ((s.setHead h x).channel c).ending.isSome = true := by
    rw [show (s.setHead h x).channel c = s.channel c from rfl, ends]
    rfl
  rw [State.afterSample, if_pos ends']

/-- A measurement ended with a head waiting for the channel, which it is granted (R74). -/
theorem State.endMeasurement_granted {g : HeadNo} {rest : List HeadNo} (waits : s.signature.drillQueue = g :: rest)
    (found : (s.channel c).codeFound s.heater.table j.identity = none)
    (outcome : (s.channel c).outcome s.heater.table j.identity = out) : s.endMeasurement h c i j =
      ((s.setDrillQueue rest).grantDrill c g).concludeDrilling h out ((s.channel c).handResult none) := by
  simp only [State.endMeasurement, found, outcome, State.releaseDrill, waits, State.askRivet, State.concludeDrilling]

theorem State.concludeDrilling_signature (s : State) (h : HeadNo) (out : HeadOutcome) (f : JointResult → JointResult) :
    (s.concludeDrilling h out f).signature = s.signature := by
  rw [State.concludeDrilling, (State.enterRetract_frame _ _).2.2.1]
  exact (State.writeResult_frame (s.modHead h _) h f).2.2.1

theorem State.concludeDrilling_head (s : State) (h g : HeadNo) (out : HeadOutcome) (f : JointResult → JointResult) :
    (s.concludeDrilling h out f).head g =
      if h = g then Head.retracting { s.head h with phaseTimer := none, outcome := some out } s.station.retractTime
      else s.head g := by
  have heads := (State.writeResult_frame (s.modHead h (fun x => { x with phaseTimer := none })) h f).2.1
  have link := (State.writeResult_frame (s.modHead h (fun x => { x with phaseTimer := none })) h f).2.2.2.2.2.2.2.1
  rw [State.concludeDrilling, State.enterRetract_eq]
  generalize (s.modHead h _).writeResult h f = u at heads link ⊢
  have head (a : HeadNo) : u.head a = if h = a then { s.head h with phaseTimer := none } else s.head a := by
    rw [← s.head_modHead h a (fun x => { x with phaseTimer := none })]
    simp only [State.head, heads]
  have station : u.station = s.station := by simp only [State.station, link]; rfl
  have record : (u.modHead h (fun x => { x with outcome := some out })).head h =
      { s.head h with phaseTimer := none, outcome := some out } := by
    rw [State.head_modHead, if_pos rfl, head, if_pos rfl]
  refine (State.head_setHead (u.modHead h (fun x => { x with outcome := some out })) h g _).trans ?_
  have timeout : (u.modHead h (fun x => { x with outcome := some out })).station = s.station := station
  rw [record, State.head_modHead, timeout]
  split
  next => rfl
  next other => rw [head, if_neg other]

theorem State.enterDrill_head (s : State) (g : HeadNo) (a : HeadNo) : ((s.enterDrill g).head a).state =
    (if g = a then .drill else (s.head a).state) ∧
      ((s.enterDrill g).head a).subPhase = if g = a then some .cut else (s.head a).subPhase := by
  have heads : ((s.setJointState g .drilling).writeResult g (fun r => { r with peckCount := some 0 })).heads = s.heads := by
    rw [(State.writeResult_frame _ _ _).2.1, (State.setJointState_frame _ _ _).2.1]
  simp only [State.enterDrill]
  generalize (s.setJointState g .drilling).writeResult g _ = u at heads ⊢
  have head : u.head a = s.head a := by simp only [State.head, heads]
  simp only [State.modHead_eq, State.setHead_sendFeed]
  show ((u.setHead g _).head a).state = _ ∧ ((u.setHead g _).head a).subPhase = _
  rw [State.head_setHead, head]
  split <;> exact ⟨rfl, rfl⟩

end End

section Granted

variable {s : State} {h g : HeadNo} {c : ChannelNo} {rest : List HeadNo} {out : HeadOutcome}

/-- The head that ended its measurement retracts while the head that waited drills (R74, R45). -/
theorem State.concludeDrilling_granted {m : Option Nat} (other : g ≠ h) (held : (s.head g).held = m) (f : JointResult → JointResult) :
    let t := ((s.setDrillQueue rest).grantDrill c g).concludeDrilling h out f
    t.channel c = { Channel.cold with holder := some g, lastHolder := some g, joint := m } ∧
      t.signature.drillQueue = rest ∧ ((t.head g).state = .drill ∧ (t.head g).subPhase = some .cut) ∧
      (t.head h).state = .retract ∧ (t.head h).outcome = some out := by
  intro t
  subst held
  have signature : t.signature =
      ((s.setDrillQueue rest).setChannel c (Channel.grantTo g ((s.setDrillQueue rest).head g).held)).signature :=
    (State.concludeDrilling_signature _ h out f).trans (State.enterDrill_frame _ g).2.1
  have headG : t.head g = ((s.setDrillQueue rest).grantDrill c g).head g :=
    (State.concludeDrilling_head _ h g out f).trans (if_neg other.symm)
  have headH := (State.concludeDrilling_head ((s.setDrillQueue rest).grantDrill c g) h h out f).trans (if_pos rfl)
  have drills := State.enterDrill_head
    ((s.setDrillQueue rest).setChannel c (Channel.grantTo g ((s.setDrillQueue rest).head g).held)) g g
  refine ⟨?_, ?_, ?_, congrArg Head.state headH, congrArg Head.outcome headH⟩
  · rw [State.channel, signature]
    exact State.setChannel_channel (s.setDrillQueue rest) c _
  · rw [signature]
    rfl
  · rw [headG]
    exact ⟨drills.1.trans (if_pos rfl), drills.2.trans (if_pos rfl)⟩

end Granted

/-! ## What an ending gives (R89 to R92) -/

section Ending

variable {ch : Channel} {table : List RivetEntry} {d : JointIdentity} {r : JointResult}

theorem Channel.outcome_noMaterial (ending : ch.ending = some .noMaterial) : ch.outcome table d = .rejected .noMaterial := by
  simp only [Channel.outcome, ending]

theorem Channel.outcome_depthLimit (ending : ch.ending = some .depthLimit) : ch.outcome table d = .rejected .depthLimit := by
  simp only [Channel.outcome, ending]

theorem Channel.codeFound_rejected {reason : Reason} (bad : ch.outcome table d = .rejected reason) :
    ch.codeFound table d = none := by
  rw [Channel.codeFound, bad, if_neg nofun]

theorem Channel.grip_eq {a b : Nat} (entry : ch.entry = some a) (exit : ch.exit = some b) : ch.grip = some (b - a) := by
  simp only [Channel.grip, entry, exit]

theorem Channel.outcome_finished {a b : Nat} (ending : ch.ending = some .finished) (entry : ch.entry = some a)
    (exit : ch.exit = some b) : ch.outcome table d = drillingChecks table d ch.layers (b - a) := by
  simp only [Channel.outcome, ending, Channel.grip_eq entry exit, Option.getD_some]

theorem Channel.codeFound_finished {a b : Nat} (ending : ch.ending = some .finished) (entry : ch.entry = some a)
    (exit : ch.exit = some b) : ch.codeFound table d =
      if drillingChecks table d ch.layers (b - a) = .good ∧ d.kind = .rivet then lookupRivet table d.diameter (b - a)
      else none := by
  rw [Channel.codeFound, Channel.outcome_finished ending entry exit, Channel.grip_eq entry exit, Option.getD_some, measuredCode,
    ← ite_and]

theorem Channel.handResult_finished {a b : Nat} (ending : ch.ending = some .finished) (entry : ch.entry = some a)
    (exit : ch.exit = some b) (code : Option RivetCode) : ch.handResult code r =
      { r with
        entry := some a, exit := some b, grip := some (b - a), layers := ch.layers, boundaries := some ch.boundaries,
        code := code.or r.code } := by
  simp only [Channel.handResult, ending, entry, exit, Channel.grip_eq entry exit]

end Ending

/-- Settles O39. -/
theorem measurementEnds : Obligations.MeasurementEnds := by
  unfold Obligations.MeasurementEnds
  rintro s h c i j x depth thrust ch ch' d e out code m res sat full v quiet rfl drill granted held hj depth' phase deeper
    filtered measured ending saturates overflows marked result parts
  have sample := State.drillSample_eq (s := s.cleared) drill granted held hj phase deeper filtered measured saturates
    overflows (congrArg State.reports marked) result
  have marks := State.marks_reports marked
  generalize v.reports = r at sample marks
  subst marks depth'
  have code' : m.code = j.result.code := by rw [result]
  obtain ⟨outcome, found, handed⟩ : ch'.outcome s.heater.table j.identity = out ∧
      ch'.codeFound s.heater.table j.identity = code ∧ ch'.handResult code m = res := by
    rcases parts with ⟨rfl, rfl, rfl, rfl⟩ | ⟨rfl, rfl, rfl, rfl⟩ | ⟨a, b, rfl, entry, exit, rfl, rfl, rfl⟩
    · have bad := Channel.outcome_noMaterial (table := s.heater.table) (d := j.identity) ending
      exact ⟨bad, Channel.codeFound_rejected bad, by simp only [Channel.handResult, ending]⟩
    · have bad := Channel.outcome_depthLimit (table := s.heater.table) (d := j.identity) ending
      exact ⟨bad, Channel.codeFound_rejected bad, by simp only [Channel.handResult, ending]⟩
    · exact ⟨Channel.outcome_finished ending entry exit, Channel.codeFound_finished ending entry exit,
        by rw [Channel.handResult_finished ending entry exit, code']⟩
  have answered : ((({ (s.cleared.setChannel c ch').setJoint i { j with result := m } with reports := r } : State).channel
      c)) = ch' := s.cleared.setChannel_channel c ch'
  have ended := State.setHead_afterSample_end (h := h) (i := i) (j := j) (x := (s.cleared.head h).advance depth.toNat)
    ((congrArg Channel.ending answered).trans ending)
  refine ⟨?_, fun g rest waits other noCode => ?_⟩
  · intro nobody u hu
    have alone := State.setHead_endMeasurement (h := h) (i := i) (j := j) (J := { j with result := m })
      (x := (s.cleared.head h).advance depth.toNat) (by exact nobody) (by exact held) (by exact State.joint_setJoint hj _)
      answered outcome found handed
    have whole : ((State.setChannel { (s.cleared.setChannel c ch').setJoint i { j with result := m } with reports := r } c
        ch'.free).setHead h { (s.cleared.head h).advance depth.toNat with phaseTimer := none, outcome := some out }).setJoint i
          { j with result := res } = u := by
      rw [hu]
      simp only [State.setJoint, State.setChannel, State.setHead, Vector.set_set, List.set_set]
      rfl
    have effect : s.cleared.drillSample h depth.toNat thrust.toInt = (u.askRivet i code).enterRetract h :=
      sample.trans (ended.trans (alone.trans (congrArg (fun w : State => (w.askRivet i code).enterRetract h) whole)))
    have record : u.head h = { s.head h with
        subPhase := some .cut, deepest := depth.toNat, peckCounter := depth.toNat - (s.head h).peckStart, phaseTimer := none,
        outcome := some out } := by
      rw [hu]
      exact State.setHead_head _ h _
    obtain ⟨outgoing, link, control⟩ : u.outgoing = [] ∧ u.link = s.link ∧ u.control = s.control := by rw [hu]; exact ⟨rfl, rfl, rfl⟩
    refine ⟨fun noCode => ?_, fun k w asked stepped => ?_⟩
    · rw [noCode, State.askRivet, State.enterRetract_eq, record, outgoing, State.station, link] at effect
      exact congrArg Host.Outcome.next (State.command_event quiet effect link control)
    · rw [asked, State.askRivet, ← stepped, State.enterRetract_eq] at effect
      have frame := State.drillingEndStep_frame u i k
      rw [← stepped] at frame
      obtain ⟨-, -, control', link', -⟩ := frame
      rw [State.station, link', link] at effect
      exact congrArg Host.Outcome.next (State.command_event quiet effect (link'.trans link) (control'.trans control))
  · subst noCode
    have granted := State.endMeasurement_granted (s := State.setHead { (s.cleared.setChannel c ch').setJoint i
        { j with result := m } with reports := r } h ((s.cleared.head h).advance depth.toNat)) (h := h) (c := c) (i := i)
      (j := j) (out := out) (by exact waits) (by exact (congrArg (Channel.codeFound · _ _) answered).trans found)
      (by exact (congrArg (Channel.outcome · _ _) answered).trans outcome)
    refine ⟨_, congrArg Host.Outcome.next (State.command_event quiet (sample.trans ended)
      (State.endMeasurement_frame _ _ _ _ _).2.2.1 (State.endMeasurement_frame _ _ _ _ _).2.1), ?_⟩
    rw [granted]
    obtain ⟨channel, drillQueue, headG, headH, outcomeH⟩ := State.concludeDrilling_granted
      (s := State.setHead { (s.cleared.setChannel c ch').setJoint i { j with result := m } with reports := r } h
        ((s.cleared.head h).advance depth.toNat)) (c := c) (rest := rest) (out := out) (m := (s.head g).held) other
      ((congrArg Head.held (State.setHead_head_ne _ _ other)).trans rfl)
      (((State.setHead { (s.cleared.setChannel c ch').setJoint i { j with result := m } with reports := r } h
        ((s.cleared.head h).advance depth.toNat)).channel c).handResult none)
    generalize State.concludeDrilling _ h out _ = t at *
    obtain ⟨-, -, heads, signature, -⟩ := t.transmitTurn_frame
    simp only [State.channel, State.head, heads, signature] at channel headG headH outcomeH ⊢
    exact ⟨channel, headG.1, headG.2, drillQueue, headH, outcomeH⟩

end Sys2Proof.Machine
end

section
/-! O40: the wait for the rivet (R52 to R54). -/

namespace Sys2Proof.Machine
set_option Elab.async false

/-- The record of a head that enters RELEASE. -/
def Head.inRelease (x : Head) (timeout : Nat) : Head :=
  { x with state := .release, phaseTimer := some timeout, order := some .release }

/-- The record of a head that enters AWAIT_RIVET (R52, R53). -/
def Head.awaiting (x : Head) (wait : WaitTimer) : Head :=
  { x with state := .awaitRivet, phaseTimer := none, order := none, rivetWait := wait }

section Retract

variable {s : State} {h : HeadNo} {i : Nat} {j : Joint}

/-- A joint with a rejection, or of kind HOLE, is released. -/
theorem State.retractDone_release (rule : s.PassRule) (retract : (s.head h).state = .retract)
    (held : (s.head h).held = some i) (hj : s.joint? i = some j) (working : j.state.inWork = true)
    (noRivet : (s.head h).outcome ≠ some .good ∨ j.identity.kind = .hole) : s.retractDone h =
      { (s.setHead h ((s.head h).inRelease s.station.releaseTime)).setJoint i { j with state := .drilled } with
        outgoing := s.outgoing ++ [.drive h .release] } := by
  have wants : s.wantsRivet h = false := by
    rw [State.wantsRivet, State.heldJoint, held, Option.bind_some, hj]
    rcases noRivet with bad | hole
    · simp [bad]
    · simp [hole]
  rw [State.retractDone, if_pos retract, wants, if_neg (by nofun), State.enterRelease, State.enterPhase_eq]
  refine (State.setJointState_inWork (i := i) (j := j) (st := .drilled) (by exact rule) ?_ (by exact hj) working rfl).trans rfl
  exact (congrArg Head.held (s.setHead_head h _)).trans held

/-- A RIVET joint with outcome GOOD waits for its rivet. -/
theorem State.retractDone_await (rule : s.PassRule) (retract : (s.head h).state = .retract)
    (held : (s.head h).held = some i) (hj : s.joint? i = some j) (working : j.state.inWork = true)
    (good : (s.head h).outcome = some .good) (rivet : j.identity.kind = .rivet) : s.retractDone h =
      ((s.setHead h ((s.head h).awaiting s.freshWait)).setJoint i { j with state := .drilled }).requestPermit h := by
  have wants : s.wantsRivet h = true := by
    rw [State.wantsRivet, State.heldJoint, held, Option.bind_some, hj, good]
    simp [rivet]
  rw [State.retractDone, if_pos retract, wants, if_pos rfl, State.enterAwait, State.modHead_eq]
  refine congrArg (State.requestPermit · h) ?_
  refine (State.setJointState_inWork (i := i) (j := j) (st := .drilled) (by exact rule) ?_ (by exact hj) working rfl).trans rfl
  exact (congrArg Head.held (s.setHead_head h _)).trans held

theorem State.freshWait_eq (s : State) : s.freshWait = if s.mode = .running ∨ s.mode = .draining then
    .counting (s.station.rivetWaitLimit * 100) else .paused (s.station.rivetWaitLimit * 100) := by
  have feeds : s.mode.feeds = true ↔ s.mode = .running ∨ s.mode = .draining := by cases s.mode <;> decide
  rw [State.freshWait]
  exact if_congr feeds rfl rfl

theorem State.retracted_eq (retract : (s.head h).state = .retract) : s.retracted h = (s.retractDone h).holdTest :=
  if_pos retract

/-- The state in which a head has entered AWAIT_RIVET, before it asks for a permit. -/
def State.awaitingRivet (s : State) (h : HeadNo) (i : Nat) (j : Joint) : State :=
  (s.setHead h ((s.head h).awaiting s.freshWait)).setJoint i { j with state := .drilled }

theorem State.awaitingRivet_head (g : HeadNo) : ((s.awaitingRivet h i j).head g).state =
    if h = g then .awaitRivet else (s.head g).state := by
  refine (congrArg Head.state (s.head_setHead h g _)).trans ?_
  split <;> rfl

theorem State.awaitingRivet_stamp (held : (s.head h).held = some i) (hj : s.joint? i = some j) (cold : s.stampOf h = none) :
    (s.awaitingRivet h i j).stampOf h = none := by
  rw [Option.eq_none_iff_forall_ne_some]
  intro st stamp
  obtain ⟨i', j', p, c, o, n, held', hj', owns, ready⟩ := State.stampOf_eq_some.1 stamp
  have record : ((s.awaitingRivet h i j).head h).held = some i :=
    (congrArg Head.held (s.setHead_head h _)).trans held
  obtain rfl : i = i' := Option.some.inj (record.symm.trans held')
  have joint : (s.awaitingRivet h i j).joint? i = some { j with state := .drilled } :=
    State.joint_setJoint (s := s.setHead h _) hj _
  obtain rfl := Option.some.inj (joint.symm.trans hj')
  have hot := State.stampOf_eq_some.2 ⟨i, j, p, c, o, n, held, hj, owns, ready⟩
  exact Option.some_ne_none st (hot.symm.trans cold)

theorem State.awaitingRivet_quiet (held : (s.head h).held = some i) (hj : s.joint? i = some j) (sharing : s.SharingRule)
    (cold : s.stampOf h = none ∨ s.mode = .held ∨ s.mode = .holding) :
    (s.awaitingRivet h i j).requestPermit h = s.awaitingRivet h i j := by
  have asksNot : ¬ (s.awaitingRivet h i j).Asks h := by
    rintro ⟨-, hot, feeds⟩
    rcases cold with none | is | is
    · exact hot (State.awaitingRivet_stamp held hj none)
    · exact absurd feeds (show ¬ (s.mode = .running ∨ s.mode = .draining) by simp [is])
    · exact absurd feeds (show ¬ (s.mode = .running ∨ s.mode = .draining) by simp [is])
  rw [State.requestPermit_stays (.inl asksNot)]
  exact State.grantAll_shared sharing.1

theorem State.awaitingRivet_rest :
    (s.awaitingRivet h i j).allAtRest = true ↔ ∀ g, g ≠ h → (s.head g).state.atRest = true := by
  rw [State.allAtRest_iff]
  refine forall_congr' fun g => ?_
  rw [State.awaitingRivet_head]
  by_cases same : h = g
  · simp [same, HeadState.atRest]
  · simp [same, Ne.symm same]

end Retract

/-! ## The wait's end (R54) -/

section Expiry

variable {s : State} {h : HeadNo} {i : Nat} {j : Joint} {n : Nat}

theorem State.handOver_unwanted {p : PocketNo} (unwanted : ∀ o ∈ s.heater.orders, (s.pocket p).code? ≠ some o.code) :
    s.handOver p = s := by
  cases code : (s.pocket p).code? with
  | none => simp only [State.handOver, code]
  | some d => exact State.handOver_nobody code fun o mem same => unwanted o mem (by rw [code, same])

theorem State.endHeaterUse_noPocket (none : (s.joint? i).bind (·.pocket) = none) :
    s.endHeaterUse i = s.setOrders (s.heater.orders.filter (fun o => o.joint ≠ i)) := by
  simp only [State.endHeaterUse, none]

theorem State.endHeaterUse_unwanted {p : PocketNo} (hj : s.joint? i = some j) (owns : j.pocket = some p)
    (unwanted : ∀ o ∈ s.heater.orders, (s.pocket p).code? ≠ some o.code) :
    s.endHeaterUse i = (s.letGo p i j).setOrders (s.heater.orders.filter (fun o => o.joint ≠ i)) := by
  have released : s.releasePocket p i = s.letGo p i j := by
    rw [State.releasePocket_eq hj, State.handOver_unwanted]
    intro o mem
    rw [State.letGo_pocket, Pocket.withOwner_code]
    exact unwanted o mem
  simp only [State.endHeaterUse, hj, Option.bind_some, owns, released]
  rfl

/-- The record of a head whose wait has run out (R54). -/
def Head.timedOut (x : Head) : Head := { x with rivetWait := .stopped, outcome := some (.rejected .rivetTimeout) }

theorem State.rivetWaitExpired_eq (waits : (s.head h).state = .awaitRivet) (counting : (s.head h).rivetWait = .counting n)
    (held : (s.head h).held = some i) : s.rivetWaitExpired h =
      (((s.setHead h (s.head h).timedOut).withdraw h).endHeaterUse i).enterRelease h := by
  have record : (((s.setHead h (s.head h).timedOut).withdraw h).head h).held = some i :=
    (congrArg Head.held (s.setHead_head h _)).trans held
  have record' : (((s.modHead h (fun x =>
      { x with rivetWait := .stopped, outcome := some (.rejected .rivetTimeout) })).withdraw h).head h).held = some i := record
  unfold State.rivetWaitExpired
  split
  next =>
    simp only [record']
    rfl
  next other => exact (other n waits counting).elim

theorem State.enterRelease_eq (s : State) (h : HeadNo) : s.enterRelease h =
    { s.setHead h ((s.head h).inRelease s.station.releaseTime) with outgoing := s.outgoing ++ [.drive h .release] } := by
  rw [State.enterRelease, State.enterPhase_eq]
  rfl

/-- The state in which a head's wait has run out and its permit request is withdrawn. -/
def State.waitedOut (s : State) (h : HeadNo) : State := (s.setHead h (s.head h).timedOut).withdraw h

theorem State.waitedOut_head : (s.waitedOut h).head h = (s.head h).timedOut := s.setHead_head h _

end Expiry

/-- Settles O40. -/
theorem rivetAwaited : Obligations.RivetAwaited := by
  unfold Obligations.RivetAwaited
  rintro s h i j x quiet rule rfl held hj working
  refine ⟨fun retract noRivet => ?_, ?_, ?_⟩
  · have released := State.retractDone_release (s := s.cleared) rule retract held hj working noRivet
    refine congrArg Host.Outcome.next (State.command_unreported quiet ?_ rfl rfl rfl)
    rw [State.retracted_eq (by exact retract), released]
    refine (State.holdTest_moving fun rest => ?_).trans rfl
    have atRest := State.allAtRest_iff.1 rest h
    exact absurd ((congrArg (fun y : Head => y.state.atRest) (s.cleared.setHead_head h _)).symm.trans atRest) nofun
  · intro u retract good rivet hu
    have entered := State.retractDone_await (s := s.cleared) rule retract held hj working good rivet
    have whole : s.cleared.awaitingRivet h i j = u := by
      rw [hu, State.awaitingRivet, State.freshWait_eq]
      rfl
    have effect : s.cleared.retracted h = (u.requestPermit h).holdTest := by
      rw [State.retracted_eq (by exact retract), entered, ← whole]
      rfl
    have still (sharing : s.SharingRule) (cold : s.stampOf h = none ∨ s.mode = .held ∨ s.mode = .holding) :
        u.requestPermit h = u := by
      rw [← whole]
      exact State.awaitingRivet_quiet (s := s.cleared) held hj sharing cold
    obtain ⟨link, control, reports⟩ : u.link = s.link ∧ u.control = s.control ∧ u.reports = s.reports := by
      rw [hu]
      exact ⟨rfl, rfl, rfl⟩
    have mode : u.mode = s.mode := by rw [State.mode, control]; rfl
    have rest : u.allAtRest = true ↔ ∀ g, g ≠ h → (s.head g).state.atRest = true := by
      rw [← whole]
      exact State.awaitingRivet_rest
    refine ⟨fun feeds => ?_, fun sharing cold moving => ?_, fun sharing holding last => ?_⟩
    · obtain ⟨-, -, control', link', -⟩ := u.requestPermit_frame h
      have notHolding : (u.requestPermit h).mode ≠ .holding := by
        rw [State.mode, control', control]
        rcases feeds with is | is <;> rw [← State.mode, is] <;> nofun
      rw [State.holdTest_elsewhere notHolding] at effect
      exact congrArg Host.Outcome.next (State.command_event quiet effect (link'.trans link) (control'.trans control))
    · have noHold : u.holdTest = u := by
        rcases moving with elsewhere | ⟨g, other, moves⟩
        · exact State.holdTest_elsewhere (by rwa [mode])
        · exact State.holdTest_moving fun all => Bool.false_ne_true (moves.symm.trans (rest.1 all g other))
      rw [still sharing cold, noHold] at effect
      exact congrArg Host.Outcome.next (State.command_unreported quiet effect link control reports)
    · rw [still sharing (.inr (.inr holding)), State.holdTest_rest (by rwa [mode]) (rest.2 last)] at effect
      have marks := u.enterMode_control .held
      exact congrArg Host.Outcome.next (State.command_next quiet effect ((u.enterMode_frame .held).2.2.2.2.2.2.1.trans link)
        ((congrArg ModeControl.restartMark marks).trans (show u.control.restartMark = _ by rw [control]))
        ((congrArg ModeControl.pendingSet marks).trans (show u.control.pendingSet = _ by rw [control])))
  · rintro n u waits counting rfl
    have effect := State.rivetWaitExpired_eq (s := s.cleared) waits counting held
    have record : (s.cleared.waitedOut h).head h = (s.head h).timedOut := State.waitedOut_head
    have left (t : State) (head : t.head h = (s.head h).timedOut) : t.enterRelease h =
        { t.setHead h ((s.head h).timedOut.inRelease t.station.releaseTime) with
          outgoing := t.outgoing ++ [.drive h .release] } := by rw [State.enterRelease_eq, head]
    refine ⟨fun noPocket => ?_, fun p owns unwanted => ?_⟩
    · have used := State.endHeaterUse_noPocket (s := s.cleared.waitedOut h) (i := i)
        ((congrArg (Option.bind · _) hj).trans noPocket)
      refine congrArg Host.Outcome.next (State.command_unreported quiet
        (effect.trans ((congrArg (State.enterRelease · h) used).trans ((left _ (by exact record)).trans ?_))) rfl rfl rfl)
      simp only [State.waitedOut, State.withdraw, State.setPermitQueue, State.setOrders, State.setHead, Vector.set_set]
      rfl
    · have used := State.endHeaterUse_unwanted (s := s.cleared.waitedOut h) hj owns unwanted
      refine congrArg Host.Outcome.next (State.command_unreported quiet
        (effect.trans ((congrArg (State.enterRelease · h) used).trans ((left _ (by exact record)).trans ?_))) rfl rfl rfl)
      simp only [State.waitedOut, State.withdraw, State.setPermitQueue, State.setOrders, State.setHead, State.letGo,
        State.setPocket, Vector.set_set]
      rfl

end Sys2Proof.Machine
end

section
/-! O43: a joint released (R5, R57). -/

namespace Sys2Proof.Machine
set_option Elab.async false

/-! ## Reports beside a head's record -/

section Reports

variable {s t : State}

theorem State.post_setHead (s : State) (h : HeadNo) (x : Head) (k : EventKind) (n : Nat) :
    (s.post k n).setHead h x = (s.setHead h x).post k n := by
  rw [State.post_eq_of_same (t := s.setHead h x) (s := s) rfl rfl rfl, State.post_eq_of_same (t := s) (s := s) rfl rfl rfl]
  rfl

theorem State.postAdvance_setHead (s : State) (h : HeadNo) (x : Head) (old : Option Pass) :
    (s.postAdvance old).setHead h x = (s.setHead h x).postAdvance old := by
  have pass : (s.setHead h x).table.currentPass = s.table.currentPass := rfl
  have mode : (s.setHead h x).mode = s.mode := rfl
  unfold State.postAdvance
  rw [pass, mode]
  cases old with
  | none => rfl
  | some a =>
    cases s.table.currentPass with
    | none => rfl
    | some b => exact (apply_ite (State.setHead · h x) _ _ _).trans (by rw [State.post_setHead])

theorem State.postBlocked_setHead (s : State) (h : HeadNo) (x : Head) (was : Bool) :
    (s.postBlocked was).setHead h x = (s.setHead h x).postBlocked was := by
  have blocked : (s.setHead h x).blockedBy = s.blockedBy := rfl
  unfold State.postBlocked
  rw [blocked]
  cases s.blockedBy with
  | none => rfl
  | some i => exact (apply_ite (State.setHead · h x) _ _ _).trans (by rw [State.post_setHead])

end Reports

/-! ## The joint's outcome (R5) -/

section Conclude

variable {s : State} {h : HeadNo} {i : Nat} {j : Joint} {out : HeadOutcome}

/-- The joint's record as RELEASE_DONE leaves it. -/
theorem Joint.conclude_rejected (j : Joint) (r : Reason) : j.conclude (some (.rejected r)) = { j with
    state := .rejected
    rejection := some ⟨r, decide (r ≠ .setForceShort ∧ r ≠ .setWorkLow ∧ r ≠ .setWorkHigh)⟩
    phaseAtEnd := some (if r = .rivetTimeout then .awaitRivet
      else if r = .setForceShort ∨ r = .setWorkLow ∨ r = .setWorkHigh then .set else .drill) } := by
  cases r <;> rfl

theorem Joint.conclude_pocket (j : Joint) (out : Option HeadOutcome) : (j.conclude out).pocket = j.pocket := by
  unfold Joint.conclude
  split <;> rfl

/-- The reports of a joint's outcome (R5). -/
def State.postOutcome (s : State) (i : Nat) (out : HeadOutcome) : State :=
  if out = .good then s else s.post .jointRejected i

theorem isRejection_iff {out : HeadOutcome} : isRejection (some out) = true ↔ out ≠ .good := by
  cases out <;> simp [isRejection]

theorem State.postOutcome_setHead (s : State) (x : Head) :
    (s.postOutcome i out).setHead h x = (s.setHead h x).postOutcome i out := by
  unfold State.postOutcome
  rw [apply_ite (State.setHead · h x), State.post_setHead]

theorem State.postOutcome_frame (s : State) (i : Nat) (out : HeadOutcome) : (s.postOutcome i out).table = s.table ∧
    (s.postOutcome i out).heads = s.heads ∧ (s.postOutcome i out).control = s.control ∧
      (s.postOutcome i out).link = s.link := by
  unfold State.postOutcome
  split
  · exact ⟨rfl, rfl, rfl, rfl⟩
  · simp

theorem State.postOutcome_table (s : State) (i : Nat) (out : HeadOutcome) (table : JointTable) :
    ({ s.postOutcome i out with table } : State) = ({ s with table } : State).postOutcome i out := by
  unfold State.postOutcome
  split
  · rfl
  · rw [State.post_eq_of_same (t := { s with table }) (s := s) rfl rfl rfl,
      State.post_eq_of_same (t := s) (s := s) rfl rfl rfl]

/-- A joint that owns no pocket and has no order leaves the in-work states. -/
theorem State.concludeJoint_eq (hj : s.joint? i = some j) (working : j.state.inWork = true) (noPocket : j.pocket = none)
    (noOrder : ∀ o ∈ s.heater.orders, o.joint ≠ i) : s.concludeJoint i (some out) =
      ((((s.repassed i (j.conclude (some out))).postOutcome i out).postAdvance s.table.currentPass).postBlocked false) := by
  have busy : s.anyInWork = true := List.any_eq_true.2 ⟨j, List.mem_of_getElem? hj, working⟩
  have unused : (s.setJoint i (j.conclude (some out))).endHeaterUse i = s.setJoint i (j.conclude (some out)) := by
    rw [State.endHeaterUse_noPocket]
    · refine (congrArg (State.setOrders _) (List.filter_eq_self.2 fun o mem => ?_)).trans rfl
      simpa using noOrder o mem
    · rw [State.joint_setJoint hj, Option.bind_some, Joint.conclude_pocket, noPocket]
  have reported : (if isRejection (some out) then (s.setJoint i (j.conclude (some out))).post .jointRejected i
      else s.setJoint i (j.conclude (some out))) = (s.setJoint i (j.conclude (some out))).postOutcome i out := by
    rw [State.postOutcome, if_congr isRejection_iff rfl rfl, ite_not]
  simp only [State.concludeJoint, State.modJoint_eq_setJoint hj, unused, State.blockedBy_inWork busy, Option.isSome_none,
    reported]
  rw [State.recompute, (State.postOutcome_frame _ i out).1, State.postOutcome_table]
  rfl

/-- RELEASE_DONE's own effect: the outcome, its reports, and the head in IDLE (R57). -/
theorem State.release_eq (held : (s.head h).held = some i) (outcome : (s.head h).outcome = some out)
    (hj : s.joint? i = some j) (working : j.state.inWork = true) (noPocket : j.pocket = none)
    (noOrder : ∀ o ∈ s.heater.orders, o.joint ≠ i) : s.release h =
      ((((s.setHead h { s.head h with
          state := .idle, phaseTimer := none, held := none, outcome := none, target := none, order := none }).repassed i
        (j.conclude (some out))).postOutcome i out).postAdvance s.table.currentPass).postBlocked false := by
  have concluded := State.concludeJoint_eq (out := out) hj working noPocket noOrder
  have heads : (s.concludeJoint i (some out)).heads = s.heads := by
    rw [concluded, (State.postBlocked_frame _ _).2.2.1, (State.postAdvance_frame _ _).2.2.1, (State.postOutcome_frame _ _ _).2.1]
    rfl
  have head : (s.concludeJoint i (some out)).head h = s.head h := by simp only [State.head, heads]
  have idled (t : State) : (s.concludeJoint i (some out)) = t → (t.modHead h (fun x => { x with
      state := .idle, phaseTimer := none, held := none, outcome := none, target := none, order := none })) =
        t.setHead h { s.head h with
          state := .idle, phaseTimer := none, held := none, outcome := none, target := none, order := none } := by
    rintro rfl
    rw [State.modHead_eq, head]
  simp only [State.release, held, outcome]
  rw [idled _ rfl, concluded, State.postBlocked_setHead, State.postAdvance_setHead, State.postOutcome_setHead]
  rfl

end Conclude

/-! ## What follows (R20 to R22, R151, R154, R155) -/

section Released

variable {s v : State} {h : HeadNo} {old : Option Pass}

theorem State.releaseDone_eq (release : (s.head h).state = .release) {w : State} (released : s.release h = w) :
    s.releaseDone h = (((w.passGone s.table.currentPass).drainTest).holdTest).round := by
  rw [State.releaseDone, if_pos release, released]

/-- The reports of R21 and R22 change neither the table nor the mode. -/
theorem State.reported_frame (v : State) (old : Option Pass) : ((v.postAdvance old).postBlocked false).table = v.table ∧
    ((v.postAdvance old).postBlocked false).control = v.control ∧ ((v.postAdvance old).postBlocked false).link = v.link := by
  rw [(State.postBlocked_frame _ _).1, (State.postBlocked_frame _ _).2.2.2.2.2.2.1, (State.postBlocked_frame _ _).2.2.2.2.2.2.2.1,
    (State.postAdvance_frame _ _).1, (State.postAdvance_frame _ _).2.2.2.2.2.2.1, (State.postAdvance_frame _ _).2.2.2.2.2.2.2.1]
  exact ⟨rfl, rfl, rfl⟩

theorem State.reported_elsewhere (elsewhere : v.mode ≠ .running) : (v.postAdvance old).postBlocked false = v := by
  rw [State.postAdvance_quiet elsewhere, State.postBlocked_quiet elsewhere]

/-- In RUNNING with a current pass a round follows. -/
theorem State.afterRelease_pass (running : v.mode = .running) (pass : v.table.currentPass ≠ none) :
    (((((v.postAdvance old).postBlocked false).passGone old).drainTest).holdTest).round =
      ((v.postAdvance old).postBlocked false).round := by
  obtain ⟨table, control, -⟩ := v.reported_frame old
  have mode : ((v.postAdvance old).postBlocked false).mode = .running := by rw [State.mode, control]; exact running
  rw [State.passGone_pass (by rwa [table]), State.drainTest_elsewhere (by rw [mode]; nofun),
    State.holdTest_elsewhere (by rw [mode]; nofun)]

/-- In RUNNING the last pass gone ends the program. -/
theorem State.afterRelease_gone (running : v.mode = .running) (gone : v.table.currentPass = none) (was : old ≠ none) :
    (((((v.postAdvance old).postBlocked false).passGone old).drainTest).holdTest).round = v.completeProgram := by
  have quiet : v.postAdvance old = v := State.postAdvance_noRise fun a b _ now => by rw [gone] at now; cases now
  have mode : v.completeProgram.mode = .armed := by
    rw [State.completeProgram, State.mode, (State.post_frame _ _ _).2.2.2.2.2.2.1]
    exact v.enterMode_mode .armed
  rw [quiet, State.postBlocked_noPass gone, State.passGone, if_pos (Option.isSome_iff_ne_none.2 was), State.programTest,
    if_pos ⟨running, gone⟩, State.drainTest_elsewhere (by rw [mode]; nofun), State.holdTest_elsewhere (by rw [mode]; nofun),
    State.round_elsewhere (by rw [mode]; nofun)]

/-- In DRAINING the drain is tested. -/
theorem State.afterRelease_draining (draining : v.mode = .draining) :
    (((((v.postAdvance old).postBlocked false).passGone old).drainTest).holdTest).round =
      if ∃ y ∈ v.table.joints, y.state.inWork = true then v else v.enterMode .armed := by
  have notRunning : v.mode ≠ .running := by rw [draining]; nofun
  rw [State.reported_elsewhere notRunning, State.passGone_elsewhere notRunning, State.drainTest_draining draining]
  split
  · rw [State.holdTest_elsewhere (by rw [draining]; nofun), State.round_elsewhere notRunning]
  · rw [State.holdTest_elsewhere (by rw [State.enterMode_mode]; nofun), State.round_elsewhere (by rw [State.enterMode_mode]; nofun)]

/-- In HOLDING the hold is tested. -/
theorem State.afterRelease_holding (holding : v.mode = .holding) :
    (((((v.postAdvance old).postBlocked false).passGone old).drainTest).holdTest).round =
      if v.allAtRest = true then v.enterMode .held else v := by
  have notRunning : v.mode ≠ .running := by rw [holding]; nofun
  rw [State.reported_elsewhere notRunning, State.passGone_elsewhere notRunning,
    State.drainTest_elsewhere (by rw [holding]; nofun)]
  split
  next rest => rw [State.holdTest_rest holding rest, State.round_elsewhere (by rw [State.enterMode_mode]; nofun)]
  next moving => rw [State.holdTest_moving moving, State.round_elsewhere notRunning]

end Released

/-- Settles O43. -/
theorem releaseDoneTaken : Obligations.ReleaseDoneTaken := by
  unfold Obligations.ReleaseDoneTaken
  intro s u v h i j j' x out quiet hx release held hj working noPocket noOrder outcome concluded hu hv
  have record : j' = j.conclude (some out) := by
    rcases concluded with ⟨rfl, rfl⟩ | ⟨r, rfl, rfl⟩
    · rfl
    · exact (j.conclude_rejected r).symm
  have idled : (s.cleared.setHead h { s.head h with
      state := .idle, phaseTimer := none, held := none, outcome := none, target := none, order := none }).repassed i j' = u := by
    rw [hu, hx]
    rfl
  have reported : u.postOutcome i out = v := hv.symm
  subst hx
  have released := State.release_eq (s := s.cleared) held outcome hj working noPocket noOrder
  rw [← record] at released
  have effect := State.releaseDone_eq (s := s.cleared) release (released.trans (congrArg (fun t : State =>
    ((t.postOutcome i out).postAdvance s.table.currentPass).postBlocked false) idled))
  rw [reported] at effect
  obtain ⟨table, heads, control, link⟩ := u.postOutcome_frame i out
  rw [reported] at table heads control link
  have control' : v.control = s.control := by rw [control, hu]; rfl
  have link' : v.link = s.link := by rw [link, hu]; rfl
  have mode : v.mode = s.mode := by rw [State.mode, control']; rfl
  obtain ⟨-, control'', link''⟩ := v.reported_frame s.table.currentPass
  have entered (m : Mode) : (v.enterMode m).control.restartMark = s.control.restartMark ∧
      (v.enterMode m).control.pendingSet = s.control.pendingSet ∧ (v.enterMode m).link = s.link := by
    rw [State.enterMode_control, (v.enterMode_frame m).2.2.2.2.2.2.1, link', control']
    exact ⟨rfl, rfl, rfl⟩
  refine ⟨fun running pass => ?_, fun running gone was => ?_, fun draining => ?_, fun holding => ?_⟩
  · have round := (v.postAdvance s.table.currentPass).postBlocked false |>.round_frame
    exact congrArg Host.Outcome.next (State.command_event quiet
      (effect.trans (State.afterRelease_pass (by rwa [mode]) (by rwa [table])))
      (round.2.2.1.trans (link''.trans link')) (round.2.1.trans (control''.trans control')))
  · have done := effect.trans (State.afterRelease_gone (v := v) (by rwa [mode]) (by rwa [table]) was)
    rw [State.completeProgram_eq, table] at done
    have frame := (v.enterMode .armed).post_frame .programComplete (u.table.joints.countP (fun y => y.state == .complete))
    obtain ⟨-, -, -, -, -, -, kept, keptLink, -⟩ := frame
    refine congrArg Host.Outcome.next (State.command_next quiet done (keptLink.trans (entered .armed).2.2) ?_ ?_)
    · exact (congrArg ModeControl.restartMark kept).trans (entered .armed).1
    · exact (congrArg ModeControl.pendingSet kept).trans (entered .armed).2.1
  · have done := effect.trans (State.afterRelease_draining (v := v) (by rwa [mode]))
    rw [table] at done
    by_cases working : ∃ y ∈ u.table.joints, y.state.inWork = true
    · rw [if_pos working] at done ⊢
      exact congrArg Host.Outcome.next (State.command_event quiet done link' control')
    · rw [if_neg working] at done ⊢
      exact congrArg Host.Outcome.next (State.command_next quiet done (entered .armed).2.2 (entered .armed).1 (entered .armed).2.1)
  · have done := effect.trans (State.afterRelease_holding (v := v) (by rwa [mode]))
    have state (g : HeadNo) : (v.head g).state = if h = g then .idle else (s.head g).state := by
      rw [State.head, heads, hu]
      refine (congrArg Head.state (s.cleared.head_setHead h g _)).trans ?_
      split <;> rfl
    by_cases moving : ∃ g, g ≠ h ∧ (s.head g).state.atRest = false
    · obtain ⟨g, other, moves⟩ := moving
      rw [if_neg fun rest => ?_] at done
      · rw [if_pos ⟨g, other, moves⟩]
        exact congrArg Host.Outcome.next (State.command_event quiet done link' control')
      · have still := State.allAtRest_iff.1 rest g
        rw [state, if_neg other.symm, moves] at still
        cases still
    · have rest : v.allAtRest = true := State.allAtRest_iff.2 fun g => by
        rw [state]
        split
        · rfl
        next other => simpa using fun moves => moving ⟨g, Ne.symm other, moves⟩
      rw [if_pos rest] at done
      rw [if_neg moving]
      exact congrArg Host.Outcome.next (State.command_next quiet done (entered .held).2.2 (entered .held).1 (entered .held).2.1)

end Sys2Proof.Machine
end

section
/-! O44, first part: what the reactions to a fault leave alone (R61). The head that faults is out of the queues and holds
no joint, so the grants, the servings and the rounds that follow touch other heads, other joints and other reports. -/

namespace Sys2Proof.Machine
set_option Elab.async false

/-- The kinds that grants, servings, rounds and mode changes post. -/
def EventKind.background : EventKind → Bool
  | .magazineEmpty | .passAdvanced | .passBlocked | .modeChanged | .programComplete => true
  | _ => false

/-- A state later than `b` in which a head has stayed in FAULT without a joint, its claim and the other reports being
those of `b`; and so has a joint stayed REJECTED and held by no head, where one is named. -/
structure State.Left (s b : State) (h : HeadNo) (m : Option Nat) : Prop where
  head : s.head h = b.head h
  claim : s.claim h = b.claim h
  latch : ∀ k : EventKind, k.background = false → s.latch k = b.latch k
  fault : (s.head h).state = .fault
  free : (s.head h).held = none
  joint : ∀ i ∈ m, s.joint? i = b.joint? i
  rejected : ∀ i ∈ m, ∀ j, s.joint? i = some j → j.state = .rejected
  unheld : ∀ i ∈ m, ∀ g, (s.head g).held ≠ some i

section Left

variable {b s t : State} {h g : HeadNo} {m : Option Nat} {i : Nat}

theorem State.Left.of_same (left : s.Left b h m) (joints : t.table.joints = s.table.joints) (heads : t.heads = s.heads)
    (dispatcher : t.dispatcher = s.dispatcher) (latch : ∀ k : EventKind, k.background = false → t.latch k = s.latch k) :
    t.Left b h m := by
  have head (g : HeadNo) : t.head g = s.head g := by rw [State.head, heads, State.head]
  have joint (i : Nat) : t.joint? i = s.joint? i := by rw [State.joint?, joints, State.joint?]
  have claim : t.claim h = s.claim h := by rw [State.claim, dispatcher, State.claim]
  refine ⟨(head h).trans left.head, claim.trans left.claim, fun k quiet => (latch k quiet).trans (left.latch k quiet), ?_,
    ?_, fun i mem => (joint i).trans (left.joint i mem), ?_, ?_⟩ <;>
    simp only [head, joint]
  · exact left.fault
  · exact left.free
  · exact left.rejected
  · exact left.unheld

theorem State.Left.post (left : s.Left b h m) {k : EventKind} (loud : k.background = true) (n : Nat) : (s.post k n).Left b h m := by
  obtain ⟨table, dispatcher, heads, -⟩ := s.post_frame k n
  refine left.of_same (by rw [table]) heads dispatcher fun l quiet => State.post_latch_ne ?_ n
  rintro rfl
  exact Bool.false_ne_true (quiet.symm.trans loud)

theorem State.Left.recompute (left : s.Left b h m) (was : Bool) : (s.recompute was).Left b h m := by
  have pass : ({ s with table := { s.table with currentPass := currentPassOf s.table.joints } } : State).Left b h m :=
    left.of_same rfl rfl rfl fun _ _ => rfl
  have advanced (t : State) (left : t.Left b h m) (old : Option Pass) : (t.postAdvance old).Left b h m := by
    unfold State.postAdvance
    split
    next => split <;> [exact left.post rfl _; exact left]
    next => exact left
    next => exact left
  have blocked (t : State) (left : t.Left b h m) : (t.postBlocked was).Left b h m := by
    unfold State.postBlocked
    split
    next => exact left
    next => split <;> [exact left; exact left.post rfl _]
  exact blocked _ (advanced _ pass _)

theorem State.Left.modJoint (left : s.Left b h m) {k : Nat} (other : k ∉ m) (f : Joint → Joint) : (s.modJoint k f).Left b h m := by
  have joint (i : Nat) (mem : i ∈ m) : (s.modJoint k f).joint? i = s.joint? i := by
    rw [State.joint_modJoint, if_neg fun same : k = i => other (by rw [same]; exact mem)]
  exact ⟨left.head, left.claim, left.latch, left.fault, left.free, fun i mem => (joint i mem).trans (left.joint i mem),
    fun i mem j hj => left.rejected i mem j ((joint i mem).symm.trans hj), left.unheld⟩

theorem State.Left.changeJoint (left : s.Left b h m) {k : Nat} (other : k ∉ m) (f : Joint → Joint) :
    (s.changeJoint k f).Left b h m := (left.modJoint other f).recompute _

/-- Another head's record is written, with no joint that was left aside. -/
theorem State.Left.modHead (left : s.Left b h m) (other : g ≠ h) {f : Head → Head}
    (held : ∀ i ∈ m, (f (s.head g)).held ≠ some i) : (s.modHead g f).Left b h m := by
  have head : (s.modHead g f).head h = s.head h := by rw [State.head_modHead, if_neg other]
  refine ⟨head.trans left.head, left.claim, left.latch, by rw [head, left.fault], by rw [head, left.free], left.joint,
    left.rejected, fun i mem k => ?_⟩
  rw [State.head_modHead]
  split <;> [exact held i mem; exact left.unheld i mem k]

theorem State.Left.sendDrive (left : s.Left b h m) (other : g ≠ h) (o : DriveOrder) : (s.sendDrive g o).Left b h m :=
  (left.modHead (f := fun x => { x with order := some o }) other fun i mem => left.unheld i mem g).of_same rfl rfl rfl fun _ _ => rfl

theorem State.Left.enterPhase (left : s.Left b h m) (other : g ≠ h) (phase : HeadState) (n : Nat) (o : DriveOrder) :
    (s.enterPhase g phase n o).Left b h m :=
  (left.modHead (f := fun x => { x with state := phase, phaseTimer := some n }) other fun i mem => left.unheld i mem g).sendDrive other o

theorem State.Left.not_held (left : s.Left b h m) (held : (s.head g).held = some i) : i ∉ m := fun mem => left.unheld i mem g held

theorem State.Left.setJointState (left : s.Left b h m) (g : HeadNo) (st : JointState) : (s.setJointState g st).Left b h m := by
  unfold State.setJointState
  split
  next => exact left
  next i held => exact left.changeJoint (left.not_held held) _

theorem State.Left.writeResult (left : s.Left b h m) (g : HeadNo) (f : JointResult → JointResult) :
    (s.writeResult g f).Left b h m := by
  unfold State.writeResult
  split
  next => exact left
  next i held => exact left.modJoint (left.not_held held) _

theorem State.Left.setClaim (left : s.Left b h m) (other : g ≠ h) (c : Option Claim) : (s.setClaim g c).Left b h m := by
  have claim : (s.setClaim g c).claim h = s.claim h := by rw [State.claim_setClaim, if_neg other]
  exact ⟨left.head, claim.trans left.claim, left.latch, left.fault, left.free, left.joint, left.rejected, left.unheld⟩

/-! ### The drill channel is released (R74) -/

theorem State.Left.grantDrill (left : s.Left b h m) (other : g ≠ h) (c : ChannelNo) : (s.grantDrill c g).Left b h m := by
  have granted : (s.setChannel c (Channel.grantTo g (s.head g).held)).Left b h m := left.of_same rfl rfl rfl fun _ _ => rfl
  have written := (granted.setJointState g .drilling).writeResult g (fun r => { r with peckCount := some 0 })
  refine State.Left.sendDrive (State.Left.modHead (State.Left.modHead written other ?_) other ?_) other _
  · exact fun i mem => written.unheld i mem g
  · intro i mem
    rw [State.head_modHead, if_pos rfl]
    exact written.unheld i mem g

theorem State.Left.dropDrill (left : s.Left b h m) (out : s.drillChannelOf h = none ∨ h ∉ s.signature.drillQueue) :
    (s.dropDrill h).Left b h m := by
  unfold State.dropDrill
  split
  next c channel =>
    have out := out.resolve_left (by rw [channel]; nofun)
    have cut : (s.modChannel c Channel.cutShort).Left b h m := left.of_same rfl rfl rfl fun _ _ => rfl
    unfold State.releaseDrill
    split
    next => exact cut.of_same rfl rfl rfl fun _ _ => rfl
    next g rest queue =>
      have other : g ≠ h := fun same => out (by
        rw [show s.signature.drillQueue = g :: rest from queue, same]
        exact List.mem_cons_self)
      have passed : ((s.modChannel c Channel.cutShort).setDrillQueue rest).Left b h m := cut.of_same rfl rfl rfl fun _ _ => rfl
      exact passed.grantDrill other c
  next => exact left.of_same rfl rfl rfl fun _ _ => rfl

end Left

/-! ## The heater and the arbiter -/

/-- The head is out of the permit queue besides, and no order is placed for the joint. -/
structure State.Outside (s b : State) (h : HeadNo) (m : Option Nat) : Prop where
  left : s.Left b h m
  queue : h ∉ s.arbiter.queue
  orders : ∀ i ∈ m, ∀ o ∈ s.heater.orders, o.joint ≠ i

section Outside

variable {b s t : State} {h g : HeadNo} {m : Option Nat} {i : Nat}

theorem State.Outside.of_left (out : s.Outside b h m) (left : t.Left b h m) (queue : t.arbiter.queue ⊆ s.arbiter.queue)
    (orders : t.heater.orders ⊆ s.heater.orders) : t.Outside b h m :=
  ⟨left, fun mem => out.queue (queue mem), fun i named o mem => out.orders i named o (orders mem)⟩

theorem State.Outside.of_frame (out : s.Outside b h m) (left : t.Left b h m) (arbiter : t.arbiter = s.arbiter)
    (heater : t.heater = s.heater) : t.Outside b h m :=
  out.of_left left (by rw [arbiter]; exact List.Subset.refl _) (by rw [heater]; exact List.Subset.refl _)

theorem State.Outside.post (out : s.Outside b h m) {k : EventKind} (loud : k.background = true) (n : Nat) :
    (s.post k n).Outside b h m := by
  obtain ⟨-, -, -, -, heater, arbiter, -⟩ := s.post_frame k n
  exact out.of_frame (out.left.post loud n) arbiter heater

theorem State.Outside.modJoint (out : s.Outside b h m) {k : Nat} (other : k ∉ m) (f : Joint → Joint) :
    (s.modJoint k f).Outside b h m := out.of_frame (out.left.modJoint other f) rfl rfl

theorem State.Outside.changeJoint (out : s.Outside b h m) {k : Nat} (other : k ∉ m) (f : Joint → Joint) :
    (s.changeJoint k f).Outside b h m := by
  obtain ⟨-, -, -, heater, arbiter, -⟩ := s.changeJoint_frame k f
  exact out.of_frame (out.left.changeJoint other f) arbiter heater

theorem State.Outside.setJointState (out : s.Outside b h m) (g : HeadNo) (st : JointState) :
    (s.setJointState g st).Outside b h m := by
  obtain ⟨-, -, -, heater, arbiter, -⟩ := s.setJointState_frame g st
  exact out.of_frame (out.left.setJointState g st) arbiter heater

theorem State.Outside.setPocket (out : s.Outside b h m) (p : PocketNo) (x : Pocket) : (s.setPocket p x).Outside b h m :=
  out.of_left (out.left.of_same rfl rfl rfl fun _ _ => rfl) (List.Subset.refl _) (List.Subset.refl _)

theorem State.Outside.order_joint (out : s.Outside b h m) {o : HeatOrder} (waits : o ∈ s.heater.orders) : o.joint ∉ m :=
  fun mem => out.orders _ mem o waits rfl

/-! ### A serving step (R117) -/

theorem State.Outside.serveInto (out : s.Outside b h m) {o : HeatOrder} (waits : o ∈ s.heater.orders) (p : PocketNo) :
    (s.serveInto p o).Outside b h m := by
  refine out.of_left ?_ (List.Subset.refl _) List.erase_subset
  refine State.Left.of_same (State.Left.modJoint (left := ?_) (out.order_joint waits) (fun j => { j with pocket := some p }))
    rfl rfl rfl fun _ _ => rfl
  exact out.left.of_same rfl rfl rfl fun _ _ => rfl

theorem State.Outside.serveTurns (out : s.Outside b h m) (n : Nat) : (s.serveTurns n).Outside b h m := by
  induction n generalizing s with
  | zero => exact out
  | succ n ih =>
    rw [State.serveTurns]
    split
    next p o _ serves => exact ih (out.serveInto (List.mem_of_find?_eq_some serves) p)
    next => exact out
    next => exact out

theorem State.Outside.postStarved (out : s.Outside b h m) (cs : List RivetCode) : (s.postStarved cs).Outside b h m := by
  induction cs generalizing s with
  | nil => exact out
  | cons c cs ih => exact ih (out.post rfl _)

theorem State.Outside.serve (out : s.Outside b h m) : s.serve.Outside b h m := by
  rw [State.serve]
  split
  next => exact (out.serveTurns _).postStarved _
  next => exact out

/-! ### Grants (R127, R129) -/

theorem State.Outside.grantFront (out : s.Outside b h m) (other : g ≠ h) (k : PermitNo) : (s.grantFront k g).Outside b h m := by
  rw [State.grantFront]
  split
  next n p held _ =>
    split
    next c _ =>
      have permit : (s.setPermit k (some ⟨g, n, c, none⟩)).Left b h m := out.left.of_same rfl rfl rfl fun _ _ => rfl
      have phased := (permit.modHead (f := fun x => { x with rivetWait := .stopped }) other fun i mem =>
        permit.unheld i mem g).enterPhase other .feed s.station.feedTime (.takeRivet p)
      have started : (((s.setPermit k (some ⟨g, n, c, none⟩)).modHead g (fun x => { x with rivetWait := .stopped })).enterPhase
          g .feed s.station.feedTime (.takeRivet p)).Outside b h m :=
        out.of_left phased (List.Subset.refl _) (List.Subset.refl _)
      exact (((started.setJointState g .setting).setPocket p .empty).modJoint (out.left.not_held held) _).serve
    next => exact out
  next => exact out
  next => exact out

theorem State.Outside.grantTurns (out : s.Outside b h m) (n : Nat) : (s.grantTurns n).Outside b h m := by
  induction n generalizing s with
  | zero => exact out
  | succ n ih =>
    rw [State.grantTurns]
    split
    next k g rest _ queue =>
      have other : g ≠ h := fun same => out.queue (by rw [queue, same]; exact List.mem_cons_self)
      have left : (s.setPermitQueue rest).Outside b h m :=
        out.of_left (out.left.of_same rfl rfl rfl fun _ _ => rfl)
          (by rw [queue]; exact List.subset_cons_self g rest) (List.Subset.refl _)
      exact ih (left.grantFront other k)
    next => exact out
    next => exact out

theorem State.Outside.grantAll (out : s.Outside b h m) : s.grantAll.Outside b h m := out.grantTurns _

/-- A head in FAULT asks for no permit. -/
theorem State.Outside.joinPermitQueue (out : s.Outside b h m) (g : HeadNo) : (s.joinPermitQueue g).Outside b h m := by
  by_cases same : g = h
  · rw [State.joinPermitQueue_stays (.inl fun asks => ?_)]
    · exact out
    · have waits := asks.1
      rw [same, out.left.fault] at waits
      exact absurd waits nofun
  · unfold State.joinPermitQueue
    split
    next =>
      refine ⟨out.left.of_same rfl rfl rfl fun _ _ => rfl, fun mem => ?_, out.orders⟩
      rcases List.mem_cons.1 ((insertBy_perm s.hotterThan g s.arbiter.queue).mem_iff.1 mem) with is | waits
      · exact same is.symm
      · exact out.queue waits
    next => exact out

theorem State.Outside.requestPermit (out : s.Outside b h m) (g : HeadNo) : (s.requestPermit g).Outside b h m :=
  (out.joinPermitQueue g).grantAll

/-! ### Pockets taken and released (R110, R112, R115) -/

theorem State.Outside.takePocket (out : s.Outside b h m) (p : PocketNo) (other : i ∉ m) : (s.takePocket p i).Outside b h m := by
  have owned := (out.setPocket p ((s.pocket p).withOwner (some i))).modJoint other (fun j => { j with pocket := some p })
  rw [State.takePocket, State.tellReady]
  split
  next => exact owned
  next g _ => exact owned.requestPermit g

theorem State.Outside.handOver (out : s.Outside b h m) (p : PocketNo) : (s.handOver p).Outside b h m := by
  rw [State.handOver]
  split
  next => exact out
  next c _ =>
    split
    next => exact out
    next o found =>
      have left : (s.setOrders (s.heater.orders.erase o)).Outside b h m :=
        out.of_left (out.left.of_same rfl rfl rfl fun _ _ => rfl) (List.Subset.refl _) List.erase_subset
      exact left.takePocket p (out.order_joint (List.mem_of_find?_eq_some found))

theorem State.Outside.releasePocket (out : s.Outside b h m) (p : PocketNo) (other : i ∉ m) : (s.releasePocket p i).Outside b h m :=
  State.Outside.handOver ((out.setPocket p _).modJoint other _) p

theorem State.Outside.filterOrders (out : s.Outside b h m) (keep : HeatOrder → Bool) :
    (s.setOrders (s.heater.orders.filter keep)).Outside b h m :=
  out.of_left (out.left.of_same rfl rfl rfl fun _ _ => rfl) (List.Subset.refl _) (List.filter_subset_self s.heater.orders)

theorem State.Outside.endHeaterUse (out : s.Outside b h m) (other : i ∉ m) : (s.endHeaterUse i).Outside b h m := by
  unfold State.endHeaterUse
  split
  next => exact out.filterOrders _
  next p _ => exact (out.releasePocket p other).filterOrders _

theorem mem_placeOrder {front : Bool} {o x : HeatOrder} {q : List HeatOrder} (mem : x ∈ placeOrder front o q) : x = o ∨ x ∈ q := by
  unfold placeOrder at mem
  split at mem <;> simp only [List.mem_append, List.mem_cons, List.mem_filter, List.not_mem_nil] at mem <;> tauto

theorem State.Outside.seekAs (out : s.Outside b h m) (other : i ∉ m) (c : RivetCode) (cls : OrderClass) (front : Bool) :
    (s.seekAs i c cls front).Outside b h m := by
  rw [State.seekAs]
  split
  next p _ => exact out.takePocket p other
  next =>
    refine State.Outside.serve ⟨out.left.of_same rfl rfl rfl fun _ _ => rfl, out.queue, fun k named o mem => ?_⟩
    rcases mem_placeOrder mem with rfl | waits
    · exact fun same : i = k => other (same ▸ named)
    · exact out.orders k named o waits

theorem State.Outside.preHeat (out : s.Outside b h m) (other : i ∉ m) : (s.preHeat i).Outside b h m := by
  unfold State.preHeat
  split
  next => exact out
  next =>
    split
    next =>
      split
      next c _ => exact out.seekAs other c .preHeat false
      next => exact out
    next => exact out
    next => exact out

/-! ### A dispatch round (R33 to R36) -/

theorem State.Outside.assign (out : s.Outside b h m) (apart : g ≠ h) (other : i ∉ m) (p t : Nat) : (s.assign g p i t).Outside b h m := by
  have claimed := (out.left.changeJoint other (Joint.assignTo g)).setClaim apart (some (travelSpan p t))
  have moved := (claimed.modHead (f := fun x => { x with held := some i, target := some t }) apart
    fun k named same => other (Option.some.inj same ▸ named)).enterPhase apart .travel s.station.travelTime (.move t)
  obtain ⟨-, -, -, heater, arbiter, -⟩ := s.changeJoint_frame i (Joint.assignTo g)
  exact State.Outside.preHeat (out.of_frame moved arbiter heater) other

theorem State.Outside.serveHead (out : s.Outside b h m) (g : HeadNo) : (s.serveHead g).Outside b h m := by
  unfold State.serveHead
  split
  next idle =>
    have apart : g ≠ h := by
      rintro rfl
      rw [out.left.fault] at idle
      exact absurd idle nofun
    split
    next => exact out
    next p _ =>
      split
      next => exact out
      next i found =>
        have pending : (s.joint? i).any (s.eligible g p) = true  :=
          List.find?_some (p := fun i => (s.joint? i).any (s.eligible g p)) found
        have other : i ∉ m := fun named => by
          cases hj : s.joint? i with
          | none => simp [hj] at pending
          | some j => simp [hj, State.eligible, out.left.rejected i named j hj] at pending
        split
        next => exact out
        next t _ => exact out.assign apart other p t
  next => exact out

theorem State.Outside.round (out : s.Outside b h m) : s.round.Outside b h m := by
  rw [State.round]
  split
  next =>
    have heads (gs : List HeadNo) {s : State} (out : s.Outside b h m) : (gs.foldl State.serveHead s).Outside b h m := by
      induction gs generalizing s with
      | nil => exact out
      | cons g gs ih => exact ih (out.serveHead g)
    exact heads _ out
  next => exact out

/-! ### The mode controller's tests (R151, R154, R155) -/

theorem State.Outside.enterMode (out : s.Outside b h m) (mode : Mode) : (s.enterMode mode).Outside b h m :=
  State.Outside.post (out.of_frame (t := { s with control := { s.control with mode, inProgress := mode.progress } })
    (out.left.of_same rfl rfl rfl fun _ _ => rfl) rfl rfl) rfl _

theorem State.Outside.holdTest (out : s.Outside b h m) : s.holdTest.Outside b h m := by
  rw [State.holdTest]
  split <;> [exact out.enterMode _; exact out]

theorem State.Outside.settleJoint (out : s.Outside b h m) (old : Option Pass) : (s.settleJoint old).Outside b h m := by
  have passed : (s.passGone old).Outside b h m := by
    unfold State.passGone State.programTest
    split
    next => split <;> [exact (out.enterMode _).post rfl _; exact out]
    next => exact out
  have drained : (s.passGone old).drainTest.Outside b h m := by
    rw [State.drainTest]
    split <;> [exact passed.enterMode _; exact passed]
  rw [State.settleJoint, State.roundIfPassChanged]
  split <;> [exact drained; exact drained.round]

end Outside

end Sys2Proof.Machine
end

section
/-! O44, second part: a head's fault, step by step (R61). -/

namespace Sys2Proof.Machine
set_option Elab.async false

/-! ## A report sent is still an occurrence (R167) -/

/-- A latch's record but for its place. -/
def Held.told (r : Held) : Held := { r with place := .queued }

theorem State.Occurred.of_told {s t u : State} {k : EventKind} {n : Nat} {m : Mode} (occurred : s.Occurred t k n m)
    (same : (u.latch k).held.map Held.told = (t.latch k).held.map Held.told) : s.Occurred u k n m := by
  have placed {r : Held} (found : ∃ place, (t.latch k).held = some { r with place }) :
      ∃ place, (u.latch k).held = some { r with place } := by
    obtain ⟨place, held⟩ := found
    rw [held, Option.map_some, Option.map_eq_some_iff] at same
    obtain ⟨r', held', equal⟩ := same
    refine ⟨r'.place, held'.trans (congrArg some ?_)⟩
    injection equal with _ subject first mode count
    cases r'
    simp_all
  unfold State.Occurred at occurred ⊢
  cases held : (s.latch k).held with
  | none =>
    rw [held] at occurred
    exact placed (r := ⟨.queued, n, s.time, m, 1⟩) occurred
  | some r =>
    rw [held] at occurred
    exact placed (r := { r with count := min 255 (r.count + 1) }) occurred

theorem State.fillTurns_told (n : Nat) (s : State) (l : EventKind) :
    ((s.fillTurns n).latch l).held.map Held.told = (s.latch l).held.map Held.told := by
  induction n generalizing s with
  | zero => rfl
  | succ n ih =>
    rw [State.fillTurns, ih]
    rcases s.fillOne_cases with ⟨same, -⟩ | ⟨k, r, -, held, -, enters⟩
    · rw [same]
    · rw [enters, State.enqueueReport_latch]
      split
      next here => rw [← here, held]; rfl
      next => rfl

theorem State.sendRecord_told (s : State) (k l : EventKind) :
    ((s.sendRecord k).latch l).held.map Held.told = (s.latch l).held.map Held.told := by
  rw [State.sendRecord_latch]
  split
  next here => rw [← here, Option.map_map]; rfl
  next => rfl

theorem State.startReport_told (s : State) (k l : EventKind) :
    ((s.startReport k).latch l).held.map Held.told = (s.latch l).held.map Held.told := by
  have sent : (s.startReport k).latch l = (s.sendRecord k).fill.latch l := by
    rw [State.startReport]
    exact State.latch_congr (State.startFrame_reports _ _) l
  rw [sent, State.fill, State.fillTurns_told, State.sendRecord_told]

theorem State.transmitTurn_told (s : State) (l : EventKind) :
    (s.transmitTurn.latch l).held.map Held.told = (s.latch l).held.map Held.told := by
  unfold State.transmitTurn State.chooseFrame
  split
  next =>
    split
    next => rfl
    next => rfl
    next =>
      split
      next k _ => exact s.startReport_told k l
      next => rfl
  next => rfl

theorem State.Occurred.transmitTurn {s t : State} {k : EventKind} {n : Nat} {m : Mode} (occurred : s.Occurred t k n m) :
    s.Occurred t.transmitTurn k n m := occurred.of_told (t.transmitTurn_told k)

/-! ## The head's own record and its joint (steps 1 to 3) -/

/-- A head's record once it has faulted and left its joint. -/
def Head.struck (x : Head) (cause : FaultCause) (now : Stamp) : Head :=
  { x with
    state := .fault, subPhase := none, held := none, target := none, outcome := none, rate := none, phaseTimer := none
    rivetWait := .stopped, fault := some ⟨cause, x.state, x.held, now⟩, order := some .stop }

/-- The state in which a faulting head has its fault record and has sent STOP. -/
def State.stopped (s : State) (h : HeadNo) (cause : FaultCause) : State :=
  { s.setHead h { (s.head h).faulted cause s.time with order := some .stop } with
    outgoing := s.outgoing ++ [.drive h .stop] }

/-- The state in which it has left its joint besides. -/
def State.struck (s : State) (h : HeadNo) (cause : FaultCause) : State :=
  match (s.head h).held with
  | none => s.stopped h cause
  | some i => ((s.stopped h cause).rejectHeld i (s.head h).state).modHead h (fun x => { x with held := none })

/-- A joint's use of the heater ends, where there is a joint. -/
def State.endUse (s : State) : Option Nat → State
  | none => s
  | some i => s.endHeaterUse i

section Steps

variable {s : State} {h : HeadNo} {cause : FaultCause} {i : Nat}

theorem State.stopped_eq (s : State) (h : HeadNo) (cause : FaultCause) :
    (s.modHead h (fun x => x.faulted cause s.time)).sendDrive h .stop = s.stopped h cause := by
  rw [State.sendDrive, State.modHead_eq, State.modHead_eq, State.setHead_setHead, State.setHead_head]
  rfl

theorem State.stopped_head : (s.stopped h cause).head h = { (s.head h).faulted cause s.time with order := some .stop } :=
  s.setHead_head h _

theorem State.faultHead_eq : s.faultHead h cause =
    ((((s.struck h cause).dropDrill h).dropPermit h).endUse (s.head h).held).post .headFault h.val := by
  unfold State.faultHead State.struck
  simp only [State.stopped_eq]
  cases (s.head h).held <;> rfl

theorem State.struck_same : (s.struck h cause).dispatcher = s.dispatcher ∧ (s.struck h cause).signature = s.signature ∧
    (s.struck h cause).heater = s.heater ∧ (s.struck h cause).arbiter = s.arbiter ∧ (s.struck h cause).control = s.control ∧
    (s.struck h cause).time = s.time ∧ (s.struck h cause).outgoing = s.outgoing ++ [.drive h .stop] := by
  unfold State.struck
  split
  next => exact ⟨rfl, rfl, rfl, rfl, rfl, rfl, rfl⟩
  next i _ =>
    obtain ⟨dispatcher, -, signature, heater, arbiter, control, -, time, outgoing, -⟩ :=
      (s.stopped h cause).rejectHeld_frame i (s.head h).state
    exact ⟨dispatcher, signature, heater, arbiter, control, time, outgoing⟩

theorem State.struck_head : (s.struck h cause).head h = (s.head h).struck cause s.time := by
  unfold State.struck
  split
  next none =>
    rw [State.stopped_head]
    simp only [Head.faulted, Head.struck, none]
  next i _ =>
    have heads := ((s.stopped h cause).rejectHeld_frame i (s.head h).state).2.1
    rw [State.head_modHead, if_pos rfl, State.head, heads, ← State.head, State.stopped_head]
    rfl

theorem State.struck_head_ne {g : HeadNo} (other : g ≠ h) : (s.struck h cause).head g = s.head g := by
  have kept : (s.stopped h cause).head g = s.head g := s.setHead_head_ne _ other
  unfold State.struck
  split
  next => exact kept
  next i _ =>
    have heads := ((s.stopped h cause).rejectHeld_frame i (s.head h).state).2.1
    rw [State.head_modHead, if_neg other.symm, State.head, heads, ← State.head, kept]

theorem State.recompute_latch {k : EventKind} (quiet : k.background = false) (was : Bool) :
    (s.recompute was).latch k = s.latch k := by
  rw [State.recompute, State.postBlocked_latch_ne (by rintro rfl; exact absurd quiet nofun)]
  unfold State.postAdvance
  split
  next =>
    split
    next => exact State.post_latch_ne (by rintro rfl; exact absurd quiet nofun) _
    next => rfl
  next => rfl
  next => rfl

theorem State.struck_latch {k : EventKind} (quiet : k.background = false) (other : k ≠ .jointRejected) :
    (s.struck h cause).latch k = s.latch k := by
  unfold State.struck
  split
  next => rfl
  next i _ => exact (State.recompute_latch quiet _).trans (State.post_latch_ne other.symm _)

theorem State.struck_rejects (held : (s.head h).held = some i) : s.Occurred (s.struck h cause) .jointRejected i s.mode := by
  unfold State.struck
  rw [held]
  refine (State.Occurred.post (s := s) (u := (s.stopped h cause).modJoint i (fun j =>
    j.reject .headFault j.state.unfed (some (s.head h).state))) (k := .jointRejected) rfl rfl i).of_latch ?_
  exact State.recompute_latch rfl _

theorem State.struck_joint (held : (s.head h).held = some i) (k : Nat) : (s.struck h cause).joint? k =
    if i = k then (s.joint? k).map (fun j => j.reject .headFault j.state.unfed (some (s.head h).state)) else s.joint? k := by
  have joints : (s.struck h cause).table.joints = ((s.stopped h cause).modJoint i (fun j =>
      j.reject .headFault j.state.unfed (some (s.head h).state))).table.joints := by
    unfold State.struck
    rw [held]
    refine (State.recompute_joints _ _).trans ?_
    rw [(State.post_frame _ _ _).1]
  rw [State.joint?, joints]
  exact State.joint_modJoint (s.stopped h cause) i k _

theorem State.struck_joint_ne {k : Nat} (free : (s.head h).held ≠ some k) : (s.struck h cause).joint? k = s.joint? k := by
  cases held : (s.head h).held with
  | none => simp only [State.struck, held]; rfl
  | some i => rw [State.struck_joint held, if_neg fun same : i = k => free (by rw [held, same])]

/-- The record of the joint the head held (R6). -/
theorem Joint.reject_headFault (j : Joint) (phase : HeadState) : j.reject .headFault j.state.unfed (some phase) = { j with
    state := .rejected
    rejection := some ⟨.headFault, decide (j.state ∈ [JointState.assigned, .drilling, .drilled])⟩
    phaseAtEnd := some phase } := by
  have unfed : j.state.unfed = decide (j.state ∈ [JointState.assigned, .drilling, .drilled]) := by cases j.state <;> rfl
  rw [Joint.reject, unfed]

/-! ## Channel, permit and heater (steps 4 to 6) -/

theorem State.struck_left (s : State) (h : HeadNo) (cause : FaultCause) :
    (s.struck h cause).Left (s.struck h cause) h none :=
  ⟨rfl, rfl, fun _ _ => rfl, by rw [State.struck_head]; rfl, by rw [State.struck_head]; rfl, fun _ _ => rfl, nofun, nofun⟩

theorem State.struck_left_joint (held : (s.head h).held = some i) (alone : ∀ g, g ≠ h → (s.head g).held ≠ some i) :
    (s.struck h cause).Left (s.struck h cause) h (some i) := by
  obtain ⟨head, claim, latch, fault, free, -⟩ := s.struck_left h cause
  refine ⟨head, claim, latch, fault, free, fun _ _ => rfl, fun k mem j hj => ?_, fun k mem g => ?_⟩
  · obtain rfl := Option.some.inj mem
    rw [State.struck_joint held, if_pos rfl, Option.map_eq_some_iff] at hj
    obtain ⟨j', -, rfl⟩ := hj
    rfl
  · obtain rfl := Option.some.inj mem
    by_cases same : g = h
    · rw [same, free]; nofun
    · rw [State.struck_head_ne same]
      exact alone g same

variable {b : State} {m : Option Nat}

theorem State.Left.dropPermit (left : s.Left b h m) (out : s.permitOf h = none ∨ h ∉ s.arbiter.queue)
    (orders : ∀ i ∈ m, ∀ o ∈ s.heater.orders, o.joint ≠ i) : (s.dropPermit h).Outside b h m := by
  unfold State.dropPermit
  split
  next k permit =>
    have out := out.resolve_left (by rw [permit]; nofun)
    obtain ⟨table, dispatcher, heads, heater, arbiter, -, reports, -⟩ := s.freeSetChannel_frame k h
    have freed : ((s.freeSetChannel k h).setPermit k none).Left b h m := by
      refine left.of_same (congrArg JointTable.joints table) heads dispatcher fun l _ => State.latch_congr ?_ l
      exact reports
    refine State.Outside.grantAll ⟨freed, ?_, ?_⟩
    · rwa [show ((s.freeSetChannel k h).setPermit k none).arbiter.queue = s.arbiter.queue from
        show (s.freeSetChannel k h).arbiter.queue = _ from congrArg Arbiter.queue arbiter]
    · rwa [show ((s.freeSetChannel k h).setPermit k none).heater = s.heater from heater]
  next =>
    refine ⟨left.of_same rfl rfl rfl fun _ _ => rfl, fun mem => ?_, orders⟩
    simp [State.withdraw, State.setPermitQueue] at mem

/-- The faulting head's joint leaves the heater: what it had ordered is dropped, and it has no pocket. -/
theorem State.Left.dropPermit_endHeaterUse (left : s.Left b h (some i)) (out : s.permitOf h = none ∨ h ∉ s.arbiter.queue)
    (orders : s.permitOf h = none ∨ ∀ o ∈ s.heater.orders, o.joint ≠ i) (noPocket : (s.joint? i).bind (·.pocket) = none) :
    ((s.dropPermit h).endHeaterUse i).Outside b h (some i) := by
  by_cases placed : ∀ o ∈ s.heater.orders, o.joint ≠ i
  · have dropped := left.dropPermit out fun k mem => Option.some.inj mem ▸ placed
    have joint : (s.dropPermit h).joint? i = s.joint? i := (dropped.left.joint i rfl).trans (left.joint i rfl).symm
    rw [State.endHeaterUse_noPocket (by rw [joint, noPocket])]
    exact dropped.filterOrders _
  · have none := orders.resolve_right placed
    have dropped : s.dropPermit h = s.withdraw h := by rw [State.dropPermit, none]
    rw [dropped, State.endHeaterUse_noPocket (by exact noPocket)]
    refine ⟨left.of_same rfl rfl rfl fun _ _ => rfl, fun mem => ?_, fun k mem o waits => ?_⟩
    · simp [State.withdraw, State.setPermitQueue, State.setOrders] at mem
    · obtain rfl := Option.some.inj mem
      simpa using (List.mem_filter.1 waits).2

end Steps

end Sys2Proof.Machine
end

section
/-! O44: a fault or a timeout (R42, R58, R61, R149). -/

namespace Sys2Proof.Machine
set_option Elab.async false

/-- The state in which a faulting head has left its channel, its permit and the heater, its report not yet posted. -/
def State.vacated (s : State) (h : HeadNo) (cause : FaultCause) : State :=
  (((s.struck h cause).dropDrill h).dropPermit h).endUse (s.head h).held

/-- The conditions under which a head that waits in a queue holds nothing of what it waits for. -/
def State.WaitsForOne (s : State) (h : HeadNo) : Prop :=
  (s.drillChannelOf h = none ∨ h ∉ s.signature.drillQueue) ∧ (s.permitOf h = none ∨ h ∉ s.arbiter.queue)

section Vacated

variable {s b t : State} {h : HeadNo} {cause : FaultCause} {i : Nat} {m : Option Nat} {j : Joint}

theorem State.permitOf_congr (arbiter : t.arbiter = s.arbiter) (h : HeadNo) : t.permitOf h = s.permitOf h := by
  simp only [State.permitOf, State.permit, arbiter]

theorem State.channel_congr (signature : t.signature = s.signature) (d : ChannelNo) : t.channel d = s.channel d := by
  rw [State.channel, signature, State.channel]

theorem State.drillChannelOf_congr (signature : t.signature = s.signature) (h : HeadNo) :
    t.drillChannelOf h = s.drillChannelOf h := by
  simp only [State.drillChannelOf, State.channel_congr signature]

theorem State.vacated_same : (s.vacated h cause).control = s.control ∧ (s.vacated h cause).time = s.time := by
  obtain ⟨-, -, -, -, control, time, -⟩ := s.struck_same (h := h) (cause := cause)
  obtain ⟨-, -, -, control', -, time', -⟩ := (s.struck h cause).dropDrill_frame h
  obtain ⟨-, control'', -, time'', -⟩ := ((s.struck h cause).dropDrill h).dropPermit_frame h
  have used (t : State) : (t.endUse (s.head h).held).control = t.control ∧ (t.endUse (s.head h).held).time = t.time := by
    cases (s.head h).held with
    | none => exact ⟨rfl, rfl⟩
    | some i =>
      obtain ⟨-, -, control, -, time, -⟩ := t.endHeaterUse_frame i
      exact ⟨control, time⟩
  obtain ⟨ended, ended'⟩ := used (((s.struck h cause).dropDrill h).dropPermit h)
  exact ⟨ended.trans (control''.trans (control'.trans control)), ended'.trans (time''.trans (time'.trans time))⟩

theorem State.WaitsForOne.dropDrill (one : s.WaitsForOne h) (left : (s.struck h cause).Left b h m) :
    ((s.struck h cause).dropDrill h).Left b h m ∧
      (((s.struck h cause).dropDrill h).permitOf h = none ∨ h ∉ ((s.struck h cause).dropDrill h).arbiter.queue) := by
  obtain ⟨-, signature, -, arbiter, -⟩ := s.struck_same (h := h) (cause := cause)
  obtain ⟨-, -, arbiter', -⟩ := (s.struck h cause).dropDrill_frame h
  obtain ⟨drill, permit⟩ := one
  refine ⟨left.dropDrill ?_, ?_⟩
  · rwa [State.drillChannelOf_congr signature, signature]
  · rwa [State.permitOf_congr (arbiter'.trans arbiter), arbiter', arbiter]

theorem State.WaitsForOne.vacated (one : s.WaitsForOne h) : (s.vacated h cause).Outside (s.struck h cause) h none := by
  obtain ⟨left, out⟩ := one.dropDrill (s.struck_left h cause)
  have dropped := left.dropPermit out nofun
  unfold State.vacated
  cases (s.head h).held with
  | none => exact dropped
  | some i => exact dropped.endHeaterUse (i := i) nofun

theorem State.WaitsForOne.vacated_joint (one : s.WaitsForOne h) (held : (s.head h).held = some i) (hj : s.joint? i = some j)
    (alone : ∀ g, g ≠ h → (s.head g).held ≠ some i) (noPocket : j.pocket = none)
    (orders : s.permitOf h = none ∨ ∀ o ∈ s.heater.orders, o.joint ≠ i) :
    (s.vacated h cause).Outside (s.struck h cause) h (some i) := by
  obtain ⟨-, -, heater, arbiter, -⟩ := s.struck_same (h := h) (cause := cause)
  obtain ⟨-, heater', arbiter', -⟩ := (s.struck h cause).dropDrill_frame h
  obtain ⟨left, out⟩ := one.dropDrill (s.struck_left_joint (cause := cause) held alone)
  unfold State.vacated
  rw [held]
  refine left.dropPermit_endHeaterUse out ?_ ?_
  · rwa [State.permitOf_congr (arbiter'.trans arbiter), heater', heater]
  · rw [left.joint i rfl, State.struck_joint held, if_pos rfl, hj]
    exact noPocket

/-! ## The report of the fault (step 7) -/

/-- What is left aside stays so from the posting of a report on. -/
theorem State.Outside.posted (out : s.Outside b h m) (k : EventKind) (n : Nat) :
    (s.post k n).Outside (s.post k n) h m := by
  obtain ⟨table, -, heads, -, heater, arbiter, -⟩ := s.post_frame k n
  have head (g : HeadNo) : (s.post k n).head g = s.head g := by rw [State.head, heads, State.head]
  have joint (i : Nat) : (s.post k n).joint? i = s.joint? i := by rw [State.joint?, table, State.joint?]
  refine ⟨⟨rfl, rfl, fun _ _ => rfl, ?_, ?_, fun _ _ => rfl, ?_, ?_⟩, ?_, ?_⟩
  · rw [head, out.left.fault]
  · rw [head, out.left.free]
  · simpa only [joint] using out.left.rejected
  · simpa only [head] using out.left.unheld
  · rw [arbiter]; exact out.queue
  · rw [heater]; exact out.orders

theorem State.faultHead_vacated (s : State) (h : HeadNo) (cause : FaultCause) :
    s.faultHead h cause = (s.vacated h cause).post .headFault h.val := State.faultHead_eq

theorem State.WaitsForOne.faultHead (one : s.WaitsForOne h) :
    (s.faultHead h cause).Outside (s.faultHead h cause) h none ∧
      (s.faultHead h cause).head h = (s.head h).struck cause s.time ∧ (s.faultHead h cause).claim h = s.claim h ∧
      s.Occurred (s.faultHead h cause) .headFault h.val s.mode ∧
      (s.faultHead h cause).latch .armFailed = s.latch .armFailed := by
  have out := one.vacated (cause := cause)
  obtain ⟨dispatcher, -⟩ := s.struck_same (h := h) (cause := cause)
  obtain ⟨control, time⟩ := s.vacated_same (h := h) (cause := cause)
  obtain ⟨-, dispatcher', heads, -⟩ := (s.vacated h cause).post_frame .headFault h.val
  have latch {k : EventKind} (quiet : k.background = false) (other : k ≠ .jointRejected) :
      (s.vacated h cause).latch k = s.latch k := (out.left.latch k quiet).trans (State.struck_latch quiet other)
  rw [State.faultHead_vacated]
  refine ⟨out.posted _ _, ?_, ?_, ?_, ?_⟩
  · rw [State.head, heads, ← State.head, out.left.head, State.struck_head]
  · rw [State.claim, dispatcher', ← State.claim, out.left.claim, State.claim, dispatcher, State.claim]
  · have occurred := State.Occurred.post (latch (k := .headFault) rfl nofun) time h.val
    rwa [show (s.vacated h cause).mode = s.mode from congrArg ModeControl.mode control] at occurred
  · exact (State.post_latch_ne (k := .headFault) (l := .armFailed) nofun _).trans (latch rfl nofun)

theorem State.WaitsForOne.faultHead_joint (one : s.WaitsForOne h) (held : (s.head h).held = some i) (hj : s.joint? i = some j)
    (alone : ∀ g, g ≠ h → (s.head g).held ≠ some i) (noPocket : j.pocket = none)
    (orders : s.permitOf h = none ∨ ∀ o ∈ s.heater.orders, o.joint ≠ i) :
    (s.faultHead h cause).Outside (s.faultHead h cause) h (some i) ∧
      (s.faultHead h cause).joint? i = some (j.reject .headFault j.state.unfed (some (s.head h).state)) ∧
      s.Occurred (s.faultHead h cause) .jointRejected i s.mode := by
  have out := one.vacated_joint (cause := cause) held hj alone noPocket orders
  have table := ((s.vacated h cause).post_frame .headFault h.val).1
  rw [State.faultHead_vacated]
  refine ⟨out.posted _ _, ?_, ?_⟩
  · rw [State.joint?, table, ← State.joint?, out.left.joint i rfl, State.struck_joint held, if_pos rfl, hj]
    rfl
  · exact (State.struck_rejects (cause := cause) held).of_latch
      ((State.post_latch_ne (k := .headFault) (l := .jointRejected) nofun _).trans (out.left.latch _ rfl))

end Vacated

/-! ## What may follow (R149, R59) -/

section Event

variable {s : State} {h : HeadNo} {cause : FaultCause} {m : Option Nat}

theorem State.faultEvent_stays (working : ¬ (s.mode = .arming ∧ (s.head h).state = .homing)) :
    s.faultEvent h cause = (s.faultHead h cause).holdTest.settleJoint s.table.currentPass := by
  rw [State.faultEvent]
  simp only [if_neg working]

theorem State.failArm_mode : s.failArm.mode = .setup := by
  simp [State.failArm, State.mode]

/-- A homing fault in ARMING ends ARM, and nothing more follows. -/
theorem State.faultEvent_fails (failing : s.mode = .arming ∧ (s.head h).state = .homing) :
    s.faultEvent h cause = (s.faultHead h cause).failArm := by
  rw [State.faultEvent]
  simp only [if_pos failing]
  have setup := (s.faultHead h cause).failArm_mode
  rw [State.holdTest_elsewhere (by rw [setup]; nofun),
    State.settleJoint_elsewhere (by rw [setup]; nofun) (by rw [setup]; nofun)]

theorem State.failArm_latch_ne {k : EventKind} (quiet : k.background = false) (other : k ≠ .armFailed) :
    s.failArm.latch k = s.latch k :=
  (State.post_latch_ne other.symm _).trans (State.enterMode_latch_ne (by rintro rfl; exact absurd quiet nofun) _)

theorem State.faultEvent_same (out : (s.faultHead h cause).Outside (s.faultHead h cause) h none) :
    (s.faultEvent h cause).head h = (s.faultHead h cause).head h ∧
      (s.faultEvent h cause).claim h = (s.faultHead h cause).claim h ∧
      (s.faultEvent h cause).latch .headFault = (s.faultHead h cause).latch .headFault := by
  by_cases failing : s.mode = .arming ∧ (s.head h).state = .homing
  · obtain ⟨dispatcher, heads, -⟩ := (s.faultHead h cause).failArm_frame
    rw [State.faultEvent_fails failing]
    refine ⟨?_, ?_, State.failArm_latch_ne rfl nofun⟩
    · rw [State.head, heads, State.head]
    · rw [State.claim, dispatcher, State.claim]
  · have after := out.holdTest.settleJoint s.table.currentPass
    rw [State.faultEvent_stays failing]
    exact ⟨after.left.head, after.left.claim, after.left.latch _ rfl⟩

/-! ## The drill channel (step 4) -/

theorem setChannelOf_ne_drill : ∀ k : PermitNo, ∀ d ∈ ([0, 1] : List ChannelNo), setChannelOf k ≠ d := by decide

theorem State.drillChannelOf_ne_setChannel {d : ChannelNo} (holds : s.drillChannelOf h = some d) (k : PermitNo) :
    setChannelOf k ≠ d := setChannelOf_ne_drill k d (List.mem_of_find?_eq_some holds)

theorem State.dropPermit_channel {d : ChannelNo} (drill : ∀ k, setChannelOf k ≠ d) : (s.dropPermit h).channel d = s.channel d := by
  unfold State.dropPermit
  split
  next k _ =>
    refine (State.channel_congr (State.grantAll_frame _).2.1 d).trans ?_
    show (s.freeSetChannel k h).channel d = s.channel d
    unfold State.freeSetChannel
    split
    next => rw [State.channel_modChannel, if_neg (drill k)]
    next => rfl
  next => rfl

theorem State.vacated_channel {d : ChannelNo} (holds : s.drillChannelOf h = some d) (nobody : s.signature.drillQueue = []) :
    (s.vacated h cause).channel d = { s.channel d with holder := none, ending := some .cutShort } := by
  obtain ⟨-, signature, -⟩ := s.struck_same (h := h) (cause := cause)
  have used (t : State) : (t.endUse (s.head h).held).channel d = t.channel d := by
    cases (s.head h).held with
    | none => rfl
    | some i => exact State.channel_congr (t.endHeaterUse_frame i).2.1 d
  have cut : ((s.struck h cause).dropDrill h).channel d = ((s.channel d).cutShort).free := by
    have empty : ((s.struck h cause).modChannel d Channel.cutShort).signature.drillQueue = [] := by
      show (s.struck h cause).signature.drillQueue = []
      rw [signature, nobody]
    have was : ((s.struck h cause).modChannel d Channel.cutShort).channel d = (s.channel d).cutShort := by
      rw [State.channel_modChannel, if_pos rfl, State.channel_congr signature]
    rw [State.dropDrill, State.drillChannelOf_congr signature, holds]
    exact (congrArg (State.channel · d) (State.releaseDrill_nobody empty was)).trans (by
      rw [State.channel_setChannel, if_pos rfl])
  unfold State.vacated
  rw [used, State.dropPermit_channel fun k => State.drillChannelOf_ne_setChannel holds k, cut]
  rfl

theorem State.faultEvent_channel (d : ChannelNo) : (s.faultEvent h cause).channel d = (s.vacated h cause).channel d := by
  have posted : (s.faultHead h cause).channel d = (s.vacated h cause).channel d := by
    rw [State.faultHead_vacated]
    exact State.channel_congr ((s.vacated h cause).post_frame .headFault h.val).2.2.2.1 d
  by_cases failing : s.mode = .arming ∧ (s.head h).state = .homing
  · rw [State.faultEvent_fails failing, ← posted]
    exact State.channel_congr (s.faultHead h cause).failArm_frame.2.2.1 d
  · rw [State.faultEvent_stays failing, ← posted]
    refine State.channel_congr ?_ d
    rw [(State.settleJoint_frame _ _).1, (State.holdTest_frame _).2.2.2.1]

end Event

/-! ## A part in which nobody waits -/

/-- Tables, heads, dispatcher, time and orders sent are as they were, and so is the heater but for the heat orders. -/
structure State.Beside (t b : State) : Prop where
  table : t.table = b.table
  heads : t.heads = b.heads
  dispatcher : t.dispatcher = b.dispatcher
  heater : t.heater = { b.heater with orders := t.heater.orders }
  time : t.time = b.time
  outgoing : t.outgoing = b.outgoing

section Beside

variable {s t b : State} {h : HeadNo} {cause : FaultCause}

theorem State.Beside.of_same (beside : s.Beside b) (table : t.table = s.table) (heads : t.heads = s.heads)
    (dispatcher : t.dispatcher = s.dispatcher) (heater : t.heater = s.heater) (time : t.time = s.time)
    (outgoing : t.outgoing = s.outgoing) : t.Beside b :=
  ⟨table.trans beside.table, heads.trans beside.heads, dispatcher.trans beside.dispatcher,
    by rw [heater]; exact beside.heater, time.trans beside.time, outgoing.trans beside.outgoing⟩

theorem State.Beside.dropDrill (beside : s.Beside b) (nobody : s.signature.drillQueue = []) : (s.dropDrill h).Beside b := by
  unfold State.dropDrill
  split
  next c _ =>
    rw [State.releaseDrill_nobody (s := s.modChannel c Channel.cutShort) nobody rfl]
    exact beside.of_same rfl rfl rfl rfl rfl rfl
  next => exact beside.of_same rfl rfl rfl rfl rfl rfl

theorem State.Beside.dropPermit (beside : s.Beside b) (nobody : s.arbiter.queue = []) : (s.dropPermit h).Beside b := by
  unfold State.dropPermit
  split
  next k _ =>
    obtain ⟨table, dispatcher, heads, heater, arbiter, -, -, -, time, outgoing, -⟩ := s.freeSetChannel_frame k h
    have empty : ((s.freeSetChannel k h).setPermit k none).arbiter.queue = [] := by
      show (s.freeSetChannel k h).arbiter.queue = []
      rw [arbiter, nobody]
    rw [State.grantAll_nobody empty]
    exact beside.of_same table heads dispatcher heater time outgoing
  next => exact beside.of_same rfl rfl rfl rfl rfl rfl

theorem State.Beside.endUse (beside : s.Beside b) {m : Option Nat}
    (noPocket : ∀ i ∈ m, (b.joint? i).bind (·.pocket) = none) : (s.endUse m).Beside b := by
  cases m with
  | none => exact beside
  | some i =>
    have joint : s.joint? i = b.joint? i := by rw [State.joint?, beside.table, State.joint?]
    rw [State.endUse, State.endHeaterUse_noPocket (by rw [joint]; exact noPocket i rfl)]
    exact ⟨beside.table, beside.heads, beside.dispatcher, congrArg (fun x : Heater =>
      { x with orders := s.heater.orders.filter (fun o => o.joint ≠ i) }) beside.heater, beside.time, beside.outgoing⟩

theorem State.settleJoint_still {old : Option Pass} (still : s.mode ≠ .running) : s.settleJoint old = s.drainTest := by
  have after : s.drainTest.mode ≠ .running := by
    rw [State.drainTest]
    split <;> [rw [State.enterMode_mode]; exact still]
    nofun
  rw [State.settleJoint, State.passGone_elsewhere still, State.roundIfPassChanged, State.round_elsewhere after, ite_self]

theorem State.Beside.settleJoint (beside : s.Beside b) (still : s.mode ≠ .running) (old : Option Pass) :
    (s.holdTest.settleJoint old).Beside b := by
  have after : s.holdTest.mode ≠ .running := by
    rw [State.holdTest]
    split <;> [rw [State.enterMode_mode]; exact still]
    nofun
  obtain ⟨table, dispatcher, heads, -, heater, -, -, time, outgoing, -⟩ := s.holdTest_frame
  obtain ⟨table', dispatcher', heads', -, heater', -, -, time', outgoing', -⟩ := s.holdTest.drainTest_frame
  rw [State.settleJoint_still after]
  exact (beside.of_same table heads dispatcher heater time outgoing).of_same table' heads' dispatcher' heater' time' outgoing'

theorem State.faultEvent_beside (still : s.mode ≠ .running) (working : s.mode ≠ .arming)
    (noDrill : s.signature.drillQueue = []) (noPermit : s.arbiter.queue = [])
    (noPocket : ∀ i ∈ (s.head h).held, ∀ j, s.joint? i = some j → j.pocket = none) :
    (s.faultEvent h cause).Beside (s.struck h cause) := by
  obtain ⟨-, signature, -, arbiter, -⟩ := s.struck_same (h := h) (cause := cause)
  obtain ⟨-, -, arbiter', -⟩ := (s.struck h cause).dropDrill_frame h
  have start : (s.struck h cause).Beside (s.struck h cause) := ⟨rfl, rfl, rfl, rfl, rfl, rfl⟩
  have dropped := (start.dropDrill (h := h) (by rw [signature, noDrill])).dropPermit (h := h) (by rw [arbiter', arbiter, noPermit])
  have vacated : (s.vacated h cause).Beside (s.struck h cause) := by
    refine dropped.endUse fun i held => ?_
    rw [State.struck_joint held, if_pos rfl]
    cases hj : s.joint? i with
    | none => rfl
    | some j => exact noPocket i held j hj
  obtain ⟨table, dispatcher, heads, -, heater, -, control, -, time, outgoing, -⟩ :=
    (s.vacated h cause).post_frame .headFault h.val
  have posted := vacated.of_same table heads dispatcher heater time outgoing
  have mode : ((s.vacated h cause).post .headFault h.val).mode = s.mode := by
    rw [State.mode, control, State.vacated_same.1, State.mode]
  rw [State.faultEvent_stays fun failing => working failing.1, State.faultHead_vacated]
  exact posted.settleJoint (by rwa [mode]) _

theorem State.struck_datum : (s.struck h cause).table.datum = s.table.datum := by
  unfold State.struck
  split
  next => rfl
  next i _ =>
    show (((s.stopped h cause).rejectHeld i (s.head h).state).table).datum = _
    rw [State.rejectHeld, State.recompute, (State.postBlocked_frame _ _).1, (State.postAdvance_frame _ _).1,
      (State.post_frame _ _ _).1]
    rfl

end Beside

/-! ## The commands -/

theorem HeadState.canFault_iff {x : HeadState} :
    x.canFault = true ↔ x ≠ .parked ∧ x ≠ .stopped ∧ x ≠ .fault ∧ x ≠ .offline := by
  cases x <;> decide

/-- DRIVE_FAULT, or a phase timer that runs out, at a head that can fault. -/
theorem exec_fault {s : State} {h : HeadNo} {code : Byte} {c : Instr} {cause : FaultCause} (quiet : s.Quiet)
    (command : c = .driveFault h code ∧ cause = .drive code ∨
      c = .phaseTimeout h ∧ (s.head h).phaseTimer ≠ none ∧ cause = .timeout (s.head h).state)
    (can : (s.head h).state.canFault = true) : exec c s = .next (s.cleared.faultEvent h cause).transmitTurn := by
  have taken {f : State → State} (effect : f s.cleared = s.cleared.faultEvent h cause) :
      s.command f = (s.cleared.faultEvent h cause).transmitTurn := by
    obtain ⟨link, -⟩ := s.cleared.faultEvent_frame h cause
    obtain ⟨pending, restart, -⟩ := s.cleared.faultEvent_marks h cause
    exact State.command_next quiet effect link restart pending
  rcases command with ⟨rfl, rfl⟩ | ⟨rfl, runs, rfl⟩
  · exact congrArg Host.Outcome.next (taken (if_pos can))
  · refine congrArg Host.Outcome.next (taken (if_pos ?_))
    rw [Bool.and_eq_true]
    exact ⟨Option.isSome_iff_ne_none.2 runs, can⟩

/-- Settles O44. -/
theorem headFaults : Obligations.HeadFaults := by
  unfold Obligations.HeadFaults
  rintro s h code c cause x quiet rfl command
  refine ⟨fun parked stopped fault offline drill permit => ?_, fun fault => ?_⟩
  · have one : s.cleared.WaitsForOne h := ⟨drill, permit⟩
    obtain ⟨out, head, claim, occurred, armFailed⟩ := one.faultHead (cause := cause)
    obtain ⟨head', claim', latch'⟩ := State.faultEvent_same out
    obtain ⟨table, dispatcher, heads, signature, heater, -, control, time, outgoing, -⟩ :=
      (s.cleared.faultEvent h cause).transmitTurn_frame
    have joint (i : Nat) : (s.cleared.faultEvent h cause).transmitTurn.joint? i = (s.cleared.faultEvent h cause).joint? i := by
      rw [State.joint?, table, State.joint?]
    have headOf (g : HeadNo) : (s.cleared.faultEvent h cause).transmitTurn.head g = (s.cleared.faultEvent h cause).head g := by
      rw [State.head, heads, State.head]
    refine ⟨_, exec_fault quiet command (HeadState.canFault_iff.2 ⟨parked, stopped, fault, offline⟩), ?_, ?_, ?_, ?_, ?_, ?_, ?_⟩
    · rw [headOf, head', head]
      rfl
    · rw [State.claim, dispatcher, ← State.claim, claim', claim]
      rfl
    · exact (State.Occurred.of_latch (s := s) (by exact occurred) latch').transmitTurn
    · intro i j held hj alone noPocket orders working
      obtain ⟨out', joint', rejected⟩ := one.faultHead_joint (cause := cause) held hj alone noPocket orders
      have stays := State.faultEvent_stays (s := s.cleared) (h := h) (cause := cause) fun failing =>
        working.elim (fun other => other failing.1) fun other => other failing.2
      have after := out'.holdTest.settleJoint s.cleared.table.currentPass
      rw [joint, heater, stays, after.left.joint i rfl, joint', Joint.reject_headFault]
      refine ⟨rfl, after.orders i rfl, ?_⟩
      exact (State.Occurred.of_latch (s := s) (by exact rejected) (after.left.latch _ rfl)).transmitTurn
    · intro d holds nobody
      rw [State.channel_congr signature, State.faultEvent_channel]
      exact State.vacated_channel (s := s.cleared) holds nobody
    · intro arming homing
      have fails := State.faultEvent_fails (s := s.cleared) (h := h) (cause := cause) ⟨arming, homing⟩
      rw [State.mode, control, ← State.mode, table, fails]
      refine ⟨State.failArm_mode, ?_, State.dropCorrected_joints _⟩
      have latch : ((s.cleared.faultHead h cause).enterMode .setup).latch .armFailed = s.latch .armFailed :=
        (State.enterMode_latch_ne (k := .armFailed) nofun _).trans armFailed
      have time : ((s.cleared.faultHead h cause).enterMode .setup).time = s.time := by
        rw [(State.enterMode_frame _ _).2.2.2.2.2.2.2.1, (State.faultHead_frame _ _ _).2.2.2.1]
        rfl
      have failed := State.Occurred.post latch time 3
      rw [State.enterMode_mode] at failed
      exact (failed.of_latch (u := (s.cleared.faultHead h cause).failArm) rfl).transmitTurn
    · intro still working noDrill noPermit noPocket
      have beside := State.faultEvent_beside (s := s.cleared) (h := h) (cause := cause) still working noDrill noPermit noPocket
      obtain ⟨dispatcher', -, heater', -, -, time', outgoing'⟩ := s.cleared.struck_same (h := h) (cause := cause)
      refine ⟨fun g other => ?_, ?_, ?_, fun i free => ?_, ?_, ?_, ?_⟩
      · rw [headOf, State.head, beside.heads, ← State.head, State.struck_head_ne other]
        rfl
      · rw [dispatcher, beside.dispatcher, dispatcher']
        rfl
      · rw [heater, beside.heater, heater']
        rfl
      · rw [joint, State.joint?, beside.table, ← State.joint?, State.struck_joint_ne (by exact free)]
        rfl
      · rw [table, beside.table, State.struck_datum]
        rfl
      · rw [time, beside.time, time']
        rfl
      · rw [outgoing, beside.outgoing, outgoing']
        rfl
  · have effect : s.cleared.driveFault h code = s.cleared.post .headFault h.val := by
      have state : (s.cleared.head h).state = .fault := fault
      rw [State.driveFault, if_neg (by rw [state]; nofun), if_pos state]
    obtain ⟨-, -, -, -, -, -, control, link, -⟩ := s.cleared.post_frame .headFault h.val
    exact congrArg Host.Outcome.next (State.command_event quiet effect link control)

end Sys2Proof.Machine
end
